-- ==== Sys2Proof/Word.lean ====
section
/-! DEFINITION. Word.lean: the word types of the part's link and lines. -/

namespace Sys2Proof

/-- One byte of the Supervisor Link or the data of one trunk character (R98, R166). -/
abbrev Byte := BitVec 8

/-- A two-byte payload field, a check, or a notice mask (R168, R176). -/
abbrev Word16 := BitVec 16

/-- A three-byte payload field: seconds of day (R176). -/
abbrev Word24 := BitVec 24

/-- A zone set: bit n stands for zone n (00_scope.md Conventions, R176). -/
abbrev ZoneSet := BitVec 32

end Sys2Proof
end

