-- ==== Sys2Proof/Syntax.lean ====
section
/-! DEFINITION. Syntax.lean: the commands of the part, one constructor per row of spec/opcode_table.json, with the
types of their operands. A request's operands are its payload fields at their payload widths (R176, R177). -/

namespace Sys2Proof

/-- A door number, 0 to 255 (R1). -/
abbrev DoorNo := Fin 256

/-- A zone number, 0 to 31 (R33). -/
abbrev ZoneNo := Fin 32

/-- A slot of the Sweep Table, 0 to 7 (R52). -/
abbrev SlotNo := Fin 8

/-- A lock class, 0 to 7 (R84). -/
abbrev ClassNo := Fin 8

/-- An Override Input, OV0 to OV7 (R133). -/
abbrev InputNo := Fin 8

/-- The four Door Trunks. -/
inductive Trunk where
  | A | B | C | D
  deriving DecidableEq, Repr

/-- The level of an input pin or strap. -/
inductive Level where
  | low | high
  deriving DecidableEq, Repr

/-- One character of a trunk line: its data, its mark bit, and whether its stop bit was wrong (R98). -/
structure LineChar where
  data : Byte
  mark : Bool
  framingError : Bool
  deriving DecidableEq, Repr

/-- What a trunk's receiver took in one reply window (R103, R104): whether a start bit began within 2 ms of the
down frame's end, and the characters received in full before the window ended, in order. -/
structure LineReply where
  inTime : Bool
  chars : List LineChar
  deriving DecidableEq, Repr

/-- The commands of the part. The mnemonic of each is its row's in spec/opcode_table.json. -/
inductive Instr where
  /-- COLD_RESET: RESET goes LOW and returns HIGH with the straps RATE1 and RATE0 at these levels (R2, R165). -/
  | coldReset (rate1 rate0 : Level)
  /-- STATUS (R179). -/
  | status
  /-- FETCH (R161). -/
  | fetch
  /-- DOOR_READ (R11). -/
  | doorRead (door : Byte)
  /-- ZONE_READ (R51). -/
  | zoneRead (zone : Byte)
  /-- SWEEP_READ (R81). -/
  | sweepRead (slot : Byte)
  /-- HOLD_READ (R132). -/
  | holdRead
  /-- PLAN_READ (R41). -/
  | planRead (zone : Byte)
  /-- CLOCK_SET: date (year less 2000, month, day) and seconds of day (R150). -/
  | clockSet (year month day : Byte) (seconds : Word24)
  /-- WEEK_SET: seven day types, Monday first (R152). -/
  | weekSet (mon tue wed thu fri sat sun : Byte)
  /-- DATE_ADD (R153). -/
  | dateAdd (year month day dayType : Byte)
  /-- DATE_REMOVE (R154). -/
  | dateRemove (year month day : Byte)
  /-- CLASS_SET (R85). -/
  | classSet (cls lockCost releaseCost limit retries : Byte)
  /-- TRUNK_SET (R120). -/
  | trunkSet (trunk budget runLength : Byte) (rest : Word16) (gap silence : Byte)
  /-- DOOR_SET (R8). -/
  | doorSet (door trunk address zone rank cls flags : Byte)
  /-- DOOR_CLEAR (R10). -/
  | doorClear (door : Byte)
  /-- ZONE_SET (R36). -/
  | zoneSet (zone rank lead chime passage ajar leader rule : Byte)
  /-- PLAN_STAGE (R39). -/
  | planStage (zone dayType : Byte) (lockup release : Word16)
  /-- PLAN_LOAD (R40). -/
  | planLoad (zone : Byte)
  /-- INPUT_SET (R135). -/
  | inputSet (input level function : Byte) (zones : ZoneSet) (kind : Byte)
  /-- NOTICE_MASK (R160). -/
  | noticeMask (mask : Word16)
  /-- SWEEP (R80). -/
  | sweep (zones : ZoneSet) (direction : Byte)
  /-- CANCEL (R76). -/
  | cancel (zones : ZoneSet)
  /-- DOOR_ACT (R29). -/
  | doorAct (door direction : Byte)
  /-- HOLD_ADD: kind, scope (form and value) and minutes (R123, R176). -/
  | holdAdd (kind form : Byte) (scope : ZoneSet) (minutes : Word16)
  /-- HOLD_END (R131). -/
  | holdEnd (id : Byte)
  /-- FIRE_RESTORE (R142). -/
  | fireRestore
  /-- RESTART (R180). -/
  | restart
  /-- LINK_CHARACTER: a character received on LRXD, and whether its stop bit was LOW (R165, R170). -/
  | linkCharacter (data : Byte) (framingError : Bool)
  /-- REQUEST_FRAME: the frame in TAKEN is passed on (R172). -/
  | requestFrame
  /-- RECEIVE_GAP (R170). -/
  | receiveGap
  /-- QUIET_WAIT_END (R171). -/
  | quietWaitEnd
  /-- REPLY_SENT (R174). -/
  | replySent
  /-- LINK_RESET (R175). -/
  | linkReset
  /-- SECOND_EVENT (R145). -/
  | secondEvent
  /-- EXIT_ALLOWANCE_END (R17). -/
  | exitAllowanceEnd (door : DoorNo)
  /-- LONG_PASSAGE (R21). -/
  | longPassage (door : DoorNo)
  /-- AJAR_REMINDER (R24). -/
  | ajarReminder (door : DoorNo)
  /-- WARNING_END (R64). -/
  | warningEnd (slot : SlotNo)
  /-- HOLD_COUNTDOWN_END (R127). -/
  | holdCountdownEnd (id : Byte)
  /-- REST_END (R90). -/
  | restEnd (trunk : Trunk)
  /-- DRIVE_TIMEOUT: the limit of this door's DRIVING record runs out (R92). -/
  | driveTimeout (door : DoorNo)
  /-- SEND_FRAME: the trunk's line is free after `waited` more milliseconds (R114). -/
  | sendFrame (trunk : Trunk) (waited : Nat)
  /-- FRAME_OUTCOME: the reply to the frame on the trunk's line is judged (R104). -/
  | frameOutcome (trunk : Trunk) (reply : LineReply)
  /-- WINDOW_END: the seven bits read in the window on the trunk's line, slot 1 the most significant (R118, R119). -/
  | windowEnd (trunk : Trunk) (bits : BitVec 7)
  /-- INPUT_LEVEL_CHANGE: the sampled level of an input (R134). -/
  | inputLevelChange (input : InputNo) (level : Level)
  /-- LEVEL_ACCEPTED: the input's candidate has held for 50 ms (R134). -/
  | levelAccepted (input : InputNo)
  deriving DecidableEq, Repr

end Sys2Proof
end

