-- ==== Sys2Proof/Decode.lean ====
section
/-! DEFINITION. Decode.lean: the command a word spells by the bits of spec/opcode_table.json. Every row of that
table has an empty list of fields, so no word spells a command. The part's own frames are read by Machine/Link.lean. -/

namespace Sys2Proof

/-- No row of the opcode table gives bits, so no word spells a command. -/
def decodeTableWord (_nbits _w : Nat) : Option Instr := none

end Sys2Proof
end

