-- ==== Sys2Proof/Config.lean ====
section
/-! DEFINITION. Config.lean: the numbers the spec fixes for this part. The spec leaves no value of a result open,
so there is no free value here. -/

namespace Sys2Proof.Config

/-- The Notice Set holds up to 48 notices (R155). -/
def maxNotices : Nat := 48

/-- A notice's count saturates at 255 (R155, R158). -/
def maxNoticeCount : Nat := 255

/-- The Hold List holds at most 16 holds (R121). -/
def maxHolds : Nat := 16

/-- The exception date list holds at most 24 entries (R153). -/
def maxExceptions : Nat := 24

/-- A trunk becomes DOWN at 16 failures in a row (R108, R112). -/
def downAfter : Nat := 16

/-- A WINDOW is sent after 8 other frames (R114). -/
def framesPerWindow : Nat := 8

/-- Tenths of a bit time in a millisecond, at the 62,500 bit/s of a trunk (R98). -/
def tenthsPerMs : Nat := 625

/-- A settle poll is due 200 ms after the last frame sent for the door (R115), in tenths of a bit time; the time since
that frame is counted no further. -/
def settleInterval : Nat := tenthsPerMs * 200

/-- The largest poll gap, 255 ms (R110), in tenths of a bit time; the time since the last patrol poll is counted no
further. -/
def maxPollGap : Nat := tenthsPerMs * 255

/-- The debounce time, 50 ms (R134). -/
def debounce : Nat := 50

/-- The receive gap and the quiet wait, 20 ms (R170, R171). -/
def quietTime : Nat := 20

/-- The last second of a day (R145). -/
def lastSecond : Nat := 86399

end Sys2Proof.Config
end

