-- ==== Sys2Proof/Machine/State.lean ====
section
/-! DEFINITION. Machine/State.lean: every piece of state the spec gives the part, as plain data, with the machine
right after reset. Names and ranges are the spec's; the rule that names a field is cited beside it. -/

namespace Sys2Proof.Machine

/-- The direction of a sweep, a drive or an entry (00_scope.md Terms). -/
inductive Direction where
  | lock | release
  deriving DecidableEq, Repr

/-- The class of a queue entry (R86). -/
inductive QueueClass where
  | urgent | routine
  deriving DecidableEq, Repr

/-- What the part wants a door to be (R1). -/
inductive Intent where
  | none | lock | release
  deriving DecidableEq, Repr

/-- A countdown of seconds or minutes (R17, R21, R24, R64, R127): what is left, at least 1, and whether the second or
minute that takes the last of it has come, so that its end, a step of its own, is still to be taken (log 4). -/
structure Countdown where
  left : Nat
  ending : Bool
  deriving DecidableEq, Repr

/-- The nine door states (R1). -/
inductive DoorState where
  | unknown | released | waiting | acting | secured | ajar | passage | jammed | forced
  deriving DecidableEq, Repr

/-- A door's position as last reported (R1). -/
inductive Position where
  | closed | opened | unknown
  deriving DecidableEq, Repr

/-- A door's bolt as last reported (R1). -/
inductive Bolt where
  | thrown | withdrawn | moving | unknown
  deriving DecidableEq, Repr

/-- The part's judgement of a node (R1). -/
inductive Health where
  | new | heard | silent
  deriving DecidableEq, Repr

/-- The six standings of a linked door (R54). -/
inductive Count where
  | done | pending | ajar | jammed | held | unreachable
  deriving DecidableEq, Repr

/-- A door's sweep link together with its sweep count, which is present while the link is (R1). -/
structure SweepLink where
  slot : SlotNo
  count : Count
  deriving DecidableEq, Repr

/-- One door record (R1). `sinceFrame` is the time since the last frame for the door was sent, in tenths of a bit time:
a frame is sent at the end of its last character, so that the time is negative while characters of it are still to come
(R115, R116, log 7). `unreached` says that
the finish of a sweep left the door counted unreachable and that it has not been heard since (R75, log 23). -/
structure Door where
  configured : Bool
  trunk : Trunk
  address : Nat
  zone : ZoneNo
  rank : Nat
  cls : ClassNo
  fire : Bool
  exit : Bool
  chime : Bool
  state : DoorState
  intent : Intent
  keepOpen : Bool
  attempts : Nat
  position : Position
  bolt : Bolt
  health : Health
  misses : Nat
  sweep : Option SweepLink
  passage : Option Countdown
  allowance : Option Countdown
  reminder : Option Countdown
  sinceFrame : Int
  unreached : Bool
  deriving DecidableEq, Repr

/-- The four day types (00_scope.md Conventions). -/
inductive DayType where
  | term | short | weekend | closed
  deriving DecidableEq, Repr

/-- The lockup and release minute of one day type; `none` is NONE (R33). -/
structure DayPlan where
  lockup : Option Nat
  release : Option Nat
  deriving DecidableEq, Repr

/-- A plan has eight entries (R33). -/
structure Plan where
  term : DayPlan
  short : DayPlan
  weekend : DayPlan
  closed : DayPlan
  deriving DecidableEq, Repr

/-- When a group loads (R43). -/
inductive LoadRule where
  | immediate | rollover | afterSweep
  deriving DecidableEq, Repr

/-- The derived zone state (R48). -/
inductive ZoneState where
  | opened | warning | securing | secured | partly | releasing | fire | unknown
  deriving DecidableEq, Repr

/-- Why a sweep fell due (R46). -/
inductive Origin where
  | schedule | link | input | trailing | restore
  deriving DecidableEq, Repr

/-- A due marker (R33, R46). -/
structure Marker where
  direction : Direction
  origin : Origin
  deriving DecidableEq, Repr

/-- One zone record (R33). -/
structure Zone where
  rank : Nat
  lead : Nat
  chime : Nat
  passageLimit : Nat
  ajarInterval : Nat
  leader : ZoneNo
  rule : LoadRule
  staged : Plan
  live : Plan
  loadPending : Bool
  state : ZoneState
  marker : Option Marker
  last : Option Direction
  deriving DecidableEq, Repr

/-- The phase of a sweep, with the warning remaining while it is in WARNING (R52). -/
inductive Phase where
  | warning (remaining : Countdown)
  | active
  deriving DecidableEq, Repr

/-- The six counts of a sweep record (R52, R54). -/
structure Counts where
  done : Nat
  pending : Nat
  ajar : Nat
  jammed : Nat
  held : Nat
  unreachable : Nat
  deriving DecidableEq, Repr

/-- One sweep record (R52). -/
structure Sweep where
  zone : ZoneNo
  direction : Direction
  origin : Origin
  phase : Phase
  total : Nat
  counts : Counts
  deriving DecidableEq, Repr

/-- One entry of the Class Table (R84). -/
structure LockClass where
  lockCost : Nat
  releaseCost : Nat
  limit : Nat
  retries : Nat
  deriving DecidableEq, Repr

/-- One entry of an actuation queue (R86). -/
structure Entry where
  door : DoorNo
  direction : Direction
  cls : QueueClass
  deriving DecidableEq, Repr

/-- The phase of an actuation, with the limit remaining in milliseconds while DRIVING (R91). -/
inductive DrivePhase where
  | granted
  | driving (remaining : Nat)
  deriving DecidableEq, Repr

/-- One in-flight record (R91). -/
structure Record where
  door : DoorNo
  direction : Direction
  cls : QueueClass
  units : Nat
  phase : DrivePhase
  deriving DecidableEq, Repr

/-- The trunk states (R110). -/
inductive TrunkMode where
  | off | running | down
  deriving DecidableEq, Repr

/-- One entry of a warn list (R117). -/
structure WarnEntry where
  door : DoorNo
  pattern : Nat
  minutes : Nat
  deriving DecidableEq, Repr

/-- The down frames that have a reply (R99); what kind of poll is sent makes no difference to the node. -/
inductive FrameKind where
  | poll
  | drive (direction : Direction)
  | warn (pattern minutes : Nat)
  deriving DecidableEq, Repr

/-- A frame on a line: its kind, the door it is sent for with the address it carries, and its characters as put on
the trunk's transmit output (R99, R103). `place` is how far the line is from the frame's first bit, in tenths of a bit
time (R98, R103, log 17). -/
structure LineFrame where
  kind : FrameKind
  door : DoorNo
  address : Nat
  chars : List LineChar
  place : Nat
  deriving DecidableEq, Repr

/-- A WINDOW frame with its bit slots: the frame's characters, and the place as in a frame (R103, R118). -/
structure LineWindow where
  chars : List LineChar
  place : Nat
  deriving DecidableEq, Repr

/-- A trunk's line: free, occupied by a frame until its outcome, or by an alert window until its last bit slot. A
warm restart abandons what is on the line (R103, R105). -/
inductive Line where
  | free
  | frame (f : LineFrame) (abandoned : Bool)
  | window (w : LineWindow) (abandoned : Bool)
  deriving DecidableEq, Repr

/-- The state of one trunk: its supply (R82) and its line (R110). `restRemaining` is present while resting;
`sincePatrol` is the time since the last patrol poll was sent, in tenths of a bit time and negative until the end of its
last character, as `Door.sinceFrame` (R116). -/
structure TrunkState where
  budget : Nat
  runLength : Nat
  restInterval : Nat
  queue : List Entry
  inFlight : List Record
  freeUnits : Nat
  runCount : Nat
  restRemaining : Option Nat
  mode : TrunkMode
  failures : Nat
  patrolCursor : Nat
  sincePatrol : Option Int
  sinceWindow : Nat
  urgentPoll : Option Nat
  warnList : List WarnEntry
  pollGap : Nat
  silenceLimit : Nat
  line : Line
  deriving DecidableEq, Repr

/-- The two kinds of hold (R121). -/
inductive HoldKind where
  | keepOpen | defer
  deriving DecidableEq, Repr

/-- What a hold covers (R121, R122). -/
inductive Scope where
  | zones (set : ZoneSet)
  | door (d : DoorNo)
  deriving DecidableEq, Repr

/-- Who made a hold (R121). -/
inductive HoldOrigin where
  | link
  | input (i : InputNo)
  deriving DecidableEq, Repr

/-- One hold record (R121). -/
structure Hold where
  id : Nat
  kind : HoldKind
  scope : Scope
  origin : HoldOrigin
  remaining : Option Countdown
  deriving DecidableEq, Repr

/-- Why a hold ended (R128). -/
inductive HoldCause where
  | countdown | request | input | inputSet
  deriving DecidableEq, Repr

/-- The function of an input (R133). -/
inductive InputFunction where
  | none | hold | lock | release | report | fire
  deriving DecidableEq, Repr

/-- A candidate level with the milliseconds it has held (R133, R134). -/
structure Candidate where
  level : Level
  held : Nat
  deriving DecidableEq, Repr

/-- One Override Input (R133). -/
structure Input where
  activeLevel : Level
  function : InputFunction
  zones : ZoneSet
  kind : HoldKind
  level : Option Level
  candidate : Option Candidate
  owned : Option Nat
  deriving DecidableEq, Repr

/-- The fire state (R138). -/
inductive FireState where
  | normal | active | cleared
  deriving DecidableEq, Repr

/-- A date: year less 2000, month and day (R144, R176). -/
structure Date where
  year : Nat
  month : Nat
  day : Nat
  deriving DecidableEq, Repr

/-- An entry of the exception date list (R153). -/
structure DateEntry where
  date : Date
  dayType : DayType
  deriving DecidableEq, Repr

/-- The Day Clock (R144). The week pattern is Monday first. `restarted` says that an accepted CLOCK_SET has restarted the
current second and no time has passed since (R150, R151, log 19). -/
structure Clock where
  seconds : Nat
  date : Date
  valid : Bool
  dayType : DayType
  week : Vector DayType 7
  exceptions : List DateEntry
  restarted : Bool
  deriving DecidableEq, Repr

/-- The sixteen kinds of notice, in the order of R156. -/
inductive NoticeKind where
  | fireOn | forced | trunkDown | jammed | silent | ajar | longPassage | sweepDone | sweepWaiting | fireOff
  | holdEnded | trunkUp | nodeBack | keyed | input | restarted
  deriving DecidableEq, Repr

/-- What a notice is about (R155). -/
inductive Subject where
  | none
  | door (d : DoorNo)
  | zone (z : ZoneNo)
  | trunk (t : Trunk)
  | hold (id : Nat)
  | input (i : InputNo)
  deriving DecidableEq, Repr

/-- The detail of a notice, by kind (R156, R178). -/
inductive Detail where
  /-- FORCED, SILENT, AJAR, LONG_PASSAGE, NODE_BACK, KEYED. -/
  | door (state : DoorState) (position : Position) (bolt : Bolt)
  /-- JAMMED. -/
  | jammed (state : DoorState) (position : Position) (bolt : Bolt) (direction : Direction) (attempts : Nat)
  /-- FIRE_ON. -/
  | fireOn (zones doors cancelled cleared : Nat)
  /-- TRUNK_DOWN. -/
  | trunkDown (doors queued inFlight : Nat)
  /-- SWEEP_DONE. -/
  | sweepDone (direction : Direction) (origin : Origin) (cancelled : Bool) (total : Nat) (counts : Counts)
  /-- SWEEP_WAITING. -/
  | sweepWaiting (direction : Direction) (origin : Origin) (waiting : Nat)
  /-- FIRE_OFF. -/
  | fireOff (notReleased : Nat)
  /-- HOLD_ENDED. -/
  | holdEnded (kind : HoldKind) (scope : Scope) (origin : HoldOrigin) (cause : HoldCause) (freed : Nat)
  /-- TRUNK_UP. -/
  | trunkUp (queued : Nat)
  /-- INPUT; `refused` is cause HOLD_REFUSED, otherwise CHANGE. -/
  | input (level : Level) (active : Bool) (refused : Bool)
  /-- RESTARTED; `cold` is COLD, otherwise WARM. -/
  | restarted (cold : Bool)
  deriving DecidableEq, Repr

/-- One notice (R155). Its priority is fixed by its kind (R156). -/
structure Notice where
  kind : NoticeKind
  subject : Subject
  first : Option Nat
  last : Option Nat
  count : Nat
  detail : Detail
  deriving DecidableEq, Repr

/-- The Notice Set (R155). Bit k-1 of the mask stands for kind k (R176). -/
structure NoticeSet where
  notices : List Notice
  mask : Word16
  lost : Bool
  alert : Bool
  deriving DecidableEq, Repr

/-- The receiver states (R169). -/
inductive ReceiverMode where
  | hunt | receiving | taken
  deriving DecidableEq, Repr

/-- The receiver of the Supervisor Link (R169). -/
structure Receiver where
  mode : ReceiverMode
  quietWait : Bool
  buffer : List Byte
  expected : Option Nat
  gap : Option Nat
  deriving DecidableEq, Repr

/-- The transmitter of the Supervisor Link: the bytes of the reply being sent and of the waiting BUSY (R174), and the
character that a link reset left on the line (R175). `place` is how far what is on the line has been sent, in tenths of a
bit time (logs 17, 21). -/
structure Transmitter where
  current : Option (List Byte)
  busy : Option (List Byte)
  place : Nat
  tail : Option Byte
  deriving DecidableEq, Repr

/-- The link rates (R165). -/
inductive LinkRate where
  | bps9600 | bps19200 | bps38400 | bps115200
  deriving DecidableEq, Repr

/-- The result codes (R173). -/
inductive Result where
  | ok | check | length | kind | range | state | conflict | full | sweep | held | fire | busy
  deriving DecidableEq, Repr

/-- A block's result for a request: the result code and the payload of its reply (R167, R173). -/
structure Answer where
  result : Result
  payload : List Byte
  deriving DecidableEq, Repr

/-- The state of the part. `blockResult` is the result of the request taken last; `pending` is the queue of commands
that are waiting, the front first. -/
structure State where
  doors : Vector Door 256
  zones : Vector Zone 32
  slots : Vector (Option Sweep) 8
  classes : Vector LockClass 8
  trunks : Vector TrunkState 4
  holds : List Hold
  lastHoldId : Nat
  inputs : Vector Input 8
  fire : FireState
  clock : Clock
  noticeSet : NoticeSet
  receiver : Receiver
  transmitter : Transmitter
  rate : LinkRate
  blockResult : Option Answer
  pending : List Instr
  deriving DecidableEq, Repr

/-- The spec names no event that stops the part, so there is no fault. -/
inductive Fault where
  deriving DecidableEq, Repr

/-- Why a command has no meaning. -/
inductive Refusal where
  /-- Raised by `exec`'s arm of a command that has no meaning yet (safe: nothing is claimed of it). -/
  | notModelled (mnemonic : String)
  deriving DecidableEq, Repr

/-- What a command or a step answers. -/
abbrev Out := Host.Outcome State Fault Refusal

/-- A door record's values after a cold reset (R2). -/
def Door.cold : Door where
  configured := false
  trunk := .A
  address := 1
  zone := 0
  rank := 0
  cls := 0
  fire := false
  exit := false
  chime := false
  state := .unknown
  intent := .none
  keepOpen := false
  attempts := 0
  position := .unknown
  bolt := .unknown
  health := .new
  misses := 0
  sweep := none
  passage := none
  allowance := none
  reminder := none
  sinceFrame := Config.settleInterval
  unreached := false

/-- NONE in both entries (R34). -/
def DayPlan.empty : DayPlan := ⟨none, none⟩

/-- NONE in all eight entries (R34). -/
def Plan.empty : Plan := ⟨.empty, .empty, .empty, .empty⟩

/-- A zone record's values after a cold reset (R34). -/
def Zone.cold (z : ZoneNo) : Zone where
  rank := z.val
  lead := 0
  chime := 0
  passageLimit := 30
  ajarInterval := 15
  leader := z
  rule := .rollover
  staged := Plan.empty
  live := Plan.empty
  loadPending := false
  state := .opened
  marker := none
  last := none

/-- A lock class's defaults (R84). -/
def LockClass.cold : LockClass := ⟨1, 1, 4, 2⟩

/-- A trunk's values after a cold reset (R82, R110). -/
def TrunkState.cold : TrunkState where
  budget := 12
  runLength := 8
  restInterval := 500
  queue := []
  inFlight := []
  freeUnits := 12
  runCount := 0
  restRemaining := none
  mode := .off
  failures := 0
  patrolCursor := 1
  sincePatrol := none
  sinceWindow := 0
  urgentPoll := none
  warnList := []
  pollGap := 20
  silenceLimit := 3
  line := .free

/-- An input's values after a cold reset (R133). -/
def Input.cold (i : InputNo) : Input where
  activeLevel := .low
  function := if i = 0 then .fire else .none
  zones := 0
  kind := .defer
  level := none
  candidate := none
  owned := none

/-- The Day Clock after a cold reset (R144). -/
def Clock.cold : Clock where
  seconds := 0
  date := ⟨0, 1, 1⟩
  valid := false
  dayType := .weekend
  week := #v[.term, .term, .term, .term, .term, .weekend, .weekend]
  exceptions := []
  restarted := false

/-- The Notice Set after a cold reset: RESTARTED with detail COLD has entered and ALERT is active (R164). -/
def NoticeSet.cold : NoticeSet where
  notices := [⟨.restarted, .none, none, none, 1, .restarted true⟩]
  mask := 0
  lost := false
  alert := true

/-- The receiver after a cold reset and after a link reset (R169). -/
def Receiver.cold : Receiver := ⟨.hunt, false, [], none, none⟩

/-- The transmitter with nothing to send and nothing on the line, as after a cold reset (R174). -/
def Transmitter.cold : Transmitter := ⟨none, none, 0, none⟩

/-- The part after a cold reset with the straps giving this rate, its queue of commands empty. -/
def State.cold (rate : LinkRate) : State where
  doors := Vector.replicate 256 Door.cold
  zones := Vector.ofFn Zone.cold
  slots := Vector.replicate 8 none
  classes := Vector.replicate 8 LockClass.cold
  trunks := Vector.replicate 4 TrunkState.cold
  holds := []
  lastHoldId := 0
  inputs := Vector.ofFn Input.cold
  fire := .normal
  clock := Clock.cold
  noticeSet := NoticeSet.cold
  receiver := Receiver.cold
  transmitter := Transmitter.cold
  rate := rate
  blockResult := none
  pending := []

/-- The machine right after reset. The straps' levels are the board's; both LOW is a DESIGN CHOICE (log 9). -/
def State.reset : State := State.cold .bps9600

end Sys2Proof.Machine
end

