-- ==== Sys2Proof/Machine/Ops.lean ====
section
/-! DEFINITION. Machine/Ops.lean: the named reads and writes of the part's state, the ordered lists it keeps
(actuation queue, warn list), and the walks over doors, zones and slots. -/

namespace Sys2Proof.Machine

/-- A trunk's place in the table of trunks. -/
def trunkIdx : Trunk → Fin 4
  | .A => 0
  | .B => 1
  | .C => 2
  | .D => 3

/-- The four trunks in order. -/
def allTrunks : List Trunk := [.A, .B, .C, .D]

/-! ### Reads and writes of one record -/

/-- A door's record (R1). -/
def State.door (s : State) (d : DoorNo) : Door := s.doors[d.val]

/-- Write a door's record. -/
def State.setDoor (s : State) (d : DoorNo) (x : Door) : State := { s with doors := s.doors.set d.val x }

/-- Change a door's record. -/
def State.updDoor (s : State) (d : DoorNo) (f : Door → Door) : State := s.setDoor d (f (s.door d))

/-- A zone's record (R33). -/
def State.zone (s : State) (z : ZoneNo) : Zone := s.zones[z.val]

/-- Write a zone's record. -/
def State.setZone (s : State) (z : ZoneNo) (x : Zone) : State := { s with zones := s.zones.set z.val x }

/-- Change a zone's record. -/
def State.updZone (s : State) (z : ZoneNo) (f : Zone → Zone) : State := s.setZone z (f (s.zone z))

/-- A slot of the Sweep Table (R52). -/
def State.slot (s : State) (k : SlotNo) : Option Sweep := s.slots[k.val]

/-- Write a slot. -/
def State.setSlot (s : State) (k : SlotNo) (x : Option Sweep) : State := { s with slots := s.slots.set k.val x }

/-- Change the sweep a slot holds, if it holds one. -/
def State.updSlot (s : State) (k : SlotNo) (f : Sweep → Sweep) : State := s.setSlot k ((s.slot k).map f)

/-- A lock class (R84). -/
def State.lockClass (s : State) (c : ClassNo) : LockClass := s.classes[c.val]

/-- A trunk's state (R82, R110). -/
def State.trunk (s : State) (t : Trunk) : TrunkState := s.trunks[(trunkIdx t).val]

/-- Write a trunk's state. -/
def State.setTrunk (s : State) (t : Trunk) (x : TrunkState) : State :=
  { s with trunks := s.trunks.set (trunkIdx t).val x }

/-- Change a trunk's state. -/
def State.updTrunk (s : State) (t : Trunk) (f : TrunkState → TrunkState) : State := s.setTrunk t (f (s.trunk t))

/-- An input's state (R133). -/
def State.input (s : State) (i : InputNo) : Input := s.inputs[i.val]

/-- Write an input's state. -/
def State.setInput (s : State) (i : InputNo) (x : Input) : State := { s with inputs := s.inputs.set i.val x }

/-- Change an input's state. -/
def State.updInput (s : State) (i : InputNo) (f : Input → Input) : State := s.setInput i (f (s.input i))

/-! ### Walks -/

/-- Every entry of a table changed by `f`; as a list, so that the kernel evaluates it in one pass. -/
def mapAll {α β : Type} {n : Nat} (f : α → β) (v : Vector α n) : Vector β n := ⟨⟨v.toList.map f⟩, by simp⟩

/-- Apply `f` for each of a list in order. -/
def forEach {α : Type} (l : List α) (f : α → State → State) (s : State) : State :=
  l.foldl (fun s a => f a s) s

/-- The Door Table as pairs of door number and record, in ascending door number. -/
def State.doorList (s : State) : List (DoorNo × Door) := (List.finRange 256).zip s.doors.toList

/-- The configured doors that meet a test, in ascending door number. -/
def State.doorsWhere (s : State) (p : DoorNo → Door → Bool) : List DoorNo :=
  (s.doorList.filter (fun e => e.2.configured && p e.1 e.2)).map Prod.fst

/-- The records of the configured doors of a zone. -/
def State.zoneDoors (s : State) (z : ZoneNo) : List Door :=
  s.doors.toList.filter (fun x => x.configured && x.zone == z)

/-- Whether a trunk has a configured door (R110). -/
def State.trunkHasDoor (s : State) (t : Trunk) : Bool :=
  s.doors.toList.any (fun x => x.configured && x.trunk == t)

/-- The configured door with a trunk and address, if there is one (R8 keeps it single). -/
def State.doorAt (s : State) (t : Trunk) (address : Nat) : Option DoorNo :=
  (s.doorsWhere (fun _ x => x.trunk == t && x.address == address)).head?

/-- Insert keeping ascending keys; an element goes before the first whose key is not smaller. -/
def insertByKey {α : Type} (key : α → Nat) (a : α) : List α → List α
  | [] => [a]
  | b :: l => if key a ≤ key b then a :: b :: l else b :: insertByKey key a l

/-- Stable sort by ascending key. -/
def sortByKey {α : Type} (key : α → Nat) (l : List α) : List α := l.foldr (insertByKey key) []

/-- Doors given in ascending door number, put in order of (door rank, door number) (R65). -/
def State.inRankOrder (s : State) (l : List DoorNo) : List DoorNo := sortByKey (fun d => (s.door d).rank) l

/-- Zones given in ascending zone number, put in order of (zone rank, zone number) (R57, R59). -/
def State.zonesInRankOrder (s : State) (l : List ZoneNo) : List ZoneNo := sortByKey (fun z => (s.zone z).rank) l

/-- The zones of a zone set, ascending. -/
def zonesOf (set : ZoneSet) : List ZoneNo := (List.finRange 32).filter (fun z => set.getLsbD z.val)

/-- The zone set of a list of zones. -/
def zoneSetOf (l : List ZoneNo) : ZoneSet := l.foldl (fun m z => m ||| (1#32 <<< z.val)) 0

/-- The occupied slots with their sweeps, in ascending slot number. -/
def State.sweeps (s : State) : List (SlotNo × Sweep) :=
  (List.finRange 8).filterMap (fun k => (s.slot k).map (fun w => (k, w)))

/-- The active sweep of a zone, in either phase, with its slot (R52). -/
def State.sweepOf (s : State) (z : ZoneNo) : Option (SlotNo × Sweep) :=
  s.sweeps.find? (fun e => e.2.zone == z)

/-- The lowest-numbered free slot (R56). -/
def State.freeSlot (s : State) : Option SlotNo := (List.finRange 8).find? (fun k => (s.slot k).isNone)

/-- The zones that hold a due marker, in ascending zone number. -/
def State.waitingZones (s : State) : List ZoneNo :=
  (List.finRange 32).filter (fun z => (s.zone z).marker.isSome)

/-! ### The actuation queue as a list (R86, R87) -/

/-- An entry's class is URGENT. -/
def Entry.isUrgent (e : Entry) : Bool := e.cls == .urgent

/-- The URGENT entries, in their order. -/
def urgentPart (q : List Entry) : List Entry := q.filter Entry.isUrgent

/-- The ROUTINE entries, in their order. -/
def routinePart (q : List Entry) : List Entry := q.filter (fun e => !e.isUrgent)

/-- Join at the tail of the entry's class; every URGENT entry stands ahead of every ROUTINE entry (R86). -/
def joinTail (e : Entry) (q : List Entry) : List Entry :=
  if e.isUrgent then urgentPart q ++ e :: routinePart q else urgentPart q ++ (routinePart q ++ [e])

/-- The entry is one of those that `before` names by door and class. -/
def Entry.isAmong (before : List (DoorNo × QueueClass)) (x : Entry) : Bool := before.contains (x.door, x.cls)

/-- Put `e` at the head of a class, behind the entries of `before` that stand there. -/
def joinAfter (before : List (DoorNo × QueueClass)) (e : Entry) (part : List Entry) : List Entry :=
  part.takeWhile (Entry.isAmong before) ++ e :: part.dropWhile (Entry.isAmong before)

/-- Join at the head of the entry's class, behind the entries returned to it earlier by the same event (R95). -/
def joinHead (before : List (DoorNo × QueueClass)) (e : Entry) (q : List Entry) : List Entry :=
  if e.isUrgent then joinAfter before e (urgentPart q) ++ routinePart q
  else urgentPart q ++ joinAfter before e (routinePart q)

/-- The queue without a door's entry; the others close up in their order (R87). -/
def withoutDoor (d : DoorNo) (q : List Entry) : List Entry := q.filter (fun e => !(e.door == d))

/-- A door's entry in the queue. -/
def entryOf (d : DoorNo) (q : List Entry) : Option Entry := q.find? (fun e => e.door == d)

/-- Replacement in place, or at the tail of the URGENT entries when a ROUTINE entry is raised (R31, R87). -/
def replaceEntry (d : DoorNo) (dir : Direction) (cls : QueueClass) (q : List Entry) : List Entry :=
  match entryOf d q with
  | none => q
  | some e =>
    if cls = .urgent ∧ e.cls = .routine then joinTail ⟨d, dir, .urgent⟩ (withoutDoor d q)
    else q.map (fun x => if x.door = d then { x with direction := dir } else x)

/-! ### In-flight records as a list (R91) -/

/-- A door's in-flight record. -/
def recordOf (d : DoorNo) (l : List Record) : Option Record := l.find? (fun r => r.door == d)

/-- The units held by a list of records (R83). -/
def unitsHeld (l : List Record) : Nat := (l.map Record.units).sum

/-- The run count becomes 0 when the queue is empty (R87). -/
def TrunkState.settleRun (x : TrunkState) : TrunkState :=
  if x.queue.isEmpty then { x with runCount := 0 } else x

/-- Remove a door's entry from the queue (R87). -/
def TrunkState.dropEntry (d : DoorNo) (x : TrunkState) : TrunkState :=
  TrunkState.settleRun { x with queue := withoutDoor d x.queue }

/-- Remove a door's in-flight record and return the units it holds, in one step (R93). -/
def TrunkState.dropRecord (d : DoorNo) (x : TrunkState) : TrunkState :=
  { x with
    inFlight := x.inFlight.filter (fun r => !(r.door == d))
    freeUnits := x.freeUnits + unitsHeld (x.inFlight.filter (fun r => r.door == d)) }

/-- Change a door's in-flight record (R32, R91); its units stay. -/
def TrunkState.updRecord (d : DoorNo) (cls : QueueClass → QueueClass) (phase : DrivePhase → DrivePhase)
    (x : TrunkState) : TrunkState :=
  { x with inFlight := x.inFlight.map (fun r =>
      if r.door = d then { r with cls := cls r.cls, phase := phase r.phase } else r) }

/-! ### The warn list (R117) -/

/-- Place an entry: it joins the tail, or replaces the door's entry in its place. -/
def putWarn (e : WarnEntry) (l : List WarnEntry) : List WarnEntry :=
  if l.any (fun x => x.door == e.door) then l.map (fun x => if x.door = e.door then e else x) else l ++ [e]

/-- The list without a door's entry. -/
def dropWarn (d : DoorNo) (l : List WarnEntry) : List WarnEntry := l.filter (fun x => !(x.door == d))

/-! ### The counts of a sweep (R54) -/

/-- One count of the six. -/
def Counts.get (c : Counts) : Count → Nat
  | .done => c.done
  | .pending => c.pending
  | .ajar => c.ajar
  | .jammed => c.jammed
  | .held => c.held
  | .unreachable => c.unreachable

/-- Change one count of the six. -/
def Counts.upd (c : Counts) (k : Count) (f : Nat → Nat) : Counts :=
  match k with
  | .done => { c with done := f c.done }
  | .pending => { c with pending := f c.pending }
  | .ajar => { c with ajar := f c.ajar }
  | .jammed => { c with jammed := f c.jammed }
  | .held => { c with held := f c.held }
  | .unreachable => { c with unreachable := f c.unreachable }

/-- The sum of the six counts. -/
def Counts.sum (c : Counts) : Nat := c.done + c.pending + c.ajar + c.jammed + c.held + c.unreachable

/-- All six counts 0. -/
def Counts.zero : Counts := ⟨0, 0, 0, 0, 0, 0⟩

/-- A door moves from one count to another; if they are the same count, nothing moves (R70). -/
def Counts.move (c : Counts) (old new : Count) : Counts :=
  if old = new then c else (c.upd old (· - 1)).upd new (· + 1)

/-! ### Plans (R33) -/

/-- The entries of one day type. -/
def Plan.get (p : Plan) : DayType → DayPlan
  | .term => p.term
  | .short => p.short
  | .weekend => p.weekend
  | .closed => p.closed

/-- Replace the entries of one day type. -/
def Plan.set (p : Plan) (t : DayType) (x : DayPlan) : Plan :=
  match t with
  | .term => { p with term := x }
  | .short => { p with short := x }
  | .weekend => { p with weekend := x }
  | .closed => { p with closed := x }

/-! ### Countdowns -/

/-- A countdown that begins. -/
def Countdown.start (n : Nat) : Countdown := ⟨n, false⟩

/-- A second or minute passes: the count is decreased, and its last unit is left to the step of its end (log 4). -/
def Countdown.tick (c : Countdown) : Countdown :=
  if c.left ≤ 1 then { c with ending := true } else { c with left := c.left - 1 }

/-- A countdown that is present and whose end is to be taken. -/
def isEnding (c : Option Countdown) : Bool := c.any Countdown.ending

/-! ### Doors at a restart and intents -/

/-- The dynamic fields take their warm-restart values (R3). -/
def Door.warm (x : Door) : Door :=
  { Door.cold with
    configured := x.configured, trunk := x.trunk, address := x.address, zone := x.zone, rank := x.rank,
    cls := x.cls, fire := x.fire, exit := x.exit, chime := x.chime }

/-- The intent for a direction. -/
def Direction.intent : Direction → Intent
  | .lock => .lock
  | .release => .release

/-- Intent NONE also sets the keep-open mark to no (R78, R125, R129). -/
def Door.noIntent (x : Door) : Door := { x with intent := .none, keepOpen := false }

/-- Intent LOCK with the keep-open mark no (R14, R18, R20, R65). -/
def Door.wantLock (x : Door) : Door := { x with intent := .lock, keepOpen := false }

end Sys2Proof.Machine
end

