-- ==== Sys2Proof/Machine/Flags.lean ====
section
/-! DEFINITION. Machine/Flags.lean: the conditions the rules test and the flags that are computed from other state:
held, fire-locked-out, fire-barred, matching, locked period, the derived zone state, and input activity. -/

namespace Sys2Proof.Machine

/-- A hold covers a configured door by a zone set that contains its zone or by naming it (R122). -/
def Hold.covers (h : Hold) (d : DoorNo) (x : Door) : Bool :=
  x.configured && (match h.scope with
    | .zones m => m.getLsbD x.zone.val
    | .door n => n == d)

/-- A door is held while at least one hold covers it (1.2). -/
def State.held (s : State) (d : DoorNo) : Bool := s.holds.any (fun h => h.covers d (s.door d))

/-- A door is fire-locked-out while its fire flag is set and the fire state is not NORMAL (1.2). -/
def State.fireLockedOut (s : State) (d : DoorNo) : Bool := (s.door d).fire && !(s.fire == .normal)

/-- A LOCK placement for a held or fire-locked-out door is not made (R5). -/
def State.lockBlocked (s : State) (d : DoorNo) : Bool := s.held d || s.fireLockedOut d

/-- The class of a RELEASE placement: URGENT for a fire-locked-out door, ROUTINE otherwise (R15, R22, R32, R67, R126). -/
def State.releaseClass (s : State) (d : DoorNo) : QueueClass := if s.fireLockedOut d then .urgent else .routine

/-- A door matches LOCK while SECURED or PASSAGE, and RELEASE while RELEASED (1.2). -/
def DoorState.matchesDir (st : DoorState) : Direction → Bool
  | .lock => st == .secured || st == .passage
  | .release => st == .released

/-- A zone with at least one configured fire door. -/
def State.isFireZone (s : State) (z : ZoneNo) : Bool := (s.zoneDoors z).any (fun x => x.fire)

/-- A zone is fire-barred while the fire state is not NORMAL and it has a configured fire door (R55). -/
def State.fireBarred (s : State) (z : ZoneNo) : Bool := !(s.fire == .normal) && s.isFireZone z

/-- The zone state that an active sweep gives (R48 case 2). -/
def Sweep.zoneState (w : Sweep) : ZoneState :=
  match w.direction, w.phase with
  | .lock, .warning _ => .warning
  | .lock, .active => .securing
  | .release, _ => .releasing

/-- The zone state that the doors alone give (R48 cases 3 to 7). -/
def doorsZoneState (l : List Door) : ZoneState :=
  if l.isEmpty then .opened
  else if l.any (fun x => x.state == .unknown) then .unknown
  else if l.all (fun x => x.state.matchesDir .lock) then .secured
  else if l.all (fun x => x.state.matchesDir .release) then .opened
  else .partly

/-- The derived zone state; the first case that applies gives it (R48). -/
def State.deriveZone (s : State) (z : ZoneNo) : ZoneState :=
  if s.fireBarred z then .fire
  else
    match s.sweepOf z with
    | some (_, w) => w.zoneState
    | none => doorsZoneState (s.zoneDoors z)

/-- The minute of day the clock stands in (R47). -/
def Clock.minute (c : Clock) : Nat := c.seconds / 60

/-- The locked period of a day's two entries at a minute (R47). -/
def DayPlan.locked (p : DayPlan) (now : Nat) : Bool :=
  match p.lockup, p.release with
  | some l, some r => if r < l then decide (l ≤ now) || decide (now < r) else decide (l ≤ now) && decide (now < r)
  | some l, none => decide (l ≤ now)
  | none, some r => decide (now < r)
  | none, none => false

/-- A zone is in its locked period; while the clock is invalid, none is (R47). -/
def State.inLockedPeriod (s : State) (z : ZoneNo) : Bool :=
  s.clock.valid && ((s.zone z).live.get s.clock.dayType).locked s.clock.minute

/-- An input is active while its debounced level is present and equal to its active level (R133). -/
def Input.active (x : Input) : Bool := x.level == some x.activeLevel

/-- A sweep is a LOCK sweep in its active phase (R72, R124). -/
def Sweep.isActiveLock (w : Sweep) : Bool := w.direction == .lock && w.phase == .active

/-- The sweep a door is linked to. -/
def State.linkedSweep (s : State) (d : DoorNo) : Option (SweepLink × Sweep) :=
  match (s.door d).sweep with
  | none => none
  | some l => (s.slot l.slot).map (fun w => (l, w))

/-- The trunk rests (R82). -/
def TrunkState.resting (x : TrunkState) : Bool := x.restRemaining.isSome

/-- The priority a kind of notice has (R156). -/
def NoticeKind.priority : NoticeKind → Nat
  | .fireOn | .forced | .trunkDown => 1
  | .jammed | .silent | .ajar | .longPassage => 2
  | .sweepDone | .sweepWaiting | .fireOff | .holdEnded | .trunkUp | .nodeBack | .keyed => 3
  | .input | .restarted => 4

/-- The number of a kind, 1 to 16 in the order of R156 (R176). -/
def NoticeKind.number : NoticeKind → Nat
  | .fireOn => 1 | .forced => 2 | .trunkDown => 3 | .jammed => 4 | .silent => 5 | .ajar => 6 | .longPassage => 7
  | .sweepDone => 8 | .sweepWaiting => 9 | .fireOff => 10 | .holdEnded => 11 | .trunkUp => 12 | .nodeBack => 13
  | .keyed => 14 | .input => 15 | .restarted => 16

/-- A kind is in the mask (R160, R176). -/
def NoticeSet.masks (n : NoticeSet) (k : NoticeKind) : Bool := n.mask.getLsbD (k.number - 1)

/-- How many doors of a list meet a test. -/
def countDoors (l : List Door) (p : Door → Bool) : Nat := (l.filter p).length

/-- The configured doors with the fire flag, ascending (R139, R140, R142). -/
def State.fireDoors (s : State) : List DoorNo := s.doorsWhere (fun _ x => x.fire)

/-- The fire zones, ascending (R139, R142). -/
def State.fireZones (s : State) : List ZoneNo := (List.finRange 32).filter (fun z => s.isFireZone z)

end Sys2Proof.Machine
end

