-- ==== Sys2Proof/Machine/Operands.lean ====
section
/-! DEFINITION. Machine/Operands.lean: the encodings of the part. Payload fields of the Supervisor Link (R176), the
CRC-16 of its frames (R168), reply frames (R167), and the characters and judgement of the trunk lines (R99, R100,
R104). Numbers of more than one byte are high byte first (R166). -/

namespace Sys2Proof.Machine

/-! ### Bytes of numbers -/

/-- One byte. -/
def byte (n : Nat) : Byte := BitVec.ofNat 8 n

/-- Two bytes, high byte first. -/
def bytes2 (n : Nat) : List Byte := [byte (n / 256), byte n]

/-- Three bytes, high byte first. -/
def bytes3 (n : Nat) : List Byte := [byte (n / 65536), byte (n / 256), byte n]

/-- Four bytes, high byte first. -/
def bytes4 (n : Nat) : List Byte := [byte (n / 16777216), byte (n / 65536), byte (n / 256), byte n]

/-- The number two bytes carry. -/
def join2 (a b : Byte) : Word16 := a ++ b

/-- The number three bytes carry. -/
def join3 (a b c : Byte) : Word24 := a ++ b ++ c

/-- The number four bytes carry. -/
def join4 (a b c d : Byte) : ZoneSet := a ++ b ++ c ++ d

/-- A flag (R176). -/
def flagByte (b : Bool) : Byte := if b then 1 else 0

/-- A timer in seconds or minutes; 0 for absent (R176). -/
def timerByte (t : Option Countdown) : Byte := byte ((t.map Countdown.left).getD 0)

/-- Seconds of day or a stamp; 0xFFFFFF for absent (R176). -/
def stampBytes (t : Option Nat) : List Byte := bytes3 (t.getD 0xFFFFFF)

/-- A schedule minute; 0xFFFF for NONE (R176). -/
def minuteBytes (m : Option Nat) : List Byte := bytes2 (m.getD 0xFFFF)

/-- A zone set (R176). -/
def zoneSetBytes (m : ZoneSet) : List Byte := bytes4 m.toNat

/-! ### Codes of names (R100, R176) -/

def trunkByte : Trunk → Byte
  | .A => 0 | .B => 1 | .C => 2 | .D => 3

def trunkOfByte (b : Byte) : Option Trunk :=
  match b.toNat with
  | 0 => some .A | 1 => some .B | 2 => some .C | 3 => some .D | _ => none

def directionByte : Direction → Byte
  | .lock => 1 | .release => 2

/-- A direction, 0x00 for absent or NONE (R176). -/
def optDirectionByte (d : Option Direction) : Byte := (d.map directionByte).getD 0

/-- LOCK or RELEASE; any other value is no direction (R29, R80). -/
def directionOfByte (b : Byte) : Option Direction :=
  match b.toNat with
  | 1 => some .lock | 2 => some .release | _ => none

def intentByte : Intent → Byte
  | .none => 0 | .lock => 1 | .release => 2

def dayTypeByte : DayType → Byte
  | .term => 0 | .short => 1 | .weekend => 2 | .closed => 3

def dayTypeOfByte (b : Byte) : Option DayType :=
  match b.toNat with
  | 0 => some .term | 1 => some .short | 2 => some .weekend | 3 => some .closed | _ => none

def doorStateByte : DoorState → Byte
  | .unknown => 0 | .released => 1 | .waiting => 2 | .acting => 3 | .secured => 4 | .ajar => 5 | .passage => 6
  | .jammed => 7 | .forced => 8

/-- The door states in the order of R176. -/
def doorStates : List DoorState :=
  [.unknown, .released, .waiting, .acting, .secured, .ajar, .passage, .jammed, .forced]

def positionByte : Position → Byte
  | .closed => 0 | .opened => 1 | .unknown => 2

def positionOfByte (b : Byte) : Option Position :=
  match b.toNat with
  | 0 => some .closed | 1 => some .opened | 2 => some .unknown | _ => none

def boltByte : Bolt → Byte
  | .thrown => 0 | .withdrawn => 1 | .moving => 2 | .unknown => 3

def boltOfByte (b : Byte) : Option Bolt :=
  match b.toNat with
  | 0 => some .thrown | 1 => some .withdrawn | 2 => some .moving | 3 => some .unknown | _ => none

def healthByte : Health → Byte
  | .new => 0 | .heard => 1 | .silent => 2

def countByte : Count → Byte
  | .done => 0 | .pending => 1 | .ajar => 2 | .jammed => 3 | .held => 4 | .unreachable => 5

def zoneStateByte : ZoneState → Byte
  | .opened => 0 | .warning => 1 | .securing => 2 | .secured => 3 | .partly => 4 | .releasing => 5 | .fire => 6
  | .unknown => 7

def originByte : Origin → Byte
  | .schedule => 0 | .link => 1 | .input => 2 | .trailing => 3 | .restore => 4

def phaseByte : Phase → Byte
  | .warning _ => 0 | .active => 1

/-- The warning remaining, 0 in ACTIVE (R178). -/
def warningByte : Phase → Byte
  | .warning n => byte n.left | .active => 0

def loadRuleByte : LoadRule → Byte
  | .immediate => 0 | .rollover => 1 | .afterSweep => 2

def loadRuleOfByte (b : Byte) : Option LoadRule :=
  match b.toNat with
  | 0 => some .immediate | 1 => some .rollover | 2 => some .afterSweep | _ => none

def fireStateByte : FireState → Byte
  | .normal => 0 | .active => 1 | .cleared => 2

def trunkModeByte : TrunkMode → Byte
  | .off => 0 | .running => 1 | .down => 2

def holdKindByte : HoldKind → Byte
  | .keepOpen => 0 | .defer => 1

def holdKindOfByte (b : Byte) : Option HoldKind :=
  match b.toNat with
  | 0 => some .keepOpen | 1 => some .defer | _ => none

def holdOriginByte : HoldOrigin → Byte
  | .link => 0 | .input i => byte i.val

def holdCauseByte : HoldCause → Byte
  | .countdown => 0 | .request => 1 | .input => 2 | .inputSet => 3

def levelByte : Level → Byte
  | .low => 0 | .high => 1

def levelOfByte (b : Byte) : Option Level :=
  match b.toNat with
  | 0 => some .low | 1 => some .high | _ => none

/-- The functions of OV1 to OV7; FIRE has no encoding in INPUT_SET (R177). -/
def inputFunctionOfByte (b : Byte) : Option InputFunction :=
  match b.toNat with
  | 0 => some .none | 1 => some .hold | 2 => some .lock | 3 => some .release | 4 => some .report | _ => none

def resultByte : Result → Byte
  | .ok => 0x00 | .check => 0x01 | .length => 0x02 | .kind => 0x03 | .range => 0x04 | .state => 0x05
  | .conflict => 0x06 | .full => 0x07 | .sweep => 0x08 | .held => 0x09 | .fire => 0x0A | .busy => 0x0B

/-- Door flags: bit 0 fire, bit 1 exit, bit 2 chime (R176). -/
def doorFlagsByte (x : Door) : Byte :=
  byte ((if x.fire then 1 else 0) + (if x.exit then 2 else 0) + (if x.chime then 4 else 0))

/-- A scope, five bytes (R176). -/
def scopeBytes : Scope → List Byte
  | .zones m => 0 :: zoneSetBytes m
  | .door d => 1 :: bytes4 d.val

/-- A date (R176). -/
def dateBytes (d : Date) : List Byte := [byte d.year, byte d.month, byte d.day]

def dayPlanBytes (p : DayPlan) : List Byte := minuteBytes p.lockup ++ minuteBytes p.release

/-- A plan: TERM, SHORT, WEEKEND, CLOSED in turn (R176). -/
def planBytes (p : Plan) : List Byte :=
  dayPlanBytes p.term ++ dayPlanBytes p.short ++ dayPlanBytes p.weekend ++ dayPlanBytes p.closed

/-- The total and the six counts as counts of doors (R178). -/
def countsBytes (total : Nat) (c : Counts) : List Byte :=
  bytes2 total ++ bytes2 c.done ++ bytes2 c.pending ++ bytes2 c.ajar ++ bytes2 c.jammed ++ bytes2 c.held ++
    bytes2 c.unreachable

/-- A notice's subject, one byte (R178). -/
def subjectByte : Subject → Byte
  | .none => 0xFF
  | .door d => byte d.val
  | .zone z => byte z.val
  | .trunk t => trunkByte t
  | .hold id => byte id
  | .input i => byte i.val

/-- A notice's detail, laid out by kind (R178). -/
def detailBytes : Detail → List Byte
  | .door st p b => [doorStateByte st, positionByte p, boltByte b]
  | .jammed st p b dir n => [doorStateByte st, positionByte p, boltByte b, directionByte dir, byte n]
  | .fireOn z d c m => byte z :: (bytes2 d ++ [byte c, byte m])
  | .trunkDown d q r => bytes2 d ++ [byte q, byte r]
  | .sweepDone dir o c total counts => [directionByte dir, originByte o, flagByte c] ++ countsBytes total counts
  | .sweepWaiting dir o n => [directionByte dir, originByte o, byte n]
  | .fireOff n => bytes2 n
  | .holdEnded k sc o c n => holdKindByte k :: (scopeBytes sc ++ [holdOriginByte o, holdCauseByte c] ++ bytes2 n)
  | .trunkUp q => [byte q]
  | .input l a r => [levelByte l, flagByte a, flagByte r]
  | .restarted cold => [if cold then 0 else 1]

/-- A number below `n`, or nothing: the range check of a field that names one of `n` things (R176). -/
def finOfByte (n : Nat) (b : Byte) : Option (Fin n) := if h : b.toNat < n then some ⟨b.toNat, h⟩ else none

/-- A door number: every byte is one. -/
def doorOfByte (b : Byte) : DoorNo := b.toFin

/-- A schedule minute: NONE, or 0 to 1439; any other value is out of range (R39, R176). -/
def minuteOfWord (w : Word16) : Option (Option Nat) :=
  if w = 0xFFFF then some none else if w.toNat ≤ 1439 then some (some w.toNat) else none

/-! ### The check and the frames of the Supervisor Link -/

/-- One bit of the CRC-16 (R168). -/
def crcBit (c : Word16) : Word16 := if c.msb then (c <<< 1) ^^^ 0x1021 else c <<< 1

/-- One byte of the CRC-16, most significant bit first (R168). -/
def crcByte (c : Word16) (b : Byte) : Word16 :=
  crcBit (crcBit (crcBit (crcBit (crcBit (crcBit (crcBit (crcBit (c ^^^ (b.zeroExtend 16 <<< 8)))))))))

/-- The CRC-16 of a frame's bytes from the length to the end of the payload (R168). -/
def crc16 (l : List Byte) : Word16 := l.foldl crcByte 0xFFFF

/-- The lead byte of a frame (R166). -/
def leadByte : Byte := 0xC3

/-- A reply frame: lead, length, kind, tag, result, payload, check (R167). -/
def replyFrame (kind tag : Byte) (a : Answer) : List Byte :=
  let body := byte (3 + a.payload.length) :: kind :: tag :: resultByte a.result :: a.payload
  leadByte :: (body ++ bytes2 (crc16 body).toNat)

/-- The reply kind of a request kind: its top bit set (R167). -/
def replyKind (kind : Byte) : Byte := kind ||| 0x80

/-- A LINK_ERROR reply (R167). -/
def linkError (tag : Byte) (r : Result) : List Byte := replyFrame 0xFF tag ⟨r, []⟩

/-! ### The levels of a character -/

/-- The level of a bit. -/
def bitLevel (b : Bool) : Level := if b then .high else .low

/-- The levels of the 8 data bits of a character, the least significant first (R98, R165). -/
def dataLevels (b : Byte) : List Level := (List.range 8).map (fun i => bitLevel (b.getLsbD i))

/-- The levels of one character of a trunk line, bit by bit: a start bit, the data bits, the mark bit, and a stop bit,
which is not at the idle level in a framing error (R98). An undriven line reads 1, which is the idle level (R118). -/
def LineChar.levels (c : LineChar) : List Level :=
  .low :: (dataLevels c.data ++ [bitLevel c.mark, bitLevel (!c.framingError)])

/-! ### The frames of a trunk line -/

/-- The value that makes the 8-bit sum 0 (R99). -/
def checkOf (l : List Byte) : Byte := 0 - l.foldl (· + ·) 0

/-- A down frame: an address character, then characters with mark bit 0, the last of them the check (R99). -/
def downFrame (address : Nat) (rest : List Byte) : List LineChar :=
  let data := byte address :: rest
  ⟨byte address, true, false⟩ :: (rest ++ [checkOf data]).map (fun b => ⟨b, false, false⟩)

/-- The kind and payload bytes of a frame (R99). -/
def FrameKind.body : FrameKind → List Byte
  | .poll => [0x11]
  | .drive dir => [0x12, directionByte dir]
  | .warn p m => [0x13, byte p, byte m]

/-- The frame of a kind to an address (R99). -/
def frameFor (kind : FrameKind) (d : DoorNo) (address : Nat) : LineFrame :=
  ⟨kind, d, address, downFrame address kind.body, 0⟩

/-- The WINDOW frame, at its first bit (R99). -/
def windowFrame : LineWindow := ⟨downFrame 0 [0x14], 0⟩

/-! ### The outputs of a trunk line -/

/-- The characters that the part puts on the line. -/
def Line.chars : Line → List LineChar
  | .free => []
  | .frame f _ => f.chars
  | .window w _ => w.chars

/-- The place on the line, in tenths of a bit time since the first start bit. -/
def Line.place : Line → Nat
  | .free => 0
  | .frame f _ => f.place
  | .window w _ => w.place

/-- The time of the down frame, in tenths of a bit time: 11 bits to a character (R98). -/
def Line.sendTime (l : Line) : Nat := 110 * l.chars.length

/-- The time for which the line is occupied: the down frame and the 6 ms of its reply window, or the 7 bit slots of
160 us, in tenths of a bit time at 62,500 bit/s (R98, R103, R118). -/
def Line.time : Line → Nat
  | .free => 0
  | .frame f b => (Line.frame f b).sendTime + 3750
  | .window w b => (Line.window w b).sendTime + 700

/-- Milliseconds of 62.5 bits pass on the line. The last tenth is left to the command that ends the line (logs 7, 17). -/
def Line.wait (ms : Nat) (l : Line) : Line :=
  let place := min (l.time - 1) (l.place + Config.tenthsPerMs * ms)
  match l with
  | .free => .free
  | .frame f b => .frame { f with place := place } b
  | .window w b => .window { w with place := place } b

/-- The part drives the line: from the first start bit of a down frame to the last stop bit. It releases it for the
reply window and for the bit slots (R98, R118). -/
def Line.isDriven (l : Line) : Bool := decide (l.place < l.sendTime)

/-- The output DE of a trunk, active HIGH (R98, R118). -/
def Line.de (l : Line) : Level := bitLevel l.isDriven

/-- The output TX of a trunk: the level of the bit whose time it is, at the idle level while nothing is sent (R98). -/
def Line.tx (l : Line) : Level := ((l.chars.flatMap LineChar.levels)[l.place / 10]?).getD .high

/-- The content of one good STATUS reply that the part reads (R100, R102); alert pending is not read. -/
structure Report where
  position : Position
  bolt : Bolt
  rex : Bool
  fault : Bool
  accepted : Bool
  deriving DecidableEq, Repr

/-- The three outcomes of a frame (R104). -/
inductive FrameResult where
  | noReply
  | garbled
  | good (r : Report)
  deriving DecidableEq, Repr

/-- A STATUS reply read from its five data values (R100); nothing if a value lies outside the table or the check is
wrong. -/
def readStatus (kind pos bolt flags check : Byte) : Option Report :=
  if kind = 0x21 ∧ kind + pos + bolt + flags + check = 0 then
    match positionOfByte pos, boltOfByte bolt with
    | some p, some b => some ⟨p, b, flags.getLsbD 0, flags.getLsbD 1, flags.getLsbD 3⟩
    | _, _ => none
  else none

/-- A character of a reply has no fault of its own: a right stop bit and mark bit 0 (R100, R104). -/
def LineChar.sound (c : LineChar) : Bool := !c.framingError && !c.mark

/-- The judgement of a reply, final at its fifth character (R104). -/
def judge (r : LineReply) : FrameResult :=
  if r.inTime then
    match r.chars with
    | c1 :: c2 :: c3 :: c4 :: c5 :: _ =>
      if [c1, c2, c3, c4, c5].all LineChar.sound then
        match readStatus c1.data c2.data c3.data c4.data c5.data with
        | some rep => .good rep
        | none => .garbled
      else .garbled
    | _ => .noReply
  else .noReply

end Sys2Proof.Machine
end

