-- ==== Sys2Proof/Machine/Notices.lean ====
section
/-! DEFINITION. Machine/Notices.lean: the taking of a raise (R158 to R160), FETCH and NOTICE_MASK, and the Notice
Set's values at the warm restart (R164). -/

namespace Sys2Proof.Machine

/-- A restarted second is past: time has passed since the setting, or the second event that arrived together with it has
gone (R151, log 19). -/
def State.secondRuns (s : State) : State := { s with clock := { s.clock with restarted := false } }

/-- A request is taken and answered. Its frame has come after the end of the reply to any request taken before it, so
that a second that one restarted is past when it is taken (R151, R172, log 19). -/
def answered (take : State → State × Answer) (s : State) : Out :=
  let r := take s.secondRuns
  .next { r.1 with blockResult := some r.2 }

/-- An OK result with a reply payload. -/
def okWith (payload : List Byte) : Answer := ⟨.ok, payload⟩

/-- A refusal: a result other than OK carries no payload (R167). -/
def refusal (r : Result) : Answer := ⟨r, []⟩

/-- The stamp of a raise: the seconds of day, absent while the clock is invalid (R155, R158). -/
def Clock.stamp (c : Clock) : Option Nat := if c.valid then some c.seconds else none

/-- A notice stands in the set for a kind and subject (R158 case 2). -/
def Notice.isFor (k : NoticeKind) (subj : Subject) (x : Notice) : Bool := x.kind == k && x.subject == subj

/-- A raise merged into the held notice (R158 case 2). -/
def Notice.merge (stamp : Option Nat) (det : Detail) (x : Notice) : Notice :=
  { x with last := stamp, count := min Config.maxNoticeCount (x.count + 1), detail := det }

/-- A notice enters after every notice of equal or smaller priority number (R157); ALERT is active (R163). -/
def NoticeSet.enter (x : Notice) (n : NoticeSet) : NoticeSet :=
  { n with
    notices := n.notices.filter (fun y => decide (y.kind.priority ≤ x.kind.priority)) ++
      x :: n.notices.filter (fun y => !decide (y.kind.priority ≤ x.kind.priority))
    alert := true }

/-- A raise that finds the set full: it evicts the last notice or is dropped, and the lost flag becomes yes (R159). -/
def NoticeSet.raiseFull (x : Notice) (n : NoticeSet) : NoticeSet :=
  match n.notices.getLast? with
  | none => { n with lost := true }
  | some l =>
    if x.kind.priority < l.kind.priority then
      { NoticeSet.enter x { n with notices := n.notices.dropLast } with lost := true }
    else { n with lost := true }

/-- The taking of a raise by the first case that applies (R158). -/
def NoticeSet.raise (stamp : Option Nat) (k : NoticeKind) (subj : Subject) (det : Detail) (n : NoticeSet) : NoticeSet :=
  if n.masks k then n
  else if n.notices.any (Notice.isFor k subj) then
    { n with notices := n.notices.map (fun x => if x.isFor k subj then x.merge stamp det else x) }
  else
    let x : Notice := ⟨k, subj, stamp, stamp, 1, det⟩
    if n.notices.length < Config.maxNotices then n.enter x else n.raiseFull x

/-- A rule raises a notice (R158). -/
def State.raise (k : NoticeKind) (subj : Subject) (det : Detail) (s : State) : State :=
  { s with noticeSet := s.noticeSet.raise s.clock.stamp k subj det }

/-- The snapshot of a door that its notices carry (R13). -/
def State.doorDetail (s : State) (d : DoorNo) : Detail :=
  .door (s.door d).state (s.door d).position (s.door d).bolt

/-- Raise a notice about a door with its state, position and bolt as they stand (R13). -/
def State.raiseDoor (k : NoticeKind) (d : DoorNo) (s : State) : State := s.raise k (.door d) (s.doorDetail d)

/-- The Notice Set after a warm restart: emptied, then RESTARTED with detail WARM; the mask is kept (R164). -/
def NoticeSet.warm (stamp : Option Nat) (n : NoticeSet) : NoticeSet :=
  { notices := [⟨.restarted, .none, stamp, stamp, 1, .restarted false⟩], mask := n.mask, lost := false, alert := true }

/-- The level of the output ALERT, active LOW (R163). -/
def NoticeSet.alertLevel (n : NoticeSet) : Level := bitLevel (!n.alert)

/-! ### FETCH -/

/-- The bytes of a notice in a FETCH reply (R178). -/
def noticeBytes (x : Notice) : List Byte :=
  [byte x.kind.number, subjectByte x.subject, byte x.kind.priority] ++ stampBytes x.first ++ stampBytes x.last ++
    [byte x.count, byte (detailBytes x.detail).length] ++ detailBytes x.detail

/-- The reply of FETCH: lost flag, notices left, a present flag, and the notice (R161, R178). -/
def fetchReply (n : NoticeSet) : List Byte :=
  match n.notices with
  | [] => [flagByte n.lost, 0, 0]
  | x :: l => [flagByte n.lost, byte l.length, 1] ++ noticeBytes x

/-- FETCH removes the first notice; a reported lost flag becomes no; ALERT follows the set (R161, R163). -/
def NoticeSet.fetch (n : NoticeSet) : NoticeSet :=
  { n with notices := n.notices.tail, lost := false, alert := !n.notices.tail.isEmpty }

/-- FETCH is answered OK in every case (R161). -/
def takeFetch (s : State) : State × Answer :=
  ({ s with noticeSet := s.noticeSet.fetch }, okWith (fetchReply s.noticeSet))

/-- FETCH (R161). -/
def execFetch (s : State) : Out := answered takeFetch s

/-! ### NOTICE_MASK -/

/-- The bits of FIRE_ON, FORCED and TRUNK_DOWN, which cannot be masked (R160). -/
def unmaskable : Word16 := 0x0007

/-- NOTICE_MASK replaces the mask and answers with the old one (R160). -/
def takeNoticeMask (mask : Word16) (s : State) : State × Answer :=
  if mask &&& unmaskable = 0 then
    ({ s with noticeSet := { s.noticeSet with mask := mask } }, okWith (bytes2 s.noticeSet.mask.toNat))
  else (s, refusal .range)

/-- NOTICE_MASK (R160). -/
def execNoticeMask (mask : Word16) (s : State) : Out := answered (takeNoticeMask mask) s

end Sys2Proof.Machine
end

