-- ==== Sys2Proof/Machine/Zones.lean ====
section
/-! DEFINITION. Machine/Zones.lean: re-derivation of the zone state (R49), the group load (R42), and the requests
ZONE_SET, ZONE_READ, PLAN_STAGE, PLAN_LOAD and PLAN_READ. -/

namespace Sys2Proof.Machine

/-- The zone state is re-derived (R48, R49). -/
def State.rederive (z : ZoneNo) (s : State) : State := s.updZone z (fun x => { x with state := s.deriveZone z })

/-- Every zone is re-derived (R49). -/
def State.rederiveAll (s : State) : State := forEach (List.finRange 32) State.rederive s

/-- One member's part of a group load (R42). -/
def Zone.load (x : Zone) : Zone := if x.loadPending then { x with live := x.staged, loadPending := false } else x

/-- The group load of a leader visits every member of its group (R38, R42). -/
def State.groupLoad (leader : ZoneNo) (s : State) : State :=
  forEach (List.finRange 32) (fun z s => if (s.zone z).leader = leader then s.updZone z Zone.load else s) s

/-- A leader zone whose load rule is the one given performs its group load (R43). -/
def State.loadUnder (rule : LoadRule) (z : ZoneNo) (s : State) : State :=
  if (s.zone z).leader = z ∧ (s.zone z).rule = rule then s.groupLoad z else s

/-! ### ZONE_SET -/

/-- The seven settings lie in their ranges (R33, R36). -/
def zoneSettingsInRange (lead chime passage ajar : Byte) : Bool :=
  decide (lead.toNat ≤ 15) && decide (chime.toNat ≤ 7) && decide (5 ≤ passage.toNat) && decide (ajar.toNat ≤ 60)

/-- Another zone has this zone as its leader (R36 check 3). -/
def State.leadsOthers (s : State) (z : ZoneNo) : Bool :=
  (List.finRange 32).any (fun y => !(y == z) && (s.zone y).leader == z)

/-- ZONE_SET: the checks of R36 in order, then the seven settings are replaced (R37). -/
def takeZoneSet (zone rank lead chime passage ajar leader rule : Byte) (s : State) : State × Answer :=
  match finOfByte 32 zone, finOfByte 32 leader, loadRuleOfByte rule with
  | some z, some l, some r =>
    if zoneSettingsInRange lead chime passage ajar then
      if l ≠ z ∧ (s.zone l).leader ≠ l then (s, refusal .conflict)
      else if l ≠ z ∧ s.leadsOthers z then (s, refusal .conflict)
      else
        (s.updZone z (fun x => { x with
          rank := rank.toNat, lead := lead.toNat, chime := chime.toNat, passageLimit := passage.toNat,
          ajarInterval := ajar.toNat, leader := l, rule := r }), okWith [])
    else (s, refusal .range)
  | _, _, _ => (s, refusal .range)

/-- ZONE_SET (R36). -/
def execZoneSet (zone rank lead chime passage ajar leader rule : Byte) (s : State) : Out :=
  answered (takeZoneSet zone rank lead chime passage ajar leader rule) s

/-! ### ZONE_READ -/

/-- The counts of ZONE_READ: configured, fire doors, held, then the nine door states (R51, R178). -/
def State.zoneCounts (s : State) (z : ZoneNo) : List Nat :=
  let doors := s.zoneDoors z
  [doors.length, countDoors doors (fun x => x.fire),
    (s.doorsWhere (fun d x => x.zone == z && s.held d)).length] ++
    doorStates.map (fun st => countDoors doors (fun x => x.state == st))

/-- The 39 bytes of a ZONE_READ reply (R51, R178). -/
def State.zoneReadReply (s : State) (z : ZoneNo) : List Byte :=
  let x := s.zone z
  [byte z.val, byte x.rank, byte x.lead, byte x.chime, byte x.passageLimit, byte x.ajarInterval, byte x.leader.val,
    loadRuleByte x.rule, zoneStateByte x.state, optDirectionByte (x.marker.map Marker.direction),
    (x.marker.map (fun m => originByte m.origin)).getD 0xFF, optDirectionByte x.last, flagByte x.loadPending,
    ((s.sweepOf z).map (fun e => byte e.1.val)).getD 0xFF, flagByte (s.inLockedPeriod z)] ++
    (s.zoneCounts z).flatMap bytes2

/-- ZONE_READ; a read changes nothing (R51). -/
def takeZoneRead (zone : Byte) (s : State) : State × Answer :=
  match finOfByte 32 zone with
  | some z => (s, okWith (s.zoneReadReply z))
  | none => (s, refusal .range)

/-- ZONE_READ (R51). -/
def execZoneRead (zone : Byte) (s : State) : Out := answered (takeZoneRead zone) s

/-! ### Plans -/

/-- The two staged entries are replaced, and load pending is set from the whole comparison (R39 steps 1 and 2). -/
def Zone.stage (t : DayType) (p : DayPlan) (x : Zone) : Zone :=
  let staged := x.staged.set t p
  { x with staged := staged, loadPending := !(staged == x.live) }

/-- Two minutes are equal and not NONE (R39). -/
def equalMinutes (a b : Option Nat) : Bool := a.isSome && a == b

/-- PLAN_STAGE (R39). -/
def takePlanStage (zone dayType : Byte) (lockup release : Word16) (s : State) : State × Answer :=
  match finOfByte 32 zone, dayTypeOfByte dayType, minuteOfWord lockup, minuteOfWord release with
  | some z, some t, some l, some r =>
    if equalMinutes l r then (s, refusal .range)
    else
      let s := s.updZone z (Zone.stage t ⟨l, r⟩)
      let leader := (s.zone z).leader
      (if (s.zone leader).rule = .immediate then s.groupLoad leader else s, okWith [])
  | _, _, _, _ => (s, refusal .range)

/-- PLAN_STAGE (R39). -/
def execPlanStage (zone dayType : Byte) (lockup release : Word16) (s : State) : Out :=
  answered (takePlanStage zone dayType lockup release) s

/-- PLAN_LOAD performs the group load of the named zone's leader (R40). -/
def takePlanLoad (zone : Byte) (s : State) : State × Answer :=
  match finOfByte 32 zone with
  | some z => (s.groupLoad (s.zone z).leader, okWith [])
  | none => (s, refusal .range)

/-- PLAN_LOAD (R40). -/
def execPlanLoad (zone : Byte) (s : State) : Out := answered (takePlanLoad zone) s

/-- The 36 bytes of a PLAN_READ reply (R41, R177). -/
def State.planReadReply (s : State) (z : ZoneNo) : List Byte :=
  let x := s.zone z
  [byte z.val, byte x.leader.val, loadRuleByte (s.zone x.leader).rule, flagByte x.loadPending] ++
    planBytes x.staged ++ planBytes x.live

/-- PLAN_READ; a read changes nothing (R41). -/
def takePlanRead (zone : Byte) (s : State) : State × Answer :=
  match finOfByte 32 zone with
  | some z => (s, okWith (s.planReadReply z))
  | none => (s, refusal .range)

/-- PLAN_READ (R41). -/
def execPlanRead (zone : Byte) (s : State) : Out := answered (takePlanRead zone) s

end Sys2Proof.Machine
end

