-- ==== Sys2Proof/Machine/DoorWork.lean ====
section
/-! DEFINITION. Machine/DoorWork.lean: the shared operations on a door's work. A change of state with its hand-offs
(R7), the grant arbiter (R89, R90), placement and replacement (R5, R31, R32), re-statement (R6), entry into AJAR (R23)
and intent restoration (R15). None of them takes a door out of pending except through a change of state; the test that
finishes a sweep (R73) is made by the rules that call them (Machine/Sweeps.lean). -/

namespace Sys2Proof.Machine

/-! ### Hand-offs -/

/-- The count a state change brings a linked door to, in a LOCK sweep (R68) or a RELEASE sweep (R69). -/
def countAfterState : Direction → Count → DoorState → Option Count
  | .lock, .pending, .secured => some .done
  | .lock, .pending, .passage => some .done
  | .lock, .pending, .ajar => some .ajar
  | .lock, .pending, .forced => some .ajar
  | .lock, .pending, .jammed => some .jammed
  | .lock, .ajar, .waiting => some .pending
  | .release, .pending, .released => some .done
  | .release, .pending, .jammed => some .jammed
  | _, _, _ => none

/-- The count a linked door's silence brings it to (R68, R69). -/
def countAfterSilence : Direction → Count → Option Count
  | .lock, .pending => some .unreachable
  | .lock, .ajar => some .unreachable
  | .release, .pending => some .unreachable
  | _, _ => none

/-- A linked door moves to another count of its sweep. -/
def State.moveCount (d : DoorNo) (new : Count) (s : State) : State :=
  match (s.door d).sweep with
  | none => s
  | some l =>
    (s.updSlot l.slot (fun w => { w with counts := w.counts.move l.count new })).updDoor d
      (fun x => { x with sweep := some { l with count := new } })

/-- The Sweep Engine takes a hand-off that may move a linked door's count (R68, R69). -/
def State.handOffCount (d : DoorNo) (f : Direction → Count → Option Count) (s : State) : State :=
  match s.linkedSweep d with
  | none => s
  | some (l, w) =>
    match f w.direction l.count with
    | none => s
    | some new => s.moveCount d new

/-- The passage timer, exit allowance and ajar reminder become absent (R5, R6, R28). -/
def Door.clearTimers (x : Door) : Door := { x with passage := none, allowance := none, reminder := none }

/-- Leaving a state makes its timer absent (R17, R21, R23); a timer of the new state is set by the rule that enters it. -/
def Door.enter (st : DoorState) (x : Door) : Door := { x.clearTimers with state := st }

/-- A change of a door's state, handed to the Sweep Engine and the Zone Plan (R7). -/
def State.changeState (d : DoorNo) (st : DoorState) (s : State) : State :=
  if (s.door d).state = st then s
  else
    State.rederive (s.door d).zone
      ((s.updDoor d (Door.enter st)).handOffCount d (fun dir c => countAfterState dir c st))

/-! ### The grant arbiter -/

/-- The cost of an entry in its class (R83, R84). -/
def LockClass.cost (c : LockClass) : Direction → Nat
  | .lock => c.lockCost
  | .release => c.releaseCost

/-- The charge of an entry: its cost, reduced to the trunk's budget (R83). -/
def State.charge (s : State) (t : Trunk) (e : Entry) : Nat :=
  min ((s.lockClass (s.door e.door).cls).cost e.direction) (s.trunk t).budget

/-- The three conditions of a grant (R89). -/
def State.grantable (s : State) (t : Trunk) (e : Entry) : Bool :=
  (s.trunk t).mode == .running && decide (s.charge t e ≤ (s.trunk t).freeUnits) &&
    (!(s.trunk t).resting || e.isUrgent)

/-- After a ROUTINE grant the run count is increased, and at the run length a rest begins (R90). A rest interval of 0
ends the rest in the same step. -/
def TrunkState.countRun (x : TrunkState) : TrunkState :=
  if x.runLength ≤ x.runCount + 1 then
    { x with runCount := 0, restRemaining := if x.restInterval = 0 then none else some x.restInterval }
  else { x with runCount := x.runCount + 1 }

/-- The head entry becomes an in-flight record that holds its charge (R89 steps 1 to 3). -/
def TrunkState.toFlight (e : Entry) (charge : Nat) (x : TrunkState) : TrunkState :=
  { x with
    queue := x.queue.tail
    inFlight := x.inFlight ++ [⟨e.door, e.direction, e.cls, charge, .granted⟩]
    freeUnits := x.freeUnits - charge }

/-- A grant of the head entry (R89). -/
def State.grant (t : Trunk) (e : Entry) (s : State) : State :=
  let s := (s.updTrunk t (TrunkState.toFlight e (s.charge t e))).changeState e.door .acting
  s.updTrunk t (fun x => (if e.isUrgent then x else x.countRun).settleRun)

/-- Grants repeat until the head cannot be granted or the queue is empty (R89); each grant shortens the queue. -/
def State.grantLoop : Nat → Trunk → State → State
  | 0, _, s => s
  | n + 1, t, s =>
    match (s.trunk t).queue with
    | [] => s
    | e :: _ => if s.grantable t e then State.grantLoop n t (s.grant t e) else s

/-- The arbiter of a trunk is considered (R89). -/
def State.consider (t : Trunk) (s : State) : State := State.grantLoop (s.trunk t).queue.length t s

/-- Every trunk's arbiter is considered. -/
def State.considerAll (s : State) : State := forEach allTrunks State.consider s

/-- Consider the arbiter unless a sweep is walking (R89). -/
def State.considerUnless (walking : Bool) (t : Trunk) (s : State) : State := if walking then s else s.consider t

/-! ### Placement -/

/-- A fresh entry: the door becomes WAITING with attempts 0 and no timers (R5). -/
def State.addEntry (d : DoorNo) (dir : Direction) (cls : QueueClass) (s : State) : State :=
  ((s.updTrunk (s.door d).trunk (fun x => { x with queue := joinTail ⟨d, dir, cls⟩ x.queue })).updDoor d
    (fun x => { x.clearTimers with attempts := 0 })).changeState d .waiting

/-- A replacement of a WAITING door's entry; the attempts become 0 (R31). -/
def State.replacePlacement (d : DoorNo) (dir : Direction) (cls : QueueClass) (s : State) : State :=
  (s.updTrunk (s.door d).trunk (fun x => { x with queue := replaceEntry d dir cls x.queue })).updDoor d
    (fun x => { x with attempts := 0 })

/-- A placement for an ACTING door leaves the drive; an URGENT one of the drive's direction raises its record (R32). -/
def State.raiseRecord (d : DoorNo) (dir : Direction) (cls : QueueClass) (s : State) : State :=
  s.updTrunk (s.door d).trunk (fun x =>
    match recordOf d x.inFlight with
    | none => x
    | some r => if cls = .urgent ∧ r.direction = dir then x.updRecord d (fun _ => .urgent) id else x)

/-- A placement is not made when its direction is LOCK and the door is held or fire-locked-out (R5). -/
def State.placementBlocked (s : State) (d : DoorNo) (dir : Direction) : Bool := dir == .lock && s.lockBlocked d

/-- A placement of a door in one direction with one class (R5); `walking` is yes inside a sweep's walk, where the
arbiter is not considered for each entry (R89). -/
def State.place (walking : Bool) (d : DoorNo) (dir : Direction) (cls : QueueClass) (s : State) : State :=
  if s.placementBlocked d dir then s
  else
    match (s.door d).state with
    | .waiting => (s.replacePlacement d dir cls).considerUnless walking (s.door d).trunk
    | .acting => s.raiseRecord d dir cls
    | .unknown | .released | .secured | .ajar | .passage | .jammed | .forced =>
      (s.addEntry d dir cls).considerUnless walking (s.door d).trunk

/-- A ROUTINE LOCK placement. -/
def State.placeLock (d : DoorNo) (s : State) : State := s.place false d .lock .routine

/-- A RELEASE placement, URGENT for a fire-locked-out door (R15, R22, R32, R126). -/
def State.placeRelease (d : DoorNo) (s : State) : State := s.place false d .release (s.releaseClass d)

/-! ### Re-statement, AJAR and restoration -/

/-- The state that a re-statement gives (R6). -/
def restatedState : Bolt → Position → DoorState
  | .thrown, .closed => .secured
  | .withdrawn, _ => .released
  | _, _ => .unknown

/-- A re-statement from observation (R6). -/
def State.restate (d : DoorNo) (s : State) : State :=
  (s.changeState d (restatedState (s.door d).bolt (s.door d).position)).updDoor d Door.clearTimers

/-- The ajar reminder is set to the zone's interval, or stays absent when that is 0 (R23, R24). -/
def State.setReminder (d : DoorNo) (s : State) : State :=
  let n := (s.zone (s.door d).zone).ajarInterval
  s.updDoor d (fun x => { x with reminder := if n = 0 then none else some (.start n) })

/-- A door enters AJAR: an AJAR notice is raised and the reminder is set (R23). -/
def State.enterAjar (d : DoorNo) (s : State) : State :=
  ((s.changeState d .ajar).setReminder d).raiseDoor .ajar d

/-- Intent restoration, applied to the door's present state (R15, R129). -/
def State.restoreIntent (d : DoorNo) (s : State) : State :=
  match (s.door d).intent, (s.door d).state with
  | .lock, .released => s.placeLock d
  | .release, .secured => s.placeRelease d
  | _, _ => s

/-- A door's entry leaves its queue (R87); the arbiter is considered by the rule that removes it. -/
def State.dropEntry (d : DoorNo) (s : State) : State :=
  s.updTrunk (s.door d).trunk (TrunkState.dropEntry d)

/-- A door's in-flight record is removed and its units return (R93). -/
def State.dropRecord (d : DoorNo) (s : State) : State :=
  s.updTrunk (s.door d).trunk (TrunkState.dropRecord d)

/-- The arbiter of the door's trunk is considered. -/
def State.considerDoor (d : DoorNo) (s : State) : State := s.consider (s.door d).trunk

/-- The entry of a WAITING door. -/
def State.entry (s : State) (d : DoorNo) : Option Entry := entryOf d (s.trunk (s.door d).trunk).queue

/-- The in-flight record of an ACTING door. -/
def State.record (s : State) (d : DoorNo) : Option Record := recordOf d (s.trunk (s.door d).trunk).inFlight

end Sys2Proof.Machine
end

