-- ==== Sys2Proof/Machine/Sweeps.lean ====
section
/-! DEFINITION. Machine/Sweeps.lean: the Sweep Engine. Warning and walk (R62 to R67), reclassification (R70), cancel
(R76 to R79), finish and offer of slots (R59, R73, R74), the due arbitration (R55 to R60), and the commands SWEEP,
CANCEL, SWEEP_READ and WARNING_END. -/

namespace Sys2Proof.Machine

/-! ### Warnings -/

/-- Place a warn-list entry on the door's trunk (R117). -/
def State.placeWarn (minutes : Nat) (d : DoorNo) (s : State) : State :=
  s.updTrunk (s.door d).trunk
    (fun x => { x with warnList := putWarn ⟨d, (s.zone (s.door d).zone).chime, minutes⟩ x.warnList })

/-- The doors of a zone that receive WARN entries: configured, chime flag set, not held (R63, R77). -/
def State.chimeDoors (s : State) (z : ZoneNo) : List DoorNo :=
  s.doorsWhere (fun d x => x.zone == z && x.chime && !s.held d)

/-- One entry for each chime door of a zone (R63, R77); they join in ascending door number (log 15). -/
def State.placeWarns (z : ZoneNo) (minutes : Nat) (s : State) : State :=
  forEach (s.chimeDoors z) (State.placeWarn minutes) s

/-! ### Classification -/

/-- What a walk or a reclassification does with a door besides counting it (R66, R67). -/
inductive SweepAction where
  | leave
  | place (cls : QueueClass)
  | becomeReleased
  deriving DecidableEq, Repr

/-- Health NEW or SILENT, or its trunk DOWN (R66 row 3, R67 row 2). -/
def State.outOfReach (s : State) (d : DoorNo) : Bool :=
  !((s.door d).health == .heard) || (s.trunk (s.door d).trunk).mode == .down

/-- The classification of a LOCK sweep (R66). -/
def State.classifyLock (s : State) (d : DoorNo) : Count × SweepAction :=
  if s.held d then (.held, .leave)
  else
    match (s.door d).state with
    | .waiting | .acting => (.pending, .place .routine)
    | .secured | .passage => if s.outOfReach d then (.unreachable, .leave) else (.done, .leave)
    | .ajar | .forced => if s.outOfReach d then (.unreachable, .leave) else (.ajar, .leave)
    | .released | .jammed | .unknown =>
      if s.outOfReach d then (.unreachable, .leave) else (.pending, .place .routine)

/-- The classification of a RELEASE sweep (R67). -/
def State.classifyRelease (s : State) (d : DoorNo) : Count × SweepAction :=
  match (s.door d).state with
  | .waiting | .acting => (.pending, .place (s.releaseClass d))
  | .released => if s.outOfReach d then (.unreachable, .leave) else (.done, .leave)
  | .ajar =>
    if s.outOfReach d then (.unreachable, .leave)
    else if (s.door d).bolt = .withdrawn then (.done, .becomeReleased)
    else (.pending, .place (s.releaseClass d))
  | .forced | .secured | .passage | .jammed | .unknown =>
    if s.outOfReach d then (.unreachable, .leave) else (.pending, .place (s.releaseClass d))

/-- The classification of a sweep of a direction. -/
def State.classify (s : State) (dir : Direction) (d : DoorNo) : Count × SweepAction :=
  match dir with
  | .lock => s.classifyLock d
  | .release => s.classifyRelease d

/-- The intent a sweep gives a door (R65 step 2). -/
def State.sweepIntent (dir : Direction) (d : DoorNo) (s : State) : State :=
  match dir with
  | .lock => if s.held d then s else s.updDoor d Door.wantLock
  | .release => s.updDoor d (fun x => { x with intent := .release })

/-- What follows the counting of a door (R65 step 4, R67 row 4, R70 step 3). -/
def State.sweepAct (walking : Bool) (dir : Direction) (d : DoorNo) (act : SweepAction) (s : State) : State :=
  match act with
  | .leave => s
  | .place cls => s.place walking d dir cls
  | .becomeReleased => s.changeState d .released

/-! ### Starting a sweep -/

/-- The link and the count of one more door (R65 steps 1 and 3). -/
def State.linkDoor (k : SlotNo) (d : DoorNo) (c : Count) (s : State) : State :=
  (s.updDoor d (fun x => { x with sweep := some ⟨k, c⟩, unreached := false })).updSlot k
    (fun w => { w with counts := w.counts.upd c (· + 1) })

/-- One door of the walk (R65): intent, classification, link with its count, placement. -/
def State.walkDoor (k : SlotNo) (dir : Direction) (d : DoorNo) (s : State) : State :=
  let s := s.sweepIntent dir d
  let c := s.classify dir d
  (s.linkDoor k d c.1).sweepAct true dir d c.2

/-- The configured doors of a zone in order of (door rank, door number) (R65). -/
def State.zoneWalk (s : State) (z : ZoneNo) : List DoorNo := s.inRankOrder (s.doorsWhere (fun _ x => x.zone == z))

/-- A sweep enters ACTIVE: the walk, the total, the re-derivation, and the arbiters once (R65, R89). -/
def State.enterActive (k : SlotNo) (s : State) : State :=
  match s.slot k with
  | none => s
  | some w =>
    let doors := s.zoneWalk w.zone
    let s := s.setSlot k (some { w with phase := .active, total := 0, counts := Counts.zero })
    let s := forEach doors (State.walkDoor k w.direction) s
    let s := s.updSlot k (fun w => { w with total := doors.length })
    (s.rederive w.zone).considerAll

/-- A sweep starts with a warning phase (R62). -/
def State.isWarned (s : State) (z : ZoneNo) (dir : Direction) (o : Origin) : Bool :=
  dir == .lock && !((s.zone z).lead == 0) && !(o == .trailing) && !(o == .restore)

/-- A sweep starts in a slot (R62); the finish test follows separately. -/
def State.startIn (k : SlotNo) (z : ZoneNo) (dir : Direction) (o : Origin) (s : State) : State :=
  let s := s.updZone z (fun x => { x with marker := none })
  if s.isWarned z dir o then
    let lead := (s.zone z).lead
    ((s.setSlot k (some ⟨z, dir, o, .warning (.start lead), 0, Counts.zero⟩)).placeWarns z lead).rederive z
  else
    State.enterActive k ((s.setSlot k (some ⟨z, dir, o, .active, 0, Counts.zero⟩)).rederive z)

/-! ### Finish and the offer of slots -/

/-- A sweep in ACTIVE whose pending count is 0 (R73). -/
def State.isFinished (s : State) (k : SlotNo) : Bool :=
  match s.slot k with
  | none => false
  | some w => w.phase == .active && w.counts.pending == 0

/-- A door linked to a slot. -/
def Door.linkedTo (k : SlotNo) (x : Door) : Bool :=
  match x.sweep with
  | none => false
  | some l => l.slot == k

/-- The sweep link and count of every linked door of a cancelled sweep become absent (R78 step 2). -/
def State.unlinkAll (k : SlotNo) (s : State) : State :=
  { s with doors := mapAll (fun x => if x.linkedTo k then { x with sweep := none } else x) s.doors }

/-- The door has a sweep link with count unreachable (R14, R75). -/
def Door.countedUnreachable (x : Door) : Bool :=
  match x.sweep with
  | none => false
  | some l => l.count == .unreachable

/-- A finished sweep leaves its door: the link and count become absent, and a door counted unreachable is to be restored
when it is heard again (R74 step 1, R75). -/
def Door.leaveSweep (k : SlotNo) (x : Door) : Door :=
  if x.linkedTo k then { x with sweep := none, unreached := x.countedUnreachable } else x

/-- A finished sweep leaves its doors (R74 step 1, R75). -/
def State.leaveDoors (k : SlotNo) (s : State) : State := { s with doors := mapAll (Door.leaveSweep k) s.doors }

/-- The last direction is written, the slot becomes free, the zone is re-derived and SWEEP_DONE is raised (R74 steps
2 to 4, R79 steps 1 to 3). -/
def State.closeSweep (k : SlotNo) (w : Sweep) (cancelled : Bool) (s : State) : State :=
  let s := s.updZone w.zone (fun x => { x with last := some w.direction })
  ((s.setSlot k none).rederive w.zone).raise .sweepDone (.zone w.zone)
    (.sweepDone w.direction w.origin cancelled w.total w.counts)

/-- The waiting zone that takes an offered slot; fire-barred LOCK markers met on the way are dropped (R59). -/
def State.takeWaiting : List ZoneNo → State → State × Option (ZoneNo × Marker)
  | [], s => (s, none)
  | z :: l, s =>
    match (s.zone z).marker with
    | none => State.takeWaiting l s
    | some m =>
      if m.direction = .lock ∧ s.fireBarred z then
        State.takeWaiting l (s.updZone z (fun x => { x with marker := none }))
      else (s, some (z, m))

/-- A freed slot is offered to the waiting zones; a sweep that finishes at once frees it again (R59, R74). Each start
uses up a marker, so 33 rounds are more than there can be. -/
def State.offerLoop : Nat → SlotNo → State → State
  | 0, _, s => s
  | n + 1, k, s =>
    match State.takeWaiting (s.zonesInRankOrder s.waitingZones) s with
    | (s, none) => s
    | (s, some (z, m)) =>
      let s := s.startIn k z m.direction m.origin
      if s.isFinished k then
        match s.slot k with
        | none => s
        | some w =>
          State.loadUnder .afterSweep w.zone (State.offerLoop n k ((s.leaveDoors k).closeSweep k w false))
      else s

/-- A freed slot is offered (R59). -/
def State.offer (k : SlotNo) (s : State) : State := if (s.slot k).isSome then s else State.offerLoop 33 k s

/-- The finish of a sweep (R74). -/
def State.finish (k : SlotNo) (s : State) : State :=
  match s.slot k with
  | none => s
  | some w => State.loadUnder .afterSweep w.zone (((s.leaveDoors k).closeSweep k w false).offer k)

/-- The finish follows at once when the pending count is 0 (R73). -/
def State.finishIfDone (k : SlotNo) (s : State) : State := if s.isFinished k then s.finish k else s

/-- The test of R73 for the sweep a door is linked to. -/
def State.finishOf (d : DoorNo) (s : State) : State :=
  match (s.door d).sweep with
  | none => s
  | some l => s.finishIfDone l.slot

/-- A sweep starts and, having no pending door, finishes at once (R56, R62, R73). -/
def State.startSweep (k : SlotNo) (z : ZoneNo) (dir : Direction) (o : Origin) (s : State) : State :=
  (s.startIn k z dir o).finishIfDone k

/-! ### Reclassification and holds on linked doors -/

/-- Reclassify a linked door of an ACTIVE sweep (R70). -/
def State.reclassify (d : DoorNo) (s : State) : State :=
  match s.linkedSweep d with
  | none => s
  | some (_, w) =>
    if w.phase = .active then
      let s := s.sweepIntent w.direction d
      let c := s.classify w.direction d
      ((s.moveCount d c.1).sweepAct false w.direction d c.2).finishOf d
    else s

/-- A hold begins on a door linked to an ACTIVE LOCK sweep: it moves to held (R72, R124). -/
def State.moveToHeld (d : DoorNo) (s : State) : State :=
  match s.linkedSweep d with
  | none => s
  | some (l, w) => if w.isActiveLock ∧ l.count ≠ .held then s.moveCount d .held else s

/-- The linked doors of a trunk counted unreachable whose health is HEARD, sweep by sweep in ascending slot and in
(rank, number) order within a sweep (R71). -/
def State.unreachableDoors (s : State) (t : Trunk) : List DoorNo :=
  s.sweeps.flatMap (fun e =>
    s.inRankOrder (s.doorsWhere (fun _ x =>
      x.trunk == t && x.health == .heard && x.sweep == some ⟨e.1, .unreachable⟩)))

/-- A door that is still counted unreachable is reclassified. -/
def State.reclassifyUnreachable (d : DoorNo) (s : State) : State :=
  match (s.door d).sweep with
  | none => s
  | some l => if l.count = .unreachable then s.reclassify d else s

/-- The trunk has become RUNNING: the hand-off to the Sweep Engine (R71). `skip` are doors whose own report is being
taken and that had not been heard before it. A sweep that a reclassification leaves without a pending door finishes at
that door's turn, and its slot is offered at once (log 22). -/
def State.trunkBack (t : Trunk) (skip : List DoorNo) (s : State) : State :=
  forEach ((s.unreachableDoors t).filter (fun d => !skip.contains d)) State.reclassifyUnreachable s

/-! ### Cancel -/

/-- The entry of a WAITING door is withdrawn: removed as no attempt, the door re-stated, intent NONE (R78, R125). -/
def State.withdrawEntry (d : DoorNo) (s : State) : State :=
  (((s.dropEntry d).restate d).updDoor d Door.noIntent).considerDoor d

/-- What a cancel does to one formerly linked door, given the count it had (R78). -/
def State.cancelDoor (e : DoorNo × Count) (s : State) : State :=
  let d := e.1
  if (s.door d).keepOpen ∨ e.2 = .held then s
  else
    match (s.door d).state with
    | .waiting => s.withdrawEntry d
    | .ajar => (s.changeState d .released).updDoor d Door.noIntent
    | .acting | .unknown | .released | .secured | .passage | .jammed | .forced => s.updDoor d Door.noIntent

/-- The linked doors of a slot with their counts, in (rank, number) order (R78). -/
def State.linkedDoors (s : State) (k : SlotNo) : List (DoorNo × Count) :=
  (s.inRankOrder (s.doorsWhere (fun _ x => x.linkedTo k))).filterMap
    (fun d => (s.door d).sweep.map (fun l => (d, l.count)))

/-- A sweep is cancelled by R77 or R78 according to its phase, then ended by R79; the slot is not offered here. -/
def State.cancelSweep (k : SlotNo) (s : State) : State :=
  match s.slot k with
  | none => s
  | some w =>
    let s :=
      match w.phase with
      | .warning _ => s.placeWarns w.zone 0
      | .active => forEach (s.linkedDoors k) State.cancelDoor (s.unlinkAll k)
    State.loadUnder .afterSweep w.zone (s.closeSweep k w true)

/-- Slots offered one at a time, lowest slot number first (R59, R76, R139). -/
def State.offerSlots (l : List SlotNo) (s : State) : State := forEach (sortByKey Fin.val l) State.offer s

/-! ### Due arbitration -/

/-- How a giving was taken (R55, R56, R80). -/
inductive Giving where
  | declined | ignored | reversed | started | waiting
  deriving DecidableEq, Repr

/-- The marker is recorded, replacing an old one, and SWEEP_WAITING is raised (R58). -/
def State.recordMarker (z : ZoneNo) (dir : Direction) (o : Origin) (s : State) : State :=
  let s := s.updZone z (fun x => { x with marker := some ⟨dir, o⟩ })
  s.raise .sweepWaiting (.zone z) (.sweepWaiting dir o s.waitingZones.length)

/-- A giving of a due marker (R55, R56, R60). -/
def State.give (z : ZoneNo) (dir : Direction) (o : Origin) (s : State) : State × Giving :=
  if dir = .lock ∧ s.fireBarred z then (s, .declined)
  else
    match s.sweepOf z with
    | some (k, w) =>
      if w.direction = dir then (s, .ignored) else ((s.cancelSweep k).startSweep k z dir o, .reversed)
    | none =>
      match s.freeSlot with
      | some k => (s.startSweep k z dir o, .started)
      | none => (s.recordMarker z dir o, .waiting)

/-- Givings taken one at a time in the order given, with how each was taken. -/
def State.giveList (o : Origin) : List (ZoneNo × Direction) → State → State × List (ZoneNo × Giving)
  | [], s => (s, [])
  | (z, dir) :: l, s =>
    let r := s.give z dir o
    let q := State.giveList o l r.1
    (q.1, (z, r.2) :: q.2)

/-- A set of givings that is one event, in ascending order of (zone rank, zone number) (R57). -/
def State.giveSet (o : Origin) (l : List (ZoneNo × Direction)) (s : State) : State × List (ZoneNo × Giving) :=
  State.giveList o (sortByKey (fun e => (s.zone e.1).rank) l) s

/-! ### Commands -/

/-- The zones of a giving list that were taken in one way, as a zone set. -/
def zonesTaken (how : Giving) (l : List (ZoneNo × Giving)) : ZoneSet :=
  zoneSetOf ((l.filter (fun e => e.2 == how)).map Prod.fst)

/-- The reply of SWEEP: started, reversed, waiting, ignored (R80, R177). -/
def sweepReply (l : List (ZoneNo × Giving)) : List Byte :=
  zoneSetBytes (zonesTaken .started l) ++ zoneSetBytes (zonesTaken .reversed l) ++
    zoneSetBytes (zonesTaken .waiting l) ++ zoneSetBytes (zonesTaken .ignored l)

/-- SWEEP (R80). -/
def takeSweep (zones : ZoneSet) (direction : Byte) (s : State) : State × Answer :=
  match directionOfByte direction with
  | none => (s, refusal .range)
  | some dir =>
    if zones = 0 then (s, refusal .range)
    else if dir = .lock ∧ (zonesOf zones).any s.fireBarred then (s, refusal .fire)
    else
      let r := s.giveSet .link ((zonesOf zones).map (fun z => (z, dir)))
      (r.1, okWith (sweepReply r.2))

/-- SWEEP (R80). -/
def execSweep (zones : ZoneSet) (direction : Byte) (s : State) : Out := answered (takeSweep zones direction) s

/-- The markers of the named zones become absent (R76 step 1). -/
def State.clearMarkers (l : List ZoneNo) (s : State) : State :=
  forEach l (fun z s => s.updZone z (fun x => { x with marker := none })) s

/-- CANCEL (R76): markers, sweeps in ascending zone number, slots, reply. -/
def takeCancel (zones : ZoneSet) (s : State) : State × Answer :=
  if zones = 0 then (s, refusal .range)
  else
    let marked := (zonesOf zones).filter (fun z => (s.zone z).marker.isSome)
    let swept := (zonesOf zones).filterMap (fun z => (s.sweepOf z).map (fun e => (z, e.1)))
    let s := s.clearMarkers marked
    let s := forEach swept (fun e => State.cancelSweep e.2) s
    (s.offerSlots (swept.map Prod.snd),
      okWith (zoneSetBytes (zoneSetOf marked) ++ zoneSetBytes (zoneSetOf (swept.map Prod.fst))))

/-- CANCEL (R76). -/
def execCancel (zones : ZoneSet) (s : State) : Out := answered (takeCancel zones) s

/-- The reply of SWEEP_READ (R81, R178). -/
def sweepReadReply (k : SlotNo) : Option Sweep → List Byte
  | none => [byte k.val, 0]
  | some w =>
    [byte k.val, 1, byte w.zone.val, directionByte w.direction, originByte w.origin, phaseByte w.phase,
      warningByte w.phase] ++ countsBytes w.total w.counts

/-- SWEEP_READ; a read changes nothing (R81). -/
def takeSweepRead (slot : Byte) (s : State) : State × Answer :=
  match finOfByte 8 slot with
  | some k => (s, okWith (sweepReadReply k (s.slot k)))
  | none => (s, refusal .range)

/-- SWEEP_READ (R81). -/
def execSweepRead (slot : Byte) (s : State) : Out := answered (takeSweepRead slot) s

/-- The sweep's warning has its last minute behind it (R64). -/
def Sweep.warningEnds (w : Sweep) : Bool :=
  match w.phase with
  | .warning c => c.ending
  | .active => false

/-- A warning reaches 0: the sweep enters ACTIVE, or is cancelled if its zone is fire-barred and its slot is offered at
once (R64). -/
def State.endWarning (k : SlotNo) (s : State) : State :=
  match s.slot k with
  | none => s
  | some w =>
    if w.warningEnds then
      if s.fireBarred w.zone then (s.cancelSweep k).offer k else (s.enterActive k).finishIfDone k
    else s

/-- WARNING_END (R64). -/
def execWarningEnd (k : SlotNo) (s : State) : Out := .next (s.endWarning k)

end Sys2Proof.Machine
end

