-- ==== Sys2Proof/Machine/Actuation.lean ====
section
/-! DEFINITION. Machine/Actuation.lean: the life of a drive. Its ends (R27, R32, R88, R93 to R95), acceptance (R91) and
settling (R92), and the commands CLASS_SET, REST_END and DRIVE_TIMEOUT. -/

namespace Sys2Proof.Machine

/-! ### The end of an actuation -/

/-- An entry rejoins the queue and the door becomes WAITING; a LOCK entry of a door that is then held or
fire-locked-out does not rejoin, and the door is re-stated (R88, R94, R95). `before` is `none` for the tail of the
class (a retry), and for the head (a return) what the same event has returned to the queue before. -/
def State.rejoin (r : Record) (before : Option (List (DoorNo × QueueClass))) (s : State) : State :=
  if s.placementBlocked r.door r.direction then s.restate r.door
  else
    let e : Entry := ⟨r.door, r.direction, r.cls⟩
    (s.updTrunk (s.door r.door).trunk (fun x => { x with queue :=
      match before with
      | none => joinTail e x.queue
      | some l => joinHead l e x.queue })).changeState r.door .waiting

/-- The outcomes of an actuation that the lifecycle names (R93). -/
inductive DriveEnd where
  | success
  | doorOpen
  | failed
  | returned (before : List (DoorNo × QueueClass))
  deriving DecidableEq, Repr

/-- The state a successful drive names (R93). -/
def Direction.goal : Direction → DoorState
  | .lock => .secured
  | .release => .released

/-- The door becomes JAMMED and a JAMMED notice is raised (R94 step 4). -/
def State.jam (r : Record) (s : State) : State :=
  let s := s.changeState r.door .jammed
  let x := s.door r.door
  s.raise .jammed (.door r.door) (.jammed x.state x.position x.bolt r.direction x.attempts)

/-- A failed attempt (R94 steps 2 to 4). -/
def State.failedAttempt (r : Record) (s : State) : State :=
  let s := s.updDoor r.door (fun x => { x with attempts := x.attempts + 1 })
  if (s.door r.door).attempts ≤ (s.lockClass (s.door r.door).cls).retries then s.rejoin r none else s.jam r

/-- The outcome taken when the direction equals the intent (R27, R93). -/
def State.takeOutcome (r : Record) (e : DriveEnd) (s : State) : State :=
  match e with
  | .success =>
    (s.updDoor r.door (fun x => { x with attempts := 0 })).changeState r.door r.direction.goal
  | .doorOpen => s.enterAjar r.door
  | .failed => s.failedAttempt r
  | .returned before => s.rejoin r (some before)

/-- The intent check after a re-statement (R32 steps 2 to 4). -/
def State.intentCheck (d : DoorNo) (s : State) : State :=
  match (s.door d).intent with
  | .lock => if (s.door d).state = .secured then s else s.placeLock d
  | .release => if (s.door d).state = .released then s else s.placeRelease d
  | .none => s

/-- The end of a drive whose direction no longer equals the intent (R32). -/
def State.endReversed (d : DoorNo) (s : State) : State :=
  ((s.updDoor d (fun x => { x with attempts := 0 })).restate d).intentCheck d

/-- The end of an actuation: the record is removed and its units return, the Door Table takes the door, a sweep with
nothing pending finishes, and the arbiter is considered (R27, R73, R93). -/
def State.endDrive (r : Record) (e : DriveEnd) (s : State) : State :=
  let s := s.dropRecord r.door
  let s := if r.direction.intent = (s.door r.door).intent then s.takeOutcome r e else s.endReversed r.door
  (s.finishOf r.door).considerDoor r.door

/-! ### Acceptance and settling -/

/-- The outcome a report shows for a drive in DRIVING (R92). -/
def settleOutcome (dir : Direction) (pos : Position) (bolt : Bolt) : Option DriveEnd :=
  match dir with
  | .lock =>
    if bolt = .thrown ∧ pos = .closed then some .success
    else if pos = .opened then some .doorOpen
    else none
  | .release => if bolt = .withdrawn then some .success else none

/-- A report is judged on the recorded position and bolt (R92). -/
def State.settle (r : Record) (s : State) : State :=
  match settleOutcome r.direction (s.door r.door).position (s.door r.door).bolt with
  | none => s
  | some e => s.endDrive r e

/-- The DRIVE is accepted: DRIVING with the class's limit in milliseconds, then judged as a settle report (R91). -/
def State.acceptDrive (r : Record) (s : State) : State :=
  let limit := (s.lockClass (s.door r.door).cls).limit * 1000
  let s := s.updTrunk (s.door r.door).trunk (TrunkState.updRecord r.door id (fun _ => .driving limit))
  match s.record r.door with
  | none => s
  | some r => s.settle r

/-- A good report reaches a door's in-flight record; `drive` says that it answers the door's DRIVE frame (R91, R92). -/
def State.reportToRecord (r : Record) (drive accepted : Bool) (s : State) : State :=
  match r.phase with
  | .driving _ => s.settle r
  | .granted =>
    if drive then (if accepted then s.acceptDrive r else s.endDrive r .failed)
    else if r.direction = .lock ∧ (s.door r.door).position = .opened then s.endDrive r .doorOpen
    else s

/-- A drive that fails or times out: a failed attempt on a RUNNING trunk, a return on a DOWN one (R91, R92, R95). -/
def State.driveFailed (r : Record) (s : State) : State :=
  if (s.trunk (s.door r.door).trunk).mode = .down then s.endDrive r (.returned []) else s.endDrive r .failed

/-- A record is in DRIVING. -/
def Record.isDriving (r : Record) : Bool :=
  match r.phase with
  | .granted => false
  | .driving _ => true

/-- A record that is returned rejoins the queue: its end is not taken by R32, and its entry is not bound by R88. -/
def State.rejoins (s : State) (r : Record) : Bool :=
  r.direction.intent == (s.door r.door).intent && !s.placementBlocked r.door r.direction

/-- The GRANTED records of a trunk that has become DOWN, by their doors in the order of their grants, are returned one
after another, each as it stands when its turn comes (R32, R95). `before` holds the returned entries that stand at the
heads of their classes; an entry that R32 places afresh is not one of them. A sweep that a re-stated door leaves without
a pending one finishes at that door's turn, and its slot is offered at once (log 22). -/
def State.returnGranted : List DoorNo → List (DoorNo × QueueClass) → State → State
  | [], _, s => s
  | d :: l, before, s =>
    match s.record d with
    | none => State.returnGranted l before s
    | some r =>
      State.returnGranted l (if s.rejoins r then before ++ [(d, r.cls)] else before) (s.endDrive r (.returned before))

/-! ### Milliseconds of one trunk -/

/-- A count of milliseconds left, which is 1 or more until the command that ends it (log 7). -/
def msLeft (waited left : Nat) : Nat := max 1 (left - waited)

/-- Milliseconds pass for a record's limit (R92). -/
def Record.wait (waited : Nat) (r : Record) : Record :=
  match r.phase with
  | .granted => r
  | .driving n => { r with phase := .driving (msLeft waited n) }

/-- The time since a frame was sent, in tenths of a bit time, after `waited` milliseconds; past `most` it is counted no
further (R115, R116). -/
def timeSince (waited most : Nat) (n : Int) : Int := min (most : Int) (n + (Config.tenthsPerMs * waited : Nat))

/-- Milliseconds pass on a trunk: the rest, the limits, the time since the last patrol poll, and what is on the line (R90,
R92, R98, R114). -/
def TrunkState.wait (waited : Nat) (x : TrunkState) : TrunkState :=
  { x with
    restRemaining := x.restRemaining.map (msLeft waited)
    inFlight := x.inFlight.map (Record.wait waited)
    sincePatrol := x.sincePatrol.map (timeSince waited Config.maxPollGap)
    line := x.line.wait waited }

/-- Milliseconds pass since the last frame of a door was sent (R115). -/
def Door.wait (waited : Nat) (x : Door) : Door :=
  { x with sinceFrame := timeSince waited Config.settleInterval x.sinceFrame }

/-- Time passes since a setting restarted the second, so that a second event no longer arrives together with it (R151,
log 19). -/
def Clock.wait (waited : Nat) (c : Clock) : Clock := { c with restarted := c.restarted && decide (waited = 0) }

/-- Milliseconds pass on one trunk and for its doors, and for a second that was restarted; the four trunks share nothing
else. -/
def State.waitTrunk (t : Trunk) (waited : Nat) (s : State) : State :=
  { s.updTrunk t (TrunkState.wait waited) with
    doors := mapAll (fun x => if x.trunk = t then x.wait waited else x) s.doors
    clock := s.clock.wait waited }

/-! ### Commands -/

/-- A rest that has run out ends and the arbiter is considered (R90). -/
def State.endRest (t : Trunk) (s : State) : State :=
  match (s.trunk t).restRemaining with
  | none => s
  | some n => ((s.waitTrunk t n).updTrunk t (fun x => { x with restRemaining := none })).consider t

/-- REST_END (R90). -/
def execRestEnd (t : Trunk) (s : State) : Out := .next (s.endRest t)

/-- A DRIVING record's limit has run out (R92). -/
def State.timeOut (d : DoorNo) (s : State) : State :=
  match s.record d with
  | none => s
  | some r =>
    match r.phase with
    | .granted => s
    | .driving n => State.driveFailed r (s.waitTrunk (s.door d).trunk n)

/-- DRIVE_TIMEOUT (R92). -/
def execDriveTimeout (d : DoorNo) (s : State) : Out := .next (s.timeOut d)

/-- The fields of CLASS_SET lie in their ranges (R84). -/
def classInRange (lockCost releaseCost limit retries : Byte) : Bool :=
  decide (lockCost.toNat ≤ 16) && decide (releaseCost.toNat ≤ 16) && decide (1 ≤ limit.toNat) &&
    decide (limit.toNat ≤ 30) && decide (retries.toNat ≤ 3)

/-- A configured door of a class is ACTING (R85 check 2). -/
def State.classActing (s : State) (c : ClassNo) : Bool :=
  s.doors.toList.any (fun x => x.configured && x.cls == c && x.state == .acting)

/-- The attempts of a door of the class are lowered to the new retries, unless it is JAMMED (R85 step 2). -/
def Door.capAttempts (c : ClassNo) (retries : Nat) (x : Door) : Door :=
  if x.configured && x.cls == c && !(x.state == .jammed) then { x with attempts := min x.attempts retries } else x

/-- The effect of an accepted CLASS_SET (R85 steps 1 to 3). -/
def State.applyClass (c : ClassNo) (v : LockClass) (s : State) : State :=
  let lowered := decide (v.retries < (s.lockClass c).retries)
  let s := { s with classes := s.classes.set c.val v }
  let s := if lowered then { s with doors := mapAll (Door.capAttempts c v.retries) s.doors } else s
  s.considerAll

/-- CLASS_SET (R85). -/
def takeClassSet (cls lockCost releaseCost limit retries : Byte) (s : State) : State × Answer :=
  match finOfByte 8 cls with
  | none => (s, refusal .range)
  | some c =>
    if classInRange lockCost releaseCost limit retries then
      if s.classActing c then (s, refusal .state)
      else (s.applyClass c ⟨lockCost.toNat, releaseCost.toNat, limit.toNat, retries.toNat⟩, okWith [])
    else (s, refusal .range)

/-- CLASS_SET (R85). -/
def execClassSet (cls lockCost releaseCost limit retries : Byte) (s : State) : Out :=
  answered (takeClassSet cls lockCost releaseCost limit retries) s

end Sys2Proof.Machine
end

