-- ==== Sys2Proof/Machine/Doors.lean ====
section
/-! DEFINITION. Machine/Doors.lean: the Door Table. A node's report by the door's state (R12 to R27), silence (R28,
R96), the requests DOOR_SET, DOOR_CLEAR, DOOR_READ and DOOR_ACT, and the ends of the door timers (R17, R21, R24). In
every rule the door's own notice comes before the finish of its sweep, and the arbiter is considered last (log 13). -/

namespace Sys2Proof.Machine

/-! ### Reports -/

/-- The observation of a report; a fault takes both fields as UNKNOWN (R12 step 1). -/
def State.observe (d : DoorNo) (rep : Report) (s : State) : State :=
  s.updDoor d (fun x => { x with
    position := if rep.fault then .unknown else rep.position
    bolt := if rep.fault then .unknown else rep.bolt })

/-- A rule sets intent LOCK unless the door is held or fire-locked-out (R14, R18, R20). -/
def State.wantLockUnlessBlocked (d : DoorNo) (s : State) : State :=
  if s.lockBlocked d then s else s.updDoor d Door.wantLock

/-- The classification of an UNKNOWN door (R14). -/
def classifiedState : Bolt → Position → DoorState
  | .thrown, .closed => .secured
  | .thrown, .opened => .ajar
  | .withdrawn, _ => .released
  | _, _ => .unknown

/-- The classification of an UNKNOWN door by its observation (R14). -/
def State.classifyUnknown (d : DoorNo) (s : State) : State :=
  match classifiedState (s.door d).bolt (s.door d).position with
  | .ajar => (s.wantLockUnlessBlocked d).enterAjar d
  | st => s.changeState d st

/-- What follows the classification: the sweep reclassifies a door counted unreachable, or the intent is restored (R14,
R15). -/
def State.afterClassified (d : DoorNo) (s : State) : State :=
  if (s.door d).countedUnreachable then s.reclassify d else (s.restoreIntent d).finishOf d

/-- A report for an UNKNOWN door (R14). -/
def State.reportUnknown (d : DoorNo) (s : State) : State := (s.classifyUnknown d).afterClassified d

/-- A report for a RELEASED door (R16). -/
def State.reportReleased (d : DoorNo) (s : State) : State :=
  if (s.door d).bolt = .thrown ∧ (s.door d).position = .closed then
    ((s.changeState d .secured).raiseDoor .keyed d).finishOf d
  else s

/-- The passage limit of a door's zone (R17, R18, R21). -/
def State.passageLimitOf (s : State) (d : DoorNo) : Nat := (s.zone (s.door d).zone).passageLimit

/-- A SECURED door reports OPEN (R18). -/
def State.openedSecured (d : DoorNo) (rex : Bool) (s : State) : State :=
  let x := s.door d
  if x.exit && (rex || x.allowance.isSome) then
    (((s.changeState d .passage).updDoor d (fun x => { x with passage := some (.start (s.passageLimitOf d)) })).finishOf d)
  else (((s.wantLockUnlessBlocked d).changeState d .forced).raiseDoor .forced d).finishOf d

/-- A report for a SECURED door (R17 to R19). -/
def State.reportSecured (d : DoorNo) (rex : Bool) (s : State) : State :=
  let x := s.door d
  if x.position = .opened then s.openedSecured d rex
  else if x.bolt = .withdrawn then ((s.changeState d .released).raiseDoor .keyed d).finishOf d
  else if x.exit && rex && x.position == .closed then
    s.updDoor d (fun x => { x with allowance := some (.start (s.passageLimitOf d)) })
  else s

/-- A report for a PASSAGE door (R20). -/
def State.reportPassage (d : DoorNo) (s : State) : State :=
  let x := s.door d
  if x.position = .closed then
    match x.bolt with
    | .thrown => (s.changeState d .secured).finishOf d
    | .withdrawn =>
      if s.lockBlocked d then (s.changeState d .released).finishOf d
      else ((s.updDoor d Door.wantLock).placeLock d).finishOf d
    | .moving | .unknown => s
  else s

/-- A report for a door in AJAR or FORCED (R22). -/
def State.reportAjarForced (d : DoorNo) (s : State) : State :=
  if (s.door d).position = .closed then
    match (s.door d).intent with
    | .lock => if s.lockBlocked d then (s.restate d).finishOf d else (s.placeLock d).finishOf d
    | .release =>
      let s := s.restate d
      if (s.door d).state = .released then s.finishOf d else (s.placeRelease d).finishOf d
    | .none => (s.restate d).finishOf d
  else s

/-- A report for a WAITING door: an OPEN door with a LOCK entry becomes AJAR (R26). -/
def State.reportWaiting (d : DoorNo) (s : State) : State :=
  match s.entry d with
  | none => s
  | some e =>
    if e.direction = .lock ∧ (s.door d).position = .opened then
      (((s.dropEntry d).enterAjar d).finishOf d).considerDoor d
    else s

/-- A report for an ACTING door goes to its in-flight record (R27). -/
def State.reportActing (d : DoorNo) (drive accepted : Bool) (s : State) : State :=
  match s.record d with
  | none => s
  | some r => s.reportToRecord r drive accepted

/-- The state of a door is moved by its report (R12 step 2); `drive` says that it answers the door's DRIVE frame
(R109). -/
def State.reportState (d : DoorNo) (drive : Bool) (rep : Report) (s : State) : State :=
  match (s.door d).state with
  | .unknown => s.reportUnknown d
  | .released => s.reportReleased d
  | .secured => s.reportSecured d rep.rex
  | .passage => s.reportPassage d
  | .ajar | .forced => s.reportAjarForced d
  | .jammed => s
  | .waiting => s.reportWaiting d
  | .acting => s.reportActing d drive rep.accepted

/-- A door that the finish of its sweep left counted unreachable on a DOWN trunk, and not UNKNOWN, is heard again: it is
returned to its intent, in the state its report leaves (R75, log 23). An UNKNOWN one is restored by its classification
(R14). -/
def State.restoreUnreached (d : DoorNo) (before : Door) (s : State) : State :=
  if before.unreached && !(before.state == .unknown) then s.restoreIntent d else s

/-- A report is applied to its configured door (R12, R75). -/
def State.report (d : DoorNo) (drive : Bool) (rep : Report) (s : State) : State :=
  (((s.observe d rep).updDoor d (fun x => { x with unreached := false })).reportState d drive rep).restoreUnreached d
    (s.door d)

/-! ### Silence -/

/-- Silence takes the door's work: the entry of a WAITING door, the record of an ACTING one (R28 step 1, R96). -/
def State.dropWork (d : DoorNo) (s : State) : State :=
  match (s.door d).state with
  | .waiting => s.dropEntry d
  | .acting => s.dropRecord d
  | .unknown | .released | .secured | .ajar | .passage | .jammed | .forced => s

/-- The door becomes UNKNOWN, with no timers and attempts 0 (R28 step 2). -/
def State.becomeUnknown (d : DoorNo) (s : State) : State :=
  if (s.door d).state = .unknown then s
  else (s.changeState d .unknown).updDoor d (fun x => { x.clearTimers with attempts := 0 })

/-- A door's misses have reached the silence limit (R107): the health, the SILENT notice with the door as it stood,
the Door Table's part (R28), the sweep's count (R68, R69), and the arbiter of a queue that lost work (R96). A sweep that
it leaves without a pending door finishes here, and its slot is offered at once (log 22). -/
def State.goSilent (d : DoorNo) (s : State) : State :=
  let hadWork := (s.door d).state == .waiting || (s.door d).state == .acting
  let s := (s.updDoor d (fun x => { x with health := .silent })).raiseDoor .silent d
  let s := ((s.dropWork d).becomeUnknown d).handOffCount d countAfterSilence
  let s := s.finishOf d
  if hadWork then s.considerDoor d else s

/-! ### DOOR_SET and DOOR_CLEAR -/

/-- A trunk in OFF gains its first configured door (R111). -/
def TrunkState.firstDoor (x : TrunkState) : TrunkState :=
  { x with mode := .running, failures := 0, patrolCursor := 1, sincePatrol := none, sinceWindow := 0 }

/-- A trunk loses its last configured door (R111). -/
def TrunkState.lastDoorGone (x : TrunkState) : TrunkState := { x with mode := .off, urgentPoll := none, failures := 0 }

/-- A trunk's state is evaluated again after a change of its configured doors (R111). Becoming RUNNING is handed to the
arbiter and to the Sweep Engine. -/
def State.evaluateTrunk (t : Trunk) (s : State) : State :=
  match (s.trunk t).mode, s.trunkHasDoor t with
  | .off, true => ((s.updTrunk t TrunkState.firstDoor).consider t).trunkBack t []
  | .running, false | .down, false => s.updTrunk t TrunkState.lastDoorGone
  | .off, false | .running, true | .down, true => s

/-- The new record of a DOOR_SET: the nine configuration fields, and the warm-restart values for the rest (R9 steps 1
and 2). -/
def configuredDoor (trunk : Trunk) (address : Nat) (zone : ZoneNo) (rank : Nat) (cls : ClassNo) (flags : Byte) : Door :=
  Door.warm { Door.cold with
    configured := true, trunk := trunk, address := address, zone := zone, rank := rank, cls := cls
    fire := flags.getLsbD 0, exit := flags.getLsbD 1, chime := flags.getLsbD 2 }

/-- While the fire state is not NORMAL a door set with the fire flag gets intent RELEASE (R143). -/
def Door.underFire (fire : FireState) (x : Door) : Door :=
  if x.fire && !(fire == .normal) then { x with intent := .release } else x

/-- The effects of R9 steps 3 to 5, and of R10, on the trunk and zone a door had before the request; a door that was
unconfigured had none. -/
def State.leavePlace (d : DoorNo) (old : Door) (s : State) : State :=
  if old.configured then
    ((s.updTrunk old.trunk (fun t => { t with warnList := dropWarn d t.warnList })).evaluateTrunk old.trunk).rederive
      old.zone
  else s

/-- The effect of an accepted DOOR_SET (R9, R143). -/
def State.applyDoorSet (d : DoorNo) (x : Door) (s : State) : State :=
  let old := s.door d
  (((s.setDoor d (x.underFire s.fire)).leavePlace d old).evaluateTrunk x.trunk).rederive x.zone

/-- Another configured door has a trunk and address (R8 check 2). -/
def State.addressTaken (s : State) (d : DoorNo) (t : Trunk) (address : Nat) : Bool :=
  !(s.doorsWhere (fun e x => !(e == d) && x.trunk == t && x.address == address)).isEmpty

/-- The door is WAITING or ACTING (R8 check 4, R10). -/
def Door.hasWork (x : Door) : Bool := x.state == .waiting || x.state == .acting

/-- DOOR_SET: the checks of R8 in order, then R9. -/
def takeDoorSet (door trunk address zone rank cls flags : Byte) (s : State) : State × Answer :=
  let d := doorOfByte door
  match trunkOfByte trunk, finOfByte 32 zone, finOfByte 8 cls with
  | some t, some z, some c =>
    if 1 ≤ address.toNat ∧ address.toNat ≤ 64 then
      if s.addressTaken d t address.toNat then (s, refusal .conflict)
      else if (s.door d).sweep.isSome then (s, refusal .sweep)
      else if (s.door d).hasWork then (s, refusal .state)
      else (s.applyDoorSet d (configuredDoor t address.toNat z rank.toNat c flags), okWith [])
    else (s, refusal .range)
  | _, _, _ => (s, refusal .range)

/-- DOOR_SET (R8). -/
def execDoorSet (door trunk address zone rank cls flags : Byte) (s : State) : Out :=
  answered (takeDoorSet door trunk address zone rank cls flags) s

/-- DOOR_CLEAR (R10). -/
def takeDoorClear (door : Byte) (s : State) : State × Answer :=
  let d := doorOfByte door
  let old := s.door d
  if old.sweep.isSome then (s, refusal .sweep)
  else if old.hasWork then (s, refusal .state)
  else if old.configured then ((s.setDoor d Door.cold).leavePlace d old, okWith [])
  else (s, okWith [])

/-- DOOR_CLEAR (R10). -/
def execDoorClear (door : Byte) (s : State) : Out := answered (takeDoorClear door) s

/-! ### DOOR_READ -/

/-- The 23 bytes of a DOOR_READ reply (R11, R178). -/
def State.doorReadReply (s : State) (d : DoorNo) : List Byte :=
  let x := s.door d
  [byte d.val, flagByte x.configured, trunkByte x.trunk, byte x.address, byte x.zone.val, byte x.rank, byte x.cls.val,
    doorFlagsByte x, doorStateByte x.state, intentByte x.intent, flagByte x.keepOpen, byte x.attempts,
    positionByte x.position, boltByte x.bolt, healthByte x.health, byte x.misses,
    (x.sweep.map (fun l => byte l.slot.val)).getD 0xFF, (x.sweep.map (fun l => countByte l.count)).getD 0xFF,
    timerByte x.passage, timerByte x.allowance, timerByte x.reminder, flagByte (s.held d),
    flagByte (s.fireLockedOut d)]

/-- DOOR_READ is answered OK; a read changes nothing (R11). -/
def takeDoorRead (door : Byte) (s : State) : State × Answer := (s, okWith (s.doorReadReply (doorOfByte door)))

/-- DOOR_READ (R11). -/
def execDoorRead (door : Byte) (s : State) : Out := answered (takeDoorRead door) s

/-! ### DOOR_ACT -/

/-- DOOR_ACT LOCK by the door's state (R30). -/
def State.actLock (d : DoorNo) (s : State) : State :=
  match (s.door d).state with
  | .secured | .passage | .ajar => s
  | .forced => if (s.door d).position = .opened then s else s.placeLock d
  | .unknown => if (s.door d).health = .heard then s.placeLock d else s
  | .released | .jammed | .waiting | .acting => s.placeLock d

/-- DOOR_ACT RELEASE by the door's state; its placements are ROUTINE (R30). -/
def State.actRelease (d : DoorNo) (s : State) : State :=
  match (s.door d).state with
  | .released => s
  | .ajar => if (s.door d).bolt = .withdrawn then s.changeState d .released else s.place false d .release .routine
  | .unknown => if (s.door d).health = .heard then s.place false d .release .routine else s
  | .secured | .passage | .forced | .jammed | .waiting | .acting => s.place false d .release .routine

/-- The effect of an accepted DOOR_ACT (R30). -/
def State.actOn (d : DoorNo) (dir : Direction) (s : State) : State :=
  let s := s.updDoor d (fun x => { x with intent := dir.intent, keepOpen := false })
  match dir with
  | .lock => s.actLock d
  | .release => s.actRelease d

/-- DOOR_ACT: the checks of R29 in order, then R30. -/
def takeDoorAct (door direction : Byte) (s : State) : State × Answer :=
  let d := doorOfByte door
  match directionOfByte direction with
  | none => (s, refusal .range)
  | some dir =>
    if (s.door d).configured then
      if (s.door d).sweep.isSome then (s, refusal .sweep)
      else if dir = .lock ∧ s.fireLockedOut d then (s, refusal .fire)
      else if dir = .lock ∧ s.held d then (s, refusal .held)
      else (s.actOn d dir, okWith [])
    else (s, refusal .range)

/-- DOOR_ACT (R29). -/
def execDoorAct (door direction : Byte) (s : State) : Out := answered (takeDoorAct door direction) s

/-! ### The ends of the door timers -/

/-- An exit allowance reaches 0 and becomes absent; no notice is raised (R17). -/
def State.endAllowance (d : DoorNo) (s : State) : State :=
  if isEnding (s.door d).allowance then s.updDoor d (fun x => { x with allowance := none }) else s

/-- EXIT_ALLOWANCE_END (R17). -/
def execExitAllowanceEnd (d : DoorNo) (s : State) : Out := .next (s.endAllowance d)

/-- A passage timer reaches 0, raises LONG_PASSAGE and is set again (R21). -/
def State.endPassage (d : DoorNo) (s : State) : State :=
  if isEnding (s.door d).passage then
    (s.raiseDoor .longPassage d).updDoor d (fun x => { x with passage := some (.start (s.passageLimitOf d)) })
  else s

/-- LONG_PASSAGE (R21). -/
def execLongPassage (d : DoorNo) (s : State) : Out := .next (s.endPassage d)

/-- An ajar reminder reaches 0, raises AJAR again and is set again, or becomes absent (R24). -/
def State.endReminder (d : DoorNo) (s : State) : State :=
  if isEnding (s.door d).reminder then (s.raiseDoor .ajar d).setReminder d else s

/-- AJAR_REMINDER (R24). -/
def execAjarReminder (d : DoorNo) (s : State) : Out := .next (s.endReminder d)

end Sys2Proof.Machine
end

