-- ==== Sys2Proof/Machine/Trunks.lean ====
section
/-! DEFINITION. Machine/Trunks.lean: the Trunk Controllers. The frame scheduler (R114 to R117), the outcome of a frame
with its accounting and delivery (R104 to R113), the alert window (R118, R119), and the request TRUNK_SET (R120). -/

namespace Sys2Proof.Machine

/-! ### The frame scheduler -/

/-- What the scheduler puts on a free line, WINDOW apart (R114 orders 2 to 6). -/
inductive LineOrder where
  | urgent (d : DoorNo)
  | drive (d : DoorNo) (dir : Direction)
  | warn (e : WarnEntry)
  | settle (d : DoorNo)
  | patrol (d : DoorNo)
  deriving DecidableEq, Repr

/-- The door the frame of an order is sent for. -/
def LineOrder.door : LineOrder → DoorNo
  | .urgent d | .drive d _ | .settle d | .patrol d => d
  | .warn e => e.door

/-- The frame of an order: only DRIVE and WARN are no POLL (R99). -/
def LineOrder.kind : LineOrder → FrameKind
  | .urgent _ | .settle _ | .patrol _ => .poll
  | .drive _ dir => .drive dir
  | .warn e => .warn e.pattern e.minutes

/-- Order 2: the configured door that has the urgent address now (R119). -/
def State.urgentOrder (s : State) (t : Trunk) : Option LineOrder :=
  match (s.trunk t).urgentPoll with
  | none => none
  | some a => (s.doorAt t a).map .urgent

/-- Order 3: the oldest grant in GRANTED (R114). -/
def TrunkState.driveOrder (x : TrunkState) : Option LineOrder :=
  (x.inFlight.find? (fun r => !r.isDriving)).map (fun r => .drive r.door r.direction)

/-- Order 4: the first entry of the warn list (R117). -/
def TrunkState.warnOrder (x : TrunkState) : Option LineOrder := x.warnList.head?.map .warn

/-- 200 ms or more have passed since the last frame for the door was sent (R115). -/
def Door.settleDue (x : Door) : Bool := decide ((Config.settleInterval : Int) ≤ x.sinceFrame)

/-- Order 5: the oldest grant in DRIVING whose door's last frame was sent 200 ms or more ago (R115). -/
def State.settleOrder (s : State) (t : Trunk) : Option LineOrder :=
  ((s.trunk t).inFlight.find? (fun r => r.isDriving && (s.door r.door).settleDue)).map (fun r => .settle r.door)

/-- The poll gap has passed since the last patrol poll was sent; an absent one was long ago (R110, R114, R116). -/
def TrunkState.gapPassed (x : TrunkState) : Bool :=
  match x.sincePatrol with
  | none => true
  | some n => decide ((Config.tenthsPerMs * x.pollGap : Nat) ≤ n)

/-- How far an address is from the patrol cursor, going up and wrapping after 64 (R116). -/
def patrolDistance (cursor address : Nat) : Nat := (address + 64 - cursor) % 64

/-- The next configured door at or after the cursor (R116). -/
def State.patrolDoor (s : State) (t : Trunk) : Option DoorNo :=
  (sortByKey (fun d => patrolDistance (s.trunk t).patrolCursor (s.door d).address)
    (s.doorsWhere (fun _ x => x.trunk == t))).head?

/-- Order 6 (R114, R116). -/
def State.patrolOrder (s : State) (t : Trunk) : Option LineOrder :=
  if (s.trunk t).gapPassed then (s.patrolDoor t).map .patrol else none

/-- The first order that is ready (R114); a DOWN trunk sends patrol polls alone, an OFF trunk nothing (R110). -/
def State.nextOrder (s : State) (t : Trunk) : Option LineOrder :=
  match (s.trunk t).mode with
  | .off => none
  | .down => s.patrolOrder t
  | .running =>
    (s.urgentOrder t).or ((s.trunk t).driveOrder.or ((s.trunk t).warnOrder.or ((s.settleOrder t).or (s.patrolOrder t))))

/-- What sending the frame of an order changes beside the line: the urgent poll, the warn entry, or the patrol cursor
and the time since the last patrol poll, which is `since` now (R116, R117, R119). -/
def LineOrder.consume (address : Nat) (since : Int) (o : LineOrder) (x : TrunkState) : TrunkState :=
  match o with
  | .urgent _ => { x with urgentPoll := none }
  | .drive _ _ | .settle _ => x
  | .warn _ => { x with warnList := x.warnList.tail }
  | .patrol _ => { x with patrolCursor := address % 64 + 1, sincePatrol := some since }

/-- The sending of a frame begins: the line is occupied and the frames since window are increased to at most 8. The
frame is sent at the end of its last character, so that the time since it, for the settle interval of its door and the
poll gap, stands below 0 by the time its characters take (R103, R114 to R116). -/
def State.send (t : Trunk) (o : LineOrder) (s : State) : State :=
  let address := (s.door o.door).address
  let line : Line := .frame (frameFor o.kind o.door address) false
  let since : Int := -(line.sendTime : Int)
  (s.updTrunk t (fun x => { o.consume address since x with
    sinceWindow := min Config.framesPerWindow (x.sinceWindow + 1)
    line := line })).updDoor o.door (fun x => { x with sinceFrame := since })

/-- A WINDOW is sent (R114, R118). -/
def State.sendWindow (t : Trunk) (s : State) : State :=
  s.updTrunk t (fun x => { x with sinceWindow := 0, line := .window windowFrame false })

/-- A pending urgent poll whose address no configured door has becomes absent (R119). -/
def State.dropDeadUrgent (t : Trunk) (s : State) : State :=
  if (s.urgentOrder t).isNone then s.updTrunk t (fun x => { x with urgentPoll := none }) else s

/-- The scheduler takes the first order that is ready (R114). -/
def State.schedule (t : Trunk) (s : State) : State :=
  if (s.trunk t).mode = .running ∧ Config.framesPerWindow ≤ (s.trunk t).sinceWindow then s.sendWindow t
  else
    let s := if (s.trunk t).mode = .running then s.dropDeadUrgent t else s
    match s.nextOrder t with
    | none => s
    | some o => s.send t o

/-- The line carries nothing. -/
def Line.isFree (l : Line) : Bool := l == .free

/-- After `waited` milliseconds the line is free and the scheduler chooses; while the line is occupied the scheduler
does not act (R103, log 3). -/
def State.sendFrame (t : Trunk) (waited : Nat) (s : State) : State :=
  if (s.trunk t).line.isFree then (s.waitTrunk t waited).schedule t else s

/-- SEND_FRAME (R114). -/
def execSendFrame (t : Trunk) (waited : Nat) (s : State) : Out := .next (s.sendFrame t waited)

/-! ### Accounting to the door -/

/-- A good reply is accounted to its door (R106). -/
def State.accountGood (d : DoorNo) (s : State) : State :=
  let s := s.updDoor d (fun x => { x with misses := 0 })
  match (s.door d).health with
  | .heard => s
  | .new => s.updDoor d (fun x => { x with health := .heard })
  | .silent => (s.updDoor d (fun x => { x with health := .heard })).raiseDoor .nodeBack d

/-- A failed outcome is accounted to its door (R107). -/
def State.accountMiss (d : DoorNo) (s : State) : State :=
  let limit := (s.trunk (s.door d).trunk).silenceLimit
  let misses := (s.door d).misses
  if limit ≤ misses then s
  else
    let s := s.updDoor d (fun x => { x with misses := misses + 1 })
    if misses + 1 = limit then s.goSilent d else s

/-! ### Accounting to the trunk -/

/-- The doors of the GRANTED records, in the order of their grants (R95). -/
def TrunkState.grantedDoors (x : TrunkState) : List DoorNo :=
  (x.inFlight.filter (fun r => !r.isDriving)).map Record.door

/-- How many configured doors a trunk has (R112). -/
def State.doorsOfTrunk (s : State) (t : Trunk) : Nat := (s.doorsWhere (fun _ x => x.trunk == t)).length

/-- A trunk becomes DOWN (R112). -/
def State.trunkDown (t : Trunk) (s : State) : State :=
  let s := s.updTrunk t (fun x => { x with mode := .down })
  let x := s.trunk t
  let s := s.raise .trunkDown (.trunk t) (.trunkDown (s.doorsOfTrunk t) x.queue.length x.inFlight.length)
  (State.returnGranted x.grantedDoors [] s).updTrunk t (fun x => { x with urgentPoll := none })

/-- A DOWN trunk becomes RUNNING (R113). `skip` are doors that R71 leaves to their own report (log 14). -/
def State.trunkUp (t : Trunk) (skip : List DoorNo) (s : State) : State :=
  let s := s.updTrunk t (fun x => { x with mode := .running })
  let s := s.raise .trunkUp (.trunk t) (.trunkUp (s.trunk t).queue.length)
  (s.consider t).trunkBack t skip

/-- A good outcome is accounted to its trunk (R108). -/
def State.trunkGood (t : Trunk) (skip : List DoorNo) (s : State) : State :=
  let s := s.updTrunk t (fun x => { x with failures := 0 })
  if (s.trunk t).mode = .down then s.trunkUp t skip else s

/-- A failed outcome is accounted to its trunk (R108). -/
def State.trunkFailure (t : Trunk) (s : State) : State :=
  let s := s.updTrunk t (fun x => { x with failures := min Config.downAfter (x.failures + 1) })
  if (s.trunk t).mode = .running ∧ Config.downAfter ≤ (s.trunk t).failures then s.trunkDown t else s

/-- A trunk in OFF has no count of its own to keep (R111). -/
def State.clearOffCount (t : Trunk) (s : State) : State :=
  if (s.trunk t).mode = .off then s.updTrunk t (fun x => { x with failures := 0 }) else s

/-! ### The outcome of a frame -/

/-- The frame's door still has the frame's trunk and address and is configured (R105). -/
def State.frameStands (s : State) (t : Trunk) (f : LineFrame) : Bool :=
  (s.door f.door).configured && (s.door f.door).trunk == t && (s.door f.door).address == f.address

/-- The frame is a DRIVE. -/
def LineFrame.isDrive (f : LineFrame) : Bool :=
  match f.kind with
  | .drive _ => true
  | .poll | .warn _ _ => false

/-- A good outcome: the accounting of R106 and R108, then the report (R109). -/
def State.outcomeGood (t : Trunk) (f : LineFrame) (rep : Report) (s : State) : State :=
  if s.frameStands t f then
    let skip := if (s.door f.door).health = .heard then [] else [f.door]
    ((s.accountGood f.door).trunkGood t skip).report f.door f.isDrive rep
  else s.trunkGood t []

/-- The outcome of a failed DRIVE frame reaches the record, if it still exists after the accounting (R91, R109). -/
def State.deliverFailure (f : LineFrame) (s : State) : State :=
  if f.isDrive then
    match s.record f.door with
    | none => s
    | some r => s.driveFailed r
  else s

/-- A NO_REPLY or GARBLED outcome: the accounting of R107 and R108, then the delivery to a DRIVE's record (R109). -/
def State.outcomeBad (t : Trunk) (f : LineFrame) (s : State) : State :=
  if s.frameStands t f then ((s.accountMiss f.door).trunkFailure t).deliverFailure f
  else s.trunkFailure t

/-- The outcome of a frame that was not abandoned is taken (R104). -/
def State.takeFrame (t : Trunk) (f : LineFrame) (reply : LineReply) (s : State) : State :=
  State.clearOffCount t
    (match judge reply with
    | .good rep => s.outcomeGood t f rep
    | .noReply | .garbled => s.outcomeBad t f)

/-- The characters of a frame have been sent, so that the time since the last patrol poll is not below 0, and neither is
the time since the last frame of its door, while the door stands where the frame went: one that has moved has that time
from the frames of its new place (R105, R115, R116, log 7). -/
def State.frameSent (t : Trunk) (f : LineFrame) (s : State) : State :=
  let stands := s.frameStands t f
  (s.updTrunk t (fun x => { x with sincePatrol := x.sincePatrol.map (fun n => max 0 n) })).updDoor f.door
    (fun x => if stands then { x with sinceFrame := max 0 x.sinceFrame } else x)

/-- The line falls free (R103). What was left of the reply, or of the window, has passed with it, so that a restarted
second is past (log 19). -/
def State.freeLine (t : Trunk) (s : State) : State := (s.updTrunk t (fun x => { x with line := .free })).secondRuns

/-- The reply of the frame on a line is judged, after the frame has been sent; the outcome of an abandoned frame is not
taken (R104, R105). -/
def State.frameOutcome (t : Trunk) (reply : LineReply) (s : State) : State :=
  match (s.trunk t).line with
  | .frame f abandoned =>
    let s := (s.frameSent t f).freeLine t
    if abandoned then s else s.takeFrame t f reply
  | .free | .window _ _ => s

/-- FRAME_OUTCOME (R104). -/
def execFrameOutcome (t : Trunk) (reply : LineReply) (s : State) : Out := .next (s.frameOutcome t reply)

/-! ### The end of a window -/

/-- The value read in a window: 127 is no alert, the address of a configured door becomes the pending urgent poll, any
other value is ignored (R119). -/
def State.takeBid (t : Trunk) (value : Nat) (s : State) : State :=
  if value = 127 then s
  else if (s.doorAt t value).isSome then s.updTrunk t (fun x => { x with urgentPoll := some value })
  else s

/-- The last bit slot of a window ends and the line falls free (R103, R119). -/
def State.endWindow (t : Trunk) (bits : BitVec 7) (s : State) : State :=
  match (s.trunk t).line with
  | .window _ abandoned => if abandoned then s.freeLine t else (s.freeLine t).takeBid t bits.toNat
  | .free | .frame _ _ => s

/-- WINDOW_END (R119). -/
def execWindowEnd (t : Trunk) (bits : BitVec 7) (s : State) : Out := .next (s.endWindow t bits)

/-! ### TRUNK_SET -/

/-- The five settings lie in their ranges, the rest interval a multiple of 50 ms (R82, R110, R120). -/
def trunkSettingsInRange (budget runLength : Byte) (rest : Word16) (silence : Byte) : Bool :=
  decide (1 ≤ budget.toNat) && decide (budget.toNat ≤ 32) && decide (1 ≤ runLength.toNat) &&
    decide (runLength.toNat ≤ 15) && decide (rest.toNat ≤ 5000) && decide (rest.toNat % 50 = 0) &&
    decide (1 ≤ silence.toNat) && decide (silence.toNat ≤ 15)

/-- The settings are replaced and the free units become the new budget (R97, R120 step 1). -/
def TrunkState.withSettings (budget runLength rest gap silence : Nat) (x : TrunkState) : TrunkState :=
  { x with
    budget := budget, runLength := runLength, restInterval := rest, pollGap := gap, silenceLimit := silence
    freeUnits := budget }

/-- The limit is raised: the misses of each SILENT door become the new limit (R120 step 4). -/
def Door.raiseLimit (t : Trunk) (limit : Nat) (x : Door) : Door :=
  if x.configured && x.trunk == t && x.health == .silent then { x with misses := limit } else x

/-- The limit is lowered for one door whose misses are at or above it (R120 step 4). -/
def State.lowerLimit (limit : Nat) (d : DoorNo) (s : State) : State :=
  let s := s.updDoor d (fun x => { x with misses := limit })
  if (s.door d).health = .silent then s else s.goSilent d

/-- The configured doors of a trunk whose misses are at or above a limit, in ascending address (R120 step 4). -/
def State.atLimit (s : State) (t : Trunk) (limit : Nat) : List DoorNo :=
  sortByKey (fun d => (s.door d).address) (s.doorsWhere (fun _ x => x.trunk == t && decide (limit ≤ x.misses)))

/-- The silence limit takes effect on every configured door of the trunk (R120 step 4). A sweep that a lowered limit
leaves without a pending door finishes door by door, and its slot is offered at once (log 22). -/
def State.applyLimit (t : Trunk) (old new : Nat) (s : State) : State :=
  if old < new then { s with doors := mapAll (Door.raiseLimit t new) s.doors }
  else if new < old then forEach (s.atLimit t new) (State.lowerLimit new) s
  else s

/-- The effect of an accepted TRUNK_SET (R97, R120). -/
def State.applyTrunkSet (t : Trunk) (budget runLength rest gap silence : Nat) (s : State) : State :=
  let old := (s.trunk t).silenceLimit
  (((s.updTrunk t (TrunkState.withSettings budget runLength rest gap silence)).consider t).applyLimit t old silence)

/-- TRUNK_SET (R120). -/
def takeTrunkSet (trunk budget runLength : Byte) (rest : Word16) (gap silence : Byte) (s : State) : State × Answer :=
  match trunkOfByte trunk with
  | none => (s, refusal .range)
  | some t =>
    if trunkSettingsInRange budget runLength rest silence then
      if (s.trunk t).inFlight.isEmpty then
        (s.applyTrunkSet t budget.toNat runLength.toNat rest.toNat gap.toNat silence.toNat, okWith [])
      else (s, refusal .state)
    else (s, refusal .range)

/-- TRUNK_SET (R120). -/
def execTrunkSet (trunk budget runLength : Byte) (rest : Word16) (gap silence : Byte) (s : State) : Out :=
  answered (takeTrunkSet trunk budget runLength rest gap silence) s

end Sys2Proof.Machine
end

