-- ==== Sys2Proof/Machine/Holds.lean ====
section
/-! DEFINITION. Machine/Holds.lean: the Hold List. Making a hold and its beginning on a door (R121 to R126), its ending
(R128 to R130), and the commands HOLD_ADD, HOLD_END, HOLD_READ and HOLD_COUNTDOWN_END. -/

namespace Sys2Proof.Machine

/-! ### Beginning -/

/-- The DEFER hold's effect on a covered door, by the table of R125. A door AJAR or FORCED loses its intent and its mark
there whatever they are, and so also when a KEEP_OPEN hold covers it (log 20: the last sentence of R126 says otherwise of
a RELEASE intent). -/
def State.deferOn (d : DoorNo) (s : State) : State :=
  match (s.door d).state with
  | .waiting =>
    match s.entry d with
    | none => s
    | some e => if e.direction = .lock then s.withdrawEntry d else s
  | .acting =>
    match s.record d with
    | none => s
    | some r => if r.direction = .lock ∧ (s.door d).intent = .lock then s.updDoor d Door.noIntent else s
  | .ajar | .forced =>
    let s := s.updDoor d Door.noIntent
    if (s.door d).bolt = .withdrawn then s.changeState d .released
    else s.updDoor d (fun x => { x with reminder := none })
  | .secured | .passage | .released | .jammed | .unknown => s

/-- A door turned toward release by its state: the table of R126, and of R140 with its URGENT class (a fire door is
fire-locked-out at the onset). -/
def State.turnToRelease (d : DoorNo) (s : State) : State :=
  match (s.door d).state with
  | .released => s
  | .ajar => if (s.door d).bolt = .withdrawn then s.changeState d .released else s.placeRelease d
  | .unknown => if (s.door d).health = .heard then s.placeRelease d else s
  | .secured | .passage | .forced | .jammed | .waiting | .acting => s.placeRelease d

/-- The KEEP_OPEN hold's effect on a covered door (R126). -/
def State.keepOpenOn (d : DoorNo) (s : State) : State :=
  (s.updDoor d (fun x => { x with intent := .release, keepOpen := true })).turnToRelease d

/-- A hold begins on one covered door: its count, the kind's effects, and the test of its sweep (R124, log 12). -/
def State.beginOn (kind : HoldKind) (d : DoorNo) (s : State) : State :=
  let s := s.moveToHeld d
  let s :=
    match kind with
    | .defer => s.deferOn d
    | .keepOpen => s.keepOpenOn d
  s.finishOf d

/-- The configured doors a hold covers, in ascending door number (R122). -/
def State.coveredDoors (s : State) (h : Hold) : List DoorNo := s.doorsWhere h.covers

/-- A hold begins on each door it covers (R123 step 2). -/
def State.beginHold (h : Hold) (s : State) : State := forEach (s.coveredDoors h) (State.beginOn h.kind) s

/-- The first id after the last id, counting on from 255 to 1, that no hold is using (R121). -/
def State.nextHoldId (s : State) : Nat :=
  (((List.range 255).map (fun i => (s.lastHoldId + i) % 255 + 1)).find?
    (fun n => !s.holds.any (fun h => h.id == n))).getD 1

/-- The hold that will be made (R121, R123 step 1). -/
def State.newHold (s : State) (kind : HoldKind) (scope : Scope) (origin : HoldOrigin) (remaining : Option Countdown) :
    Hold :=
  ⟨s.nextHoldId, kind, scope, origin, remaining⟩

/-- A hold is added at the end of the list and begins (R123 steps 1 and 2). -/
def State.addHold (h : Hold) (s : State) : State :=
  State.beginHold h { s with holds := s.holds ++ [h], lastHoldId := h.id }

/-- The Hold List has room (R121, R123, R136). -/
def State.holdsFull (s : State) : Bool := decide (Config.maxHolds ≤ s.holds.length)

/-! ### Ending -/

/-- A freed door that no case of R129 before the third takes. -/
def State.freeUnlinked (d : DoorNo) (s : State) : State :=
  if (s.door d).keepOpen then s.updDoor d Door.noIntent else s.restoreIntent d

/-- A door freed by the end of its last covering hold (R129). A sweep that its reclassification leaves without a pending
door finishes at that door's turn, and its slot is offered at once (log 22). -/
def State.freeDoor (d : DoorNo) (s : State) : State :=
  match s.linkedSweep d with
  | none => s.freeUnlinked d
  | some (l, w) =>
    if w.isActiveLock ∧ l.count = .held then s.reclassify d
    else if w.direction = .release then s.updDoor d (fun x => { x with keepOpen := false })
    else s.freeUnlinked d

/-- The zones of a scope (R130). -/
def State.scopeZones (s : State) : Scope → List ZoneNo
  | .zones m => zonesOf m
  | .door d => if (s.door d).configured then [(s.door d).zone] else []

/-- The four conditions for a TRAILING marker (R130). -/
def State.wantsTrailing (s : State) (z : ZoneNo) : Bool :=
  (s.zone z).state == .partly && (s.zone z).last == some .lock && (s.sweepOf z).isNone && (s.zone z).marker.isNone

/-- TRAILING markers are given as one set (R130). -/
def State.giveTrailing (scope : Scope) (s : State) : State :=
  (s.giveSet .trailing (((s.scopeZones scope).filter s.wantsTrailing).map (fun z => (z, .lock)))).1

/-- The record leaves the list, and the input that owns it owns no hold (R128 step 1). -/
def State.removeHold (h : Hold) (s : State) : State :=
  let s := { s with holds := s.holds.filter (fun x => !(x.id == h.id)) }
  match h.origin with
  | .link => s
  | .input i => s.updInput i (fun x => if x.owned = some h.id then { x with owned := none } else x)

/-- A hold ends (R128). -/
def State.endHold (h : Hold) (cause : HoldCause) (s : State) : State :=
  let s := s.removeHold h
  let freed := s.doorsWhere (fun d x => h.covers d x && !s.held d)
  let s := (forEach freed State.freeDoor s).giveTrailing h.scope
  s.raise .holdEnded (.hold h.id) (.holdEnded h.kind h.scope h.origin cause freed.length)

/-- The hold with an id. -/
def State.findHold (s : State) (id : Nat) : Option Hold := s.holds.find? (fun h => h.id == id)

/-! ### Commands -/

/-- A scope read from its form and value: a zone set of at least one zone, or one configured door (R123 check 1). -/
def State.scopeOf (s : State) (form : Byte) (value : ZoneSet) : Option Scope :=
  match form.toNat with
  | 0 => if value = 0 then none else some (.zones value)
  | 1 =>
    if h : value.toNat < 256 then
      if (s.door ⟨value.toNat, h⟩).configured then some (.door ⟨value.toNat, h⟩) else none
    else none
  | _ => none

/-- HOLD_ADD: the checks of R123 in order, then its steps. -/
def takeHoldAdd (kind form : Byte) (scope : ZoneSet) (minutes : Word16) (s : State) : State × Answer :=
  match holdKindOfByte kind, s.scopeOf form scope with
  | some k, some sc =>
    if minutes.toNat ≤ 1439 then
      if s.holdsFull then (s, refusal .full)
      else
        let h := s.newHold k sc .link (if minutes = 0 then none else some (.start minutes.toNat))
        (s.addHold h, okWith [byte h.id])
    else (s, refusal .range)
  | _, _ => (s, refusal .range)

/-- HOLD_ADD (R123). -/
def execHoldAdd (kind form : Byte) (scope : ZoneSet) (minutes : Word16) (s : State) : Out :=
  answered (takeHoldAdd kind form scope minutes) s

/-- HOLD_END (R131). -/
def takeHoldEnd (id : Byte) (s : State) : State × Answer :=
  match s.findHold id.toNat with
  | none => (s, refusal .range)
  | some h => (s.endHold h .request, okWith [])

/-- HOLD_END (R131). -/
def execHoldEnd (id : Byte) (s : State) : Out := answered (takeHoldEnd id) s

/-- A hold's remaining minutes, 0 for an untimed one (R178). -/
def minutesBytes (c : Option Countdown) : List Byte := bytes2 ((c.map Countdown.left).getD 0)

/-- The 12 bytes of one hold in a HOLD_READ reply (R132, R178). -/
def State.holdBytes (s : State) (h : Hold) : List Byte :=
  [byte h.id, holdKindByte h.kind] ++ scopeBytes h.scope ++ [holdOriginByte h.origin] ++
    minutesBytes h.remaining ++ bytes2 (s.coveredDoors h).length

/-- The bytes of a HOLD_READ reply (R132, R178). -/
def State.holdReadReply (s : State) : List Byte :=
  [byte s.holds.length, byte s.lastHoldId] ++ s.holds.flatMap s.holdBytes

/-- HOLD_READ; a read changes nothing (R132). -/
def takeHoldRead (s : State) : State × Answer := (s, okWith s.holdReadReply)

/-- HOLD_READ (R132). -/
def execHoldRead (s : State) : Out := answered takeHoldRead s

/-- The ids of the holds whose last minute is over, in list order (R127). -/
def State.spentHolds (s : State) : List Nat := (s.holds.filter (fun h => isEnding h.remaining)).map Hold.id

/-- A timed hold's remaining reaches 0 and it ends with cause COUNTDOWN (R127). -/
def State.endSpent (id : Nat) (s : State) : State :=
  match s.findHold id with
  | none => s
  | some h => if isEnding h.remaining then s.endHold h .countdown else s

/-- The holds whose last minute is over end one after another in the order of the list, up to the one named (R127). -/
def State.endCountedDown (id : Nat) (s : State) : State :=
  let ids := s.spentHolds
  if ids.contains id then State.endSpent id (forEach (ids.takeWhile (fun n => !(n == id))) State.endSpent s) else s

/-- HOLD_COUNTDOWN_END (R127). -/
def execHoldCountdownEnd (id : Byte) (s : State) : Out := .next (s.endCountedDown id.toNat)

end Sys2Proof.Machine
end

