-- ==== Sys2Proof/Machine/Inputs.lean ====
section
/-! DEFINITION. Machine/Inputs.lean: the Override Inputs. Debounce (R134), the input functions (R136, R137), the fire
state with its onset, its clearing and its restore (R138 to R142), and the requests INPUT_SET and FIRE_RESTORE. -/

namespace Sys2Proof.Machine

/-! ### Debounce -/

/-- A sampled level: it ends a candidate when it is the debounced level, keeps a candidate of that level, and otherwise
starts one (R134). -/
def Input.sample (level : Level) (x : Input) : Input :=
  if x.level = some level then { x with candidate := none }
  else
    match x.candidate with
    | none => { x with candidate := some ⟨level, 0⟩ }
    | some c => if c.level = level then x else { x with candidate := some ⟨level, 0⟩ }

/-- INPUT_LEVEL_CHANGE (R134). -/
def execInputLevelChange (i : InputNo) (level : Level) (s : State) : Out := .next (s.updInput i (Input.sample level))

/-! ### Fire -/

/-- The sweep of a zone, if it is a LOCK sweep, with its slot (R139 step 2). -/
def State.lockSweepOf (s : State) (z : ZoneNo) : Option SlotNo :=
  match s.sweepOf z with
  | none => none
  | some (k, w) => if w.direction = .lock then some k else none

/-- The zone holds a due LOCK marker. -/
def Zone.hasLockMarker (x : Zone) : Bool :=
  match x.marker with
  | none => false
  | some m => m.direction == .lock

/-- A fire zone's LOCK work is withdrawn: its due LOCK marker, and its LOCK sweep in either phase (R139 step 2). -/
def State.withdrawLock (z : ZoneNo) (s : State) : State :=
  let s := if (s.zone z).hasLockMarker then s.updZone z (fun x => { x with marker := none }) else s
  match s.lockSweepOf z with
  | none => s
  | some k => s.cancelSweep k

/-- A fire door is turned toward release; the keep-open mark is left (R140). A RELEASE sweep that it leaves without a
pending door finishes at that door's turn, and its slot is offered at once (log 22). -/
def State.releaseFireDoor (d : DoorNo) (s : State) : State :=
  ((s.updDoor d (fun x => { x with intent := .release })).turnToRelease d).finishOf d

/-- How many zones show FIRE (R139 step 6). -/
def State.zonesOnFire (s : State) : Nat :=
  ((List.finRange 32).filter (fun z => (s.zone z).state == .fire)).length

/-- The fire onset (R139). -/
def State.fireOnset (s : State) : State :=
  let s := { s with fire := .active }
  let zones := s.fireZones
  let slots := zones.filterMap s.lockSweepOf
  let cleared := (zones.filter (fun z => (s.zone z).hasLockMarker)).length
  let s := forEach zones State.withdrawLock s
  let s := forEach s.fireDoors State.releaseFireDoor s
  let s := (s.rederiveAll).offerSlots slots
  s.raise .fireOn .none (.fireOn s.zonesOnFire s.fireDoors.length slots.length cleared)

/-- How many configured fire doors are not RELEASED (R141). -/
def State.fireDoorsNotReleased (s : State) : Nat := (s.doorsWhere (fun _ x => x.fire && !(x.state == .released))).length

/-- OV0 becomes inactive in ACTIVE (R141). -/
def State.fireCleared (s : State) : State :=
  let s := { s with fire := .cleared }
  (s.raise .fireOff .none (.fireOff s.fireDoorsNotReleased)).rederiveAll

/-- OV0 has become active or inactive (R138). -/
def State.fireChange (nowActive : Bool) (s : State) : State :=
  match nowActive, s.fire with
  | true, .normal | true, .cleared => s.fireOnset
  | false, .active => s.fireCleared
  | true, .active | false, .normal | false, .cleared => s

/-! ### Functions of OV1 to OV7 -/

/-- Raise INPUT with the debounced level and whether the input is active (R136). -/
def State.raiseInput (i : InputNo) (refused : Bool) (s : State) : State :=
  let x := s.input i
  s.raise .input (.input i) (.input (x.level.getD x.activeLevel) x.active refused)

/-- A HOLD input has become active: a hold is made, or HOLD_REFUSED is raised when the list is full (R136). -/
def State.makeInputHold (i : InputNo) (s : State) : State :=
  if s.holdsFull then s.raiseInput i true
  else
    let x := s.input i
    let h := s.newHold x.kind (.zones x.zones) (.input i) none
    (s.addHold h).updInput i (fun x => { x with owned := some h.id })

/-- The hold an input owns ends, if it owns one (R135 step 1, R136). -/
def State.endOwned (i : InputNo) (cause : HoldCause) (s : State) : State :=
  match (s.input i).owned with
  | none => s
  | some id =>
    match s.findHold id with
    | none => s
    | some h => s.endHold h cause

/-- Each zone of the input's zone set is given a due marker, as one set (R136). -/
def State.giveInput (i : InputNo) (dir : Direction) (s : State) : State :=
  (s.giveSet .input ((zonesOf (s.input i).zones).map (fun z => (z, dir)))).1

/-- An input has become active (R136). -/
def State.becameActive (i : InputNo) (s : State) : State :=
  match (s.input i).function with
  | .hold => s.makeInputHold i
  | .lock => s.giveInput i .lock
  | .release => s.giveInput i .release
  | .fire => s.fireChange true
  | .none | .report => s

/-- An input has become inactive (R136). -/
def State.becameInactive (i : InputNo) (s : State) : State :=
  match (s.input i).function with
  | .hold => s.endOwned i .input
  | .fire => s.fireChange false
  | .none | .report | .lock | .release => s

/-- A change of an input's activity is taken by its function; `was` is the activity before (R133). -/
def State.takeActivity (i : InputNo) (was : Bool) (s : State) : State :=
  match was, (s.input i).active with
  | false, true => s.becameActive i
  | true, false => s.becameInactive i
  | true, true | false, false => s

/-- The candidate's level becomes the debounced level (R134). -/
def Input.accept (c : Candidate) (x : Input) : Input := { x with level := some c.level, candidate := none }

/-- A candidate that has held its level for 50 ms is accepted and taken by the input's function; a shorter one never is
(R134, R136). -/
def State.acceptLevel (i : InputNo) (s : State) : State :=
  match (s.input i).candidate with
  | none => s
  | some c =>
    if c.held < Config.debounce then s
    else
      let was := (s.input i).active
      let s := s.updInput i (Input.accept c)
      let s := if (s.input i).function = .report then s.raiseInput i false else s
      s.takeActivity i was

/-- LEVEL_ACCEPTED (R134). -/
def execLevelAccepted (i : InputNo) (s : State) : Out := .next (s.acceptLevel i)

/-! ### INPUT_SET -/

/-- The new configuration of OV1 to OV7; HOLD, LOCK and RELEASE need a zone (R135). -/
def inputConfigOk (f : InputFunction) (zones : ZoneSet) : Bool :=
  match f with
  | .hold | .lock | .release => !(zones == 0)
  | .none | .report | .fire => true

/-- The active level of OV0 is replaced, and the fire rules take a change of activity (R135). -/
def State.setFireInput (level : Level) (s : State) : State :=
  let was := (s.input 0).active
  (s.updInput 0 (fun x => { x with activeLevel := level })).takeActivity 0 was

/-- An accepted INPUT_SET of OV1 to OV7 (R135 steps 1 to 3). -/
def State.setInputConfig (i : InputNo) (level : Level) (f : InputFunction) (zones : ZoneSet) (kind : HoldKind)
    (s : State) : State :=
  let s := s.endOwned i .inputSet
  let s := s.updInput i (fun x => { x with activeLevel := level, function := f, zones := zones, kind := kind })
  if f = .hold ∧ (s.input i).active then s.makeInputHold i else s

/-- INPUT_SET (R135). -/
def takeInputSet (input level function : Byte) (zones : ZoneSet) (kind : Byte) (s : State) : State × Answer :=
  match finOfByte 8 input, levelOfByte level with
  | some i, some l =>
    if i = 0 then (s.setFireInput l, okWith [])
    else
      match inputFunctionOfByte function, holdKindOfByte kind with
      | some f, some k =>
        if inputConfigOk f zones then (s.setInputConfig i l f zones k, okWith []) else (s, refusal .range)
      | _, _ => (s, refusal .range)
  | _, _ => (s, refusal .range)

/-- INPUT_SET (R135). -/
def execInputSet (input level function : Byte) (zones : ZoneSet) (kind : Byte) (s : State) : Out :=
  answered (takeInputSet input level function zones kind) s

/-! ### FIRE_RESTORE -/

/-- A fire door without the keep-open mark gets intent NONE (R142 step 3). -/
def Door.fireOver (x : Door) : Door :=
  if x.configured && x.fire && !x.keepOpen then { x with intent := .none } else x

/-- FIRE_RESTORE in CLEARED (R142 steps 1 to 6). -/
def State.fireRestore (s : State) : State × Answer :=
  let barred := (List.finRange 32).filter s.fireBarred
  let s := ({ s with fire := .normal, doors := mapAll Door.fireOver s.doors }).rederiveAll
  let due := barred.filter s.inLockedPeriod
  ((s.giveSet .restore (due.map (fun z => (z, .lock)))).1,
    okWith (zoneSetBytes (zoneSetOf barred) ++ zoneSetBytes (zoneSetOf due)))

/-- FIRE_RESTORE (R142). -/
def takeFireRestore (s : State) : State × Answer :=
  match s.fire with
  | .active => (s, refusal .fire)
  | .normal => (s, refusal .state)
  | .cleared => s.fireRestore

/-- FIRE_RESTORE (R142). -/
def execFireRestore (s : State) : Out := answered takeFireRestore s

end Sys2Proof.Machine
end

