-- ==== Sys2Proof/Machine/Clock.lean ====
section
/-! DEFINITION. Machine/Clock.lean: the Day Clock and its calendar. Dates and weekdays (R149), CLOCK_SET (R150),
WEEK_SET (R152), DATE_ADD (R153), DATE_REMOVE (R154), and SECOND_EVENT with the minute boundary and the rollover (R45,
R145 to R148). -/

namespace Sys2Proof.Machine

/-! ### Dates -/

/-- A leap year: every year from 2000 to 2099 that is a multiple of 4 (R149). -/
def isLeap (year : Nat) : Bool := year % 4 == 0

/-- The days of a month (R149). -/
def daysInMonth (year month : Nat) : Nat :=
  match month with
  | 4 | 6 | 9 | 11 => 30
  | 2 => if isLeap year then 29 else 28
  | _ => 31

/-- A calendar date from 2000-01-01 to 2099-12-31 (R150, R153). -/
def Date.isCalendar (d : Date) : Bool :=
  decide (d.year ≤ 99) && decide (1 ≤ d.month) && decide (d.month ≤ 12) && decide (1 ≤ d.day) &&
    decide (d.day ≤ daysInMonth d.year d.month)

/-- The days of a year before a month. -/
def daysBefore (year month : Nat) : Nat := ((List.range (month - 1)).map (fun m => daysInMonth year (m + 1))).sum

/-- The days from 2000-01-01 to a date (R149). -/
def Date.dayCount (d : Date) : Nat := 365 * d.year + (d.year + 3) / 4 + daysBefore d.year d.month + (d.day - 1)

/-- The weekday, Monday first: a day count of remainder 0 by 7 is a Saturday (R149). -/
def Date.weekday (d : Date) : Fin 7 := ⟨(d.dayCount + 5) % 7, Nat.mod_lt _ (by decide)⟩

/-- Dates in order. -/
def Date.before (a b : Date) : Bool := decide (a.year * 10000 + a.month * 100 + a.day < b.year * 10000 + b.month * 100 + b.day)

/-- The following calendar date; after 2099-12-31 it is 2000-01-01 (R147, R148). -/
def Date.next (d : Date) : Date :=
  if d.day < daysInMonth d.year d.month then { d with day := d.day + 1 }
  else if d.month < 12 then ⟨d.year, d.month + 1, 1⟩
  else if d.year < 99 then ⟨d.year + 1, 1, 1⟩
  else ⟨0, 1, 1⟩

/-- The last date of the calendar (R148). -/
def Date.isLast (d : Date) : Bool := d == ⟨99, 12, 31⟩

/-- The day type of a date: its exception entry, or the week pattern's for its weekday (R149). -/
def Clock.resolve (c : Clock) (d : Date) : DayType :=
  match c.exceptions.find? (fun e => e.date == d) with
  | some e => e.dayType
  | none => c.week[(d.weekday).val]

/-- A date from its three bytes (R176). -/
def dateOf (year month day : Byte) : Date := ⟨year.toNat, month.toNat, day.toNat⟩

/-! ### Requests -/

/-- The Day Clock after an accepted CLOCK_SET (R150 steps 1 to 3). -/
def Clock.setTo (d : Date) (seconds : Nat) (c : Clock) : Clock :=
  { c with date := d, seconds := seconds, valid := true, dayType := c.resolve d, restarted := true }

/-- CLOCK_SET (R150). -/
def takeClockSet (year month day : Byte) (seconds : Word24) (s : State) : State × Answer :=
  let d := dateOf year month day
  if d.isCalendar && decide (seconds.toNat ≤ Config.lastSecond) then
    ({ s with clock := s.clock.setTo d seconds.toNat }, okWith [dayTypeByte (s.clock.resolve d)])
  else (s, refusal .range)

/-- CLOCK_SET (R150). -/
def execClockSet (year month day : Byte) (seconds : Word24) (s : State) : Out :=
  answered (takeClockSet year month day seconds) s

/-- WEEK_SET replaces the pattern whole (R152). -/
def takeWeekSet (mon tue wed thu fri sat sun : Byte) (s : State) : State × Answer :=
  match dayTypeOfByte mon, dayTypeOfByte tue, dayTypeOfByte wed, dayTypeOfByte thu, dayTypeOfByte fri,
    dayTypeOfByte sat, dayTypeOfByte sun with
  | some a, some b, some c, some d, some e, some f, some g =>
    ({ s with clock := { s.clock with week := #v[a, b, c, d, e, f, g] } }, okWith [])
  | _, _, _, _, _, _, _ => (s, refusal .range)

/-- WEEK_SET (R152). -/
def execWeekSet (mon tue wed thu fri sat sun : Byte) (s : State) : Out :=
  answered (takeWeekSet mon tue wed thu fri sat sun) s

/-- The list holds an entry for a date (R153). -/
def hasEntry (d : Date) (l : List DateEntry) : Bool := l.any (fun e => e.date == d)

/-- An entry put in the list: it replaces the day type of the date's entry, or joins at its place in date order (R153). -/
def putEntry (e : DateEntry) (l : List DateEntry) : List DateEntry :=
  if hasEntry e.date l then l.map (fun x => if x.date = e.date then e else x)
  else l.filter (fun x => x.date.before e.date) ++ e :: l.filter (fun x => !x.date.before e.date)

/-- The state with another exception date list. -/
def State.withExceptions (s : State) (l : List DateEntry) : State := { s with clock := { s.clock with exceptions := l } }

/-- DATE_ADD (R153). -/
def takeDateAdd (year month day dayType : Byte) (s : State) : State × Answer :=
  let d := dateOf year month day
  match dayTypeOfByte dayType with
  | none => (s, refusal .range)
  | some t =>
    if d.isCalendar then
      let l := s.clock.exceptions
      if Config.maxExceptions ≤ l.length ∧ hasEntry d l = false then (s, refusal .full)
      else
        let new := putEntry ⟨d, t⟩ l
        (s.withExceptions new, okWith [byte new.length, flagByte (hasEntry d l)])
    else (s, refusal .range)

/-- DATE_ADD (R153). -/
def execDateAdd (year month day dayType : Byte) (s : State) : Out := answered (takeDateAdd year month day dayType) s

/-- DATE_REMOVE (R154). -/
def takeDateRemove (year month day : Byte) (s : State) : State × Answer :=
  let d := dateOf year month day
  if d.isCalendar && hasEntry d s.clock.exceptions then
    let new := s.clock.exceptions.filter (fun e => !(e.date == d))
    (s.withExceptions new, okWith [byte new.length])
  else (s, refusal .range)

/-- DATE_REMOVE (R154). -/
def execDateRemove (year month day : Byte) (s : State) : Out := answered (takeDateRemove year month day) s

/-! ### The minute boundary -/

/-- The direction a zone's live plan names for a minute (R45). -/
def DayPlan.dueAt (p : DayPlan) (minute : Nat) : Option Direction :=
  if p.lockup = some minute then some .lock else if p.release = some minute then some .release else none

/-- The schedule event of one zone; a lockup of a fire zone passes while the fire state is not NORMAL (R45). -/
def State.scheduleDue (s : State) (z : ZoneNo) : Option (ZoneNo × Direction) :=
  match ((s.zone z).live.get s.clock.dayType).dueAt s.clock.minute with
  | none => none
  | some .lock => if s.fireBarred z then none else some (z, .lock)
  | some .release => some (z, .release)

/-- The schedule markers of a boundary are given as one set, while the clock is valid (R45). -/
def State.giveSchedule (s : State) : State :=
  if s.clock.valid then (s.giveSet .schedule ((List.finRange 32).filterMap s.scheduleDue)).1 else s

/-- The ajar reminder is decreased (R24). -/
def Door.minute (x : Door) : Door := { x with reminder := x.reminder.map Countdown.tick }

/-- The warning remaining is decreased (R64). -/
def Sweep.minute (w : Sweep) : Sweep :=
  match w.phase with
  | .warning c => { w with phase := .warning c.tick }
  | .active => w

/-- A timed hold's remaining is decreased (R127). -/
def Hold.minute (h : Hold) : Hold := { h with remaining := h.remaining.map Countdown.tick }

/-- The three countdowns of a minute boundary (R24, R64, R127). -/
def State.countMinute (s : State) : State :=
  { s with
    doors := mapAll Door.minute s.doors
    slots := s.slots.map (Option.map Sweep.minute)
    holds := s.holds.map Hold.minute }

/-- A minute boundary (R146): the countdowns, then the schedule events (log 5). The last unit of a
count is left to the command of its end (log 4). -/
def State.minuteBoundary (s : State) : State := s.countMinute.giveSchedule

/-! ### The second event -/

/-- The passage timer and exit allowance are decreased (R17, R21). -/
def Door.second (x : Door) : Door :=
  { x with passage := x.passage.map Countdown.tick, allowance := x.allowance.map Countdown.tick }

/-- Steps 1 to 3 of the rollover (R147, R148). -/
def Clock.rollover (c : Clock) : Clock :=
  let d := c.date.next
  let c := { c with seconds := 0, date := d, valid := c.valid && !c.date.isLast,
                    exceptions := c.exceptions.filter (fun e => !e.date.before d) }
  { c with dayType := c.resolve d }

/-- Every leader zone under ROLLOVER performs its group load (R147 step 4). -/
def State.rolloverLoads (s : State) : State := forEach (List.finRange 32) (State.loadUnder .rollover) s

/-- The count advances, with its minute boundary or its rollover (R145, R147). -/
def State.advanceClock (s : State) : State :=
  if s.clock.seconds < Config.lastSecond then
    let s := { s with clock := { s.clock with seconds := s.clock.seconds + 1 } }
    if s.clock.seconds % 60 = 0 then s.minuteBoundary else s
  else (({ s with clock := s.clock.rollover }).rolloverLoads).minuteBoundary

/-- The slots whose warning has its last minute behind it (R64). -/
def State.spentWarnings (s : State) : List SlotNo :=
  (s.sweeps.filter (fun e => e.2.warningEnds)).map Prod.fst

/-- The ends that the last second event left to be taken, for those no command has taken since (log 4). -/
def State.takeEnds (s : State) : State :=
  let s := forEach (s.doorsWhere (fun _ x => isEnding x.allowance)) State.endAllowance s
  let s := forEach (s.doorsWhere (fun _ x => isEnding x.passage)) State.endPassage s
  let s := forEach (s.doorsWhere (fun _ x => isEnding x.reminder)) State.endReminder s
  let s := forEach s.spentWarnings State.endWarning s
  forEach s.spentHolds State.endSpent s

/-- A second event (R145): it is handed to the Door Table, and the count advances. -/
def State.secondEvent (s : State) : State :=
  let s := s.takeEnds
  State.advanceClock { s with doors := mapAll Door.second s.doors }

/-- A second event that arrives together with a CLOCK_SET taken before it does not occur (R151, log 19). -/
def State.completeSecond (s : State) : State := if s.clock.restarted then s.secondRuns else s.secondEvent

/-- SECOND_EVENT (R145, R151). -/
def execSecondEvent (s : State) : Out := .next s.completeSecond

end Sys2Proof.Machine
end

