-- ==== Sys2Proof/Machine/Link.lean ====
section
/-! DEFINITION. Machine/Link.lean: the Supervisor Link and the restarts. STATUS (R179), RESTART (R180), COLD_RESET, the
receiver (R169 to R171), the passing on of a frame (R172) with the dispatch of R177, the transmitter (R174), the link
reset (R175), and the milliseconds that pass while no command waits. -/

namespace Sys2Proof.Machine

/-! ### STATUS -/

/-- Three bytes of STATUS for one trunk: state, free units, queue length (R179). -/
def TrunkState.statusBytes (x : TrunkState) : List Byte := [trunkModeByte x.mode, byte x.freeUnits, byte x.queue.length]

/-- The 25 bytes of a STATUS reply (R179). -/
def State.statusReply (s : State) : List Byte :=
  dateBytes s.clock.date ++ bytes3 s.clock.seconds ++
    [flagByte s.clock.valid, dayTypeByte s.clock.dayType, fireStateByte s.fire] ++
    allTrunks.flatMap (fun t => (s.trunk t).statusBytes) ++
    [byte s.sweeps.length, byte s.waitingZones.length, byte s.holds.length, byte s.noticeSet.notices.length]

/-- STATUS is answered OK; a read changes nothing (R179). -/
def takeStatus (s : State) : State × Answer := (s, okWith s.statusReply)

/-- STATUS (R179). -/
def execStatus (s : State) : Out := answered takeStatus s

/-! ### RESTART and COLD_RESET -/

/-- What is on a line is abandoned (R103, R105). -/
def Line.abandon : Line → Line
  | .free => .free
  | .frame f _ => .frame f true
  | .window c _ => .window c true

/-- A trunk's warm-restart values (R82, R110). -/
def TrunkState.warm (hasDoor : Bool) (x : TrunkState) : TrunkState :=
  { TrunkState.cold with
    budget := x.budget, runLength := x.runLength, restInterval := x.restInterval, freeUnits := x.budget
    mode := if hasDoor then .running else .off
    pollGap := x.pollGap, silenceLimit := x.silenceLimit, line := x.line.abandon }

/-- Step 1 of the warm restart (R3, R35, R53, R82, R110). -/
def State.warmTables (s : State) : State :=
  { s with
    doors := mapAll Door.warm s.doors
    slots := Vector.replicate 8 none
    zones := s.zones.map (fun x => { x with marker := none })
    trunks := #v[(s.trunk .A).warm (s.trunkHasDoor .A), (s.trunk .B).warm (s.trunkHasDoor .B),
      (s.trunk .C).warm (s.trunkHasDoor .C), (s.trunk .D).warm (s.trunkHasDoor .D)] }

/-- The inputs of OV1 to OV7 that are active with function HOLD, in ascending number (R137). -/
def State.holdInputs (s : State) : List InputNo :=
  (List.finRange 8).filter (fun i => !(i == 0) && (s.input i).function == .hold && (s.input i).active)

/-- The Hold List of the warm restart: emptied, then one hold for each active HOLD input (R121, R137). -/
def State.warmHolds (s : State) : State :=
  let s := { s with holds := [], inputs := s.inputs.map (fun x => { x with owned := none }) }
  forEach s.holdInputs State.makeInputHold s

/-- A fire door under a fire state that is not NORMAL has intent RELEASE (R138). -/
def Door.warmFire (fire : FireState) (x : Door) : Door := if x.configured then x.underFire fire else x

/-- The warm restart (R180 steps 1 to 4). -/
def State.warmRestart (s : State) : State :=
  let s := s.warmTables.warmHolds
  let s := State.rederiveAll { s with doors := mapAll (Door.warmFire s.fire) s.doors }
  { s with noticeSet := s.noticeSet.warm s.clock.stamp }

/-- RESTART performs the warm restart and is answered OK (R180). -/
def takeRestart (s : State) : State × Answer := (s.warmRestart, okWith [])

/-- RESTART (R180). -/
def execRestart (s : State) : Out := answered takeRestart s

/-- The link rate the straps select (R165). -/
def rateOf : Level → Level → LinkRate
  | .low, .low => .bps9600
  | .low, .high => .bps19200
  | .high, .low => .bps38400
  | .high, .high => .bps115200

/-- COLD_RESET: the whole part takes its cold-reset values and the straps are read (R2, R165). The commands that wait
are the world's and stay (log 18). -/
def execColdReset (rate1 rate0 : Level) (s : State) : Out :=
  .next { State.cold (rateOf rate1 rate0) with pending := s.pending }

/-! ### The transmitter -/

/-- The transmitter is idle with no BUSY waiting (R171, R174). -/
def Transmitter.isIdle (x : Transmitter) : Bool := x.current.isNone && x.busy.isNone

/-- A reply begins: it becomes the current reply, and its first bit is on the line (R172, R174). -/
def Transmitter.start (bytes : List Byte) (x : Transmitter) : Transmitter := ⟨some bytes, x.busy, 0, none⟩

/-- A LINK_ERROR is sent by an idle transmitter with no BUSY waiting, and is dropped at any other time (R171, R174). -/
def Transmitter.sendError (bytes : List Byte) (x : Transmitter) : Transmitter :=
  if x.isIdle then x.start bytes else x

/-- The last character of the current reply has been sent (R174). -/
def Transmitter.sent (x : Transmitter) : Transmitter := ⟨x.busy, none, 0, none⟩

/-- The current reply ends. What was left of it has passed, so that a restarted second is past (R174, log 19). -/
def State.replySent (s : State) : State :=
  if s.transmitter.current.isSome then { s.secondRuns with transmitter := s.transmitter.sent } else s

/-- REPLY_SENT (R174). -/
def execReplySent (s : State) : Out := .next s.replySent

/-- A link reset: a waiting BUSY and the current reply become absent, and the character that is being sent stays on the
line alone, to be finished (R175 steps 2 and 3, log 21). -/
def Transmitter.reset (x : Transmitter) : Transmitter :=
  match x.current with
  | none => { x with busy := none }
  | some bytes =>
    match bytes[x.place / 100]? with
    | none => Transmitter.cold
    | some b => ⟨none, none, x.place % 100, some b⟩

/-- Tenths of a bit time in a millisecond at each rate (R165). -/
def LinkRate.tenthsPerMs : LinkRate → Nat
  | .bps9600 => 96
  | .bps19200 => 192
  | .bps38400 => 384
  | .bps115200 => 1152

/-- A millisecond of sending: the last character of a reply stays on the line until REPLY_SENT, and a character that a
link reset left there ends with its last bit, whereupon the transmitter stops (R174, R175, log 21). -/
def Transmitter.tick (rate : LinkRate) (x : Transmitter) : Transmitter :=
  let place := x.place + rate.tenthsPerMs
  match x.current, x.tail with
  | some bytes, _ => { x with place := min (100 * bytes.length - 1) place }
  | none, some _ => if place < 100 then { x with place := place } else { x with place := 0, tail := none }
  | none, none => x

/-- The levels of one character on LTXD, bit by bit: a start bit, 8 data bits with the least significant first, and a
stop bit (R165). -/
def characterLevels (b : Byte) : List Level :=
  .low :: (dataLevels b ++ [.high])

/-- The characters on the line: the current reply's, which follow each other with no gap (R174), or the one that a link
reset left to be finished (R175). -/
def Transmitter.onLine (x : Transmitter) : List Byte := x.current.getD x.tail.toList

/-- The level of LTXD: that of the bit whose time it is, and HIGH when nothing is on the line (R165, R174). -/
def Transmitter.ltxd (x : Transmitter) : Level :=
  ((x.onLine.flatMap characterLevels)[x.place / 10]?).getD .high

/-! ### The receiver -/

/-- A faulty frame is discarded: HUNT with quiet wait yes, whose 20 ms begin (R171). -/
def Receiver.discarded : Receiver := ⟨.hunt, true, [], none, some 0⟩

/-- The frame's check agrees with the CRC-16 of its bytes from the length through the payload (R168, R170). -/
def checkAgrees (frame : List Byte) (length : Nat) : Bool :=
  (frame.drop (length + 2) == bytes2 (crc16 ((frame.drop 1).take (length + 1))).toNat)

/-- A faulty frame is discarded with a LINK_ERROR of tag 0 (R171). -/
def State.faultyFrame (r : Result) (s : State) : State :=
  { s with receiver := Receiver.discarded, transmitter := s.transmitter.sendError (linkError 0 r) }

/-- A character in RECEIVING is stored; it is the length byte, a further byte, or the last check byte (R170). -/
def State.storeCharacter (data : Byte) (s : State) : State :=
  let buffer := s.receiver.buffer ++ [data]
  match s.receiver.expected with
  | none =>
    if 2 ≤ data.toNat ∧ data.toNat ≤ 250 then
      { s with receiver := ⟨.receiving, false, buffer, some data.toNat, some 0⟩ }
    else s.faultyFrame .length
  | some n =>
    if buffer.length < n + 4 then { s with receiver := ⟨.receiving, false, buffer, some n, some 0⟩ }
    else if checkAgrees buffer n then { s with receiver := ⟨.taken, false, buffer, some n, none⟩ }
    else s.faultyFrame .check

/-- A character on LRXD by the receiver's state (R170, R171); in TAKEN it is ignored (log 10). -/
def State.linkCharacter (data : Byte) (framingError : Bool) (s : State) : State :=
  match s.receiver.mode with
  | .hunt =>
    if s.receiver.quietWait then { s with receiver := { s.receiver with gap := some 0 } }
    else if data = leadByte ∧ framingError = false then { s with receiver := ⟨.receiving, false, [data], none, some 0⟩ }
    else s
  | .receiving => if framingError then { s with receiver := Receiver.discarded } else s.storeCharacter data
  | .taken => s

/-- LINK_CHARACTER (R170). A setting is taken at the end of its own frame, so that a later character has taken its time
and a restarted second is past (log 19). -/
def execLinkCharacter (data : Byte) (framingError : Bool) (s : State) : Out :=
  .next (s.secondRuns.linkCharacter data framingError)

/-- More than 20 ms have passed inside a frame: the partial frame is discarded (R170). That they have passed is what the
command asserts, whatever gap time has been counted (log 7), and a restarted second is past with them (log 19). -/
def State.gapPassed (s : State) : State :=
  if s.receiver.mode = .receiving then { s.secondRuns with receiver := Receiver.cold } else s

/-- RECEIVE_GAP (R170). -/
def execReceiveGap (s : State) : Out := .next s.gapPassed

/-- Quiet wait becomes no. -/
def Receiver.quietOver (x : Receiver) : Receiver := { x with quietWait := false, gap := none }

/-- The line has carried no start bit for 20 ms: quiet wait becomes no (R171). That they have passed is what the command
asserts, whatever gap time has been counted (log 7), and a restarted second is past with them (log 19). -/
def State.quietOver (s : State) : State :=
  if s.receiver.mode = .hunt ∧ s.receiver.quietWait = true then
    { s.secondRuns with receiver := s.receiver.quietOver }
  else s

/-- QUIET_WAIT_END (R171). -/
def execQuietWaitEnd (s : State) : Out := .next s.quietOver

/-- LINK_RESET: the receiver returns to HUNT, and the transmitter stops after the character it is sending (R175). The
break has lasted two character times since the end of any frame, so that a restarted second is past (log 19). -/
def execLinkReset (s : State) : Out :=
  .next { s.secondRuns with receiver := Receiver.cold, transmitter := s.transmitter.reset }

/-! ### Requests by kind (R177) -/

/-- What a block does with a payload, or nothing if its length differs from the kind's (R172 step 3). -/
abbrev Action := List Byte → State → Option (State × Answer)

def with0 (f : State → State × Answer) : Action
  | [], s => some (f s)
  | _, _ => none

def with1 (f : Byte → State → State × Answer) : Action
  | [a], s => some (f a s)
  | _, _ => none

def with2 (f : Byte → Byte → State → State × Answer) : Action
  | [a, b], s => some (f a b s)
  | _, _ => none

def with3 (f : Byte → Byte → Byte → State → State × Answer) : Action
  | [a, b, c], s => some (f a b c s)
  | _, _ => none

def with4 (f : Byte → Byte → Byte → Byte → State → State × Answer) : Action
  | [a, b, c, d], s => some (f a b c d s)
  | _, _ => none

def with5 (f : Byte → Byte → Byte → Byte → Byte → State → State × Answer) : Action
  | [a, b, c, d, e], s => some (f a b c d e s)
  | _, _ => none

def with6 (f : Byte → Byte → Byte → Byte → Byte → Byte → State → State × Answer) : Action
  | [a, b, c, d, e, g], s => some (f a b c d e g s)
  | _, _ => none

def with7 (f : Byte → Byte → Byte → Byte → Byte → Byte → Byte → State → State × Answer) : Action
  | [a, b, c, d, e, g, h], s => some (f a b c d e g h s)
  | _, _ => none

def with8 (f : Byte → Byte → Byte → Byte → Byte → Byte → Byte → Byte → State → State × Answer) : Action
  | [a, b, c, d, e, g, h, i], s => some (f a b c d e g h i s)
  | _, _ => none

/-- The owning block's action for a request kind; every other kind is unknown (R177). -/
def requestAction (kind : Byte) : Option Action :=
  match kind.toNat with
  | 0x01 => some (with0 takeStatus)
  | 0x02 => some (with0 takeFetch)
  | 0x03 => some (with1 takeDoorRead)
  | 0x04 => some (with1 takeZoneRead)
  | 0x05 => some (with1 takeSweepRead)
  | 0x06 => some (with0 takeHoldRead)
  | 0x07 => some (with1 takePlanRead)
  | 0x10 => some (with6 (fun y m d a b c => takeClockSet y m d (join3 a b c)))
  | 0x11 => some (with7 takeWeekSet)
  | 0x12 => some (with4 takeDateAdd)
  | 0x13 => some (with3 takeDateRemove)
  | 0x20 => some (with5 takeClassSet)
  | 0x21 => some (with7 (fun t b l r1 r0 g q => takeTrunkSet t b l (join2 r1 r0) g q))
  | 0x22 => some (with7 takeDoorSet)
  | 0x23 => some (with1 takeDoorClear)
  | 0x24 => some (with8 takeZoneSet)
  | 0x25 => some (with6 (fun z t l1 l0 r1 r0 => takePlanStage z t (join2 l1 l0) (join2 r1 r0)))
  | 0x26 => some (with1 takePlanLoad)
  | 0x27 => some (with8 (fun i l f z3 z2 z1 z0 k => takeInputSet i l f (join4 z3 z2 z1 z0) k))
  | 0x28 => some (with2 (fun m1 m0 => takeNoticeMask (join2 m1 m0)))
  | 0x30 => some (with5 (fun z3 z2 z1 z0 dir => takeSweep (join4 z3 z2 z1 z0) dir))
  | 0x31 => some (with4 (fun z3 z2 z1 z0 => takeCancel (join4 z3 z2 z1 z0)))
  | 0x32 => some (with2 takeDoorAct)
  | 0x33 => some (with8 (fun k f v3 v2 v1 v0 m1 m0 => takeHoldAdd k f (join4 v3 v2 v1 v0) (join2 m1 m0)))
  | 0x34 => some (with1 takeHoldEnd)
  | 0x35 => some (with0 takeFireRestore)
  | 0x36 => some (with0 takeRestart)
  | _ => none

/-- The kind and the payload of the request frame that asks for a command (R177); the events of the world have none. -/
def requestOf : Instr → Option (Byte × List Byte)
  | .status => some (0x01, [])
  | .fetch => some (0x02, [])
  | .doorRead d => some (0x03, [d])
  | .zoneRead z => some (0x04, [z])
  | .sweepRead k => some (0x05, [k])
  | .holdRead => some (0x06, [])
  | .planRead z => some (0x07, [z])
  | .clockSet y m d sec => some (0x10, [y, m, d] ++ bytes3 sec.toNat)
  | .weekSet a b c d e f g => some (0x11, [a, b, c, d, e, f, g])
  | .dateAdd y m d t => some (0x12, [y, m, d, t])
  | .dateRemove y m d => some (0x13, [y, m, d])
  | .classSet c l r n k => some (0x20, [c, l, r, n, k])
  | .trunkSet t b l r g q => some (0x21, [t, b, l] ++ bytes2 r.toNat ++ [g, q])
  | .doorSet d t a z r c f => some (0x22, [d, t, a, z, r, c, f])
  | .doorClear d => some (0x23, [d])
  | .zoneSet z r l c p a n u => some (0x24, [z, r, l, c, p, a, n, u])
  | .planStage z t l r => some (0x25, [z, t] ++ bytes2 l.toNat ++ bytes2 r.toNat)
  | .planLoad z => some (0x26, [z])
  | .inputSet i l f z k => some (0x27, [i, l, f] ++ zoneSetBytes z ++ [k])
  | .noticeMask m => some (0x28, bytes2 m.toNat)
  | .sweep z dir => some (0x30, zoneSetBytes z ++ [dir])
  | .cancel z => some (0x31, zoneSetBytes z)
  | .doorAct d dir => some (0x32, [d, dir])
  | .holdAdd k f v m => some (0x33, [k, f] ++ zoneSetBytes v ++ bytes2 m.toNat)
  | .holdEnd i => some (0x34, [i])
  | .fireRestore => some (0x35, [])
  | .restart => some (0x36, [])
  | .coldReset _ _ | .linkCharacter _ _ | .requestFrame | .receiveGap | .quietWaitEnd | .replySent | .linkReset
  | .secondEvent | .exitAllowanceEnd _ | .longPassage _ | .ajarReminder _ | .warningEnd _ | .holdCountdownEnd _
  | .restEnd _ | .driveTimeout _ | .sendFrame _ _ | .frameOutcome _ _ | .windowEnd _ _ | .inputLevelChange _ _
  | .levelAccepted _ => none

/-- A request frame: lead, length, kind, tag, payload, check (R166). -/
def requestBytes (kind tag : Byte) (payload : List Byte) : List Byte :=
  let body := byte (2 + payload.length) :: kind :: tag :: payload
  leadByte :: (body ++ bytes2 (crc16 body).toNat)

/-- The reply of a request is handed to the transmitter, which begins to send it (R172 step 4). -/
def State.beginReply (bytes : List Byte) (s : State) : State :=
  { s with transmitter := s.transmitter.start bytes }

/-- A BUSY is made and left waiting, or the frame is discarded if one already waits (R172 step 2). -/
def Transmitter.makeBusy (bytes : List Byte) (x : Transmitter) : Transmitter :=
  if x.busy.isNone then { x with busy := some bytes } else x

/-- The transmitter is idle: the frame is taken (R172 steps 3 and 4). -/
def State.takeRequest (kind tag : Byte) (payload : List Byte) (act : Action) (s : State) : State :=
  match act payload s with
  | none => s.beginReply (replyFrame (replyKind kind) tag (refusal .length))
  | some (s, a) => State.beginReply (replyFrame (replyKind kind) tag a) { s with blockResult := some a }

/-- A frame in TAKEN is passed on (R172 steps 1 to 4). -/
def State.passOn (kind tag : Byte) (payload : List Byte) (s : State) : State :=
  match requestAction kind with
  | none => { s with transmitter := s.transmitter.sendError (linkError tag .kind) }
  | some act =>
    if s.transmitter.current.isSome then
      { s with transmitter := s.transmitter.makeBusy (replyFrame (replyKind kind) tag (refusal .busy)) }
    else s.takeRequest kind tag payload act

/-- The frame in TAKEN is passed on, then the buffer is emptied and the receiver returns to HUNT (R172). A second that an
earlier setting restarted is past, as in a request's own row (log 19). -/
def State.requestFrame (s : State) : State :=
  if s.receiver.mode = .taken then
    match s.receiver.buffer with
    | _ :: length :: kind :: tag :: rest =>
      { s.secondRuns.passOn kind tag (rest.take (length.toNat - 2)) with receiver := Receiver.cold }
    | _ => { s.secondRuns with receiver := Receiver.cold }
  else s

/-- REQUEST_FRAME (R172). -/
def execRequestFrame (s : State) : Out := .next s.requestFrame

/-! ### A millisecond without a command -/

/-- A millisecond of a candidate's time (R134). -/
def Input.tick (x : Input) : Input :=
  { x with candidate := x.candidate.map (fun c => { c with held := min Config.debounce (c.held + 1) }) }

/-- A millisecond of the receiver's gap time (R169); more than 20 ms are counted no further. -/
def Receiver.tick (x : Receiver) : Receiver := { x with gap := x.gap.map (fun n => min (Config.quietTime + 1) (n + 1)) }

/-- One millisecond passes on every trunk and input, on both sides of the link, and for a second that was restarted
(logs 6, 19). -/
def State.tick (s : State) : State :=
  let s := forEach allTrunks (fun t s => s.waitTrunk t 1) s
  { s with
    inputs := s.inputs.map Input.tick
    receiver := s.receiver.tick
    transmitter := s.transmitter.tick s.rate }

end Sys2Proof.Machine
end

