-- ==== Sys2Proof/Machine/Dispatch.lean ====
section
/-! DEFINITION. Machine/Dispatch.lean: exec, one arm per command, each a direct call of the command's meaning. -/

namespace Sys2Proof.Machine

/-- What a command does to everything but the queue of commands. -/
def exec (i : Instr) (s : State) : Host.Outcome State Fault Refusal :=
  match i with
  | .coldReset rate1 rate0 => Sys2Proof.Machine.execColdReset rate1 rate0 s
  | .status => Sys2Proof.Machine.execStatus s
  | .fetch => Sys2Proof.Machine.execFetch s
  | .doorRead door => Sys2Proof.Machine.execDoorRead door s
  | .zoneRead zone => Sys2Proof.Machine.execZoneRead zone s
  | .sweepRead slot => Sys2Proof.Machine.execSweepRead slot s
  | .holdRead => Sys2Proof.Machine.execHoldRead s
  | .planRead zone => Sys2Proof.Machine.execPlanRead zone s
  | .clockSet year month day seconds => Sys2Proof.Machine.execClockSet year month day seconds s
  | .weekSet mon tue wed thu fri sat sun => Sys2Proof.Machine.execWeekSet mon tue wed thu fri sat sun s
  | .dateAdd year month day dayType => Sys2Proof.Machine.execDateAdd year month day dayType s
  | .dateRemove year month day => Sys2Proof.Machine.execDateRemove year month day s
  | .classSet cls lockCost releaseCost limit retries => Sys2Proof.Machine.execClassSet cls lockCost releaseCost limit retries s
  | .trunkSet trunk budget runLength rest gap silence => Sys2Proof.Machine.execTrunkSet trunk budget runLength rest gap silence s
  | .doorSet door trunk address zone rank cls flags => Sys2Proof.Machine.execDoorSet door trunk address zone rank cls flags s
  | .doorClear door => Sys2Proof.Machine.execDoorClear door s
  | .zoneSet zone rank lead chime passage ajar leader rule => Sys2Proof.Machine.execZoneSet zone rank lead chime passage ajar leader rule s
  | .planStage zone dayType lockup release => Sys2Proof.Machine.execPlanStage zone dayType lockup release s
  | .planLoad zone => Sys2Proof.Machine.execPlanLoad zone s
  | .inputSet input level function zones kind => Sys2Proof.Machine.execInputSet input level function zones kind s
  | .noticeMask mask => Sys2Proof.Machine.execNoticeMask mask s
  | .sweep zones direction => Sys2Proof.Machine.execSweep zones direction s
  | .cancel zones => Sys2Proof.Machine.execCancel zones s
  | .doorAct door direction => Sys2Proof.Machine.execDoorAct door direction s
  | .holdAdd kind form scope minutes => Sys2Proof.Machine.execHoldAdd kind form scope minutes s
  | .holdEnd id => Sys2Proof.Machine.execHoldEnd id s
  | .fireRestore => Sys2Proof.Machine.execFireRestore s
  | .restart => Sys2Proof.Machine.execRestart s
  | .linkCharacter data framingError => Sys2Proof.Machine.execLinkCharacter data framingError s
  | .requestFrame => Sys2Proof.Machine.execRequestFrame s
  | .receiveGap => Sys2Proof.Machine.execReceiveGap s
  | .quietWaitEnd => Sys2Proof.Machine.execQuietWaitEnd s
  | .replySent => Sys2Proof.Machine.execReplySent s
  | .linkReset => Sys2Proof.Machine.execLinkReset s
  | .secondEvent => Sys2Proof.Machine.execSecondEvent s
  | .exitAllowanceEnd door => Sys2Proof.Machine.execExitAllowanceEnd door s
  | .longPassage door => Sys2Proof.Machine.execLongPassage door s
  | .ajarReminder door => Sys2Proof.Machine.execAjarReminder door s
  | .warningEnd slot => Sys2Proof.Machine.execWarningEnd slot s
  | .holdCountdownEnd id => Sys2Proof.Machine.execHoldCountdownEnd id s
  | .restEnd trunk => Sys2Proof.Machine.execRestEnd trunk s
  | .driveTimeout door => Sys2Proof.Machine.execDriveTimeout door s
  | .sendFrame trunk waited => Sys2Proof.Machine.execSendFrame trunk waited s
  | .frameOutcome trunk reply => Sys2Proof.Machine.execFrameOutcome trunk reply s
  | .windowEnd trunk bits => Sys2Proof.Machine.execWindowEnd trunk bits s
  | .inputLevelChange input level => Sys2Proof.Machine.execInputLevelChange input level s
  | .levelAccepted input => Sys2Proof.Machine.execLevelAccepted input s

end Sys2Proof.Machine
end

