-- ==== Sys2Proof/Safety.lean ====
section
/-! DEFINITION. Safety.lean: the laws of the part. Each is a property of a state that the rules named keep at every
step; the statements about them are in Certificates/Slice0/Obligations.lean. -/

namespace Sys2Proof.Machine

/-! ### The Notice Set (R155, R157) -/

/-- At most 48 notices, smaller priority numbers ahead of larger ones, never two with the same kind and subject, counts
1 to 255, no kind of priority 1 in the mask, and ALERT active exactly when a notice is held. -/
def NoticeSet.Law (n : NoticeSet) : Prop :=
  n.notices.length ≤ Config.maxNotices ∧
  (n.notices.map (fun x => x.kind.priority)).Pairwise (· ≤ ·) ∧
  (n.notices.map (fun x => (x.kind, x.subject))).Nodup ∧
  (∀ x ∈ n.notices, 1 ≤ x.count ∧ x.count ≤ Config.maxNoticeCount) ∧
  n.mask &&& unmaskable = 0 ∧
  n.alert = !n.notices.isEmpty

/-! ### Supply and queues (R83, R86, R87) -/

/-- The free units and the units held (R83). -/
def TrunkState.supply (x : TrunkState) : Nat := x.freeUnits + unitsHeld x.inFlight

/-- URGENT entries stand ahead of ROUTINE ones (R86), and an empty queue has run count 0 (R87). -/
def TrunkState.QueueLaw (x : TrunkState) : Prop :=
  x.queue = urgentPart x.queue ++ routinePart x.queue ∧ (x.queue = [] → x.runCount = 0)

/-- Free units plus units held equal the budget, and the queue is in order, on every trunk. -/
def State.SupplyLaw (s : State) : Prop :=
  ∀ t, (s.trunk t).supply = (s.trunk t).budget ∧ (s.trunk t).QueueLaw

/-! ### Holds, clock, leaders, addresses -/

/-- At most 16 holds with distinct ids 1 to 255, every timed one with 1 to 1439 minutes left (R121); the hold an input
owns is in the list, with the input as its origin (R133, R136). -/
def State.HoldLaw (s : State) : Prop :=
  s.holds.length ≤ Config.maxHolds ∧ (s.holds.map Hold.id).Nodup ∧
  (∀ h ∈ s.holds, 1 ≤ h.id ∧ h.id ≤ 255 ∧ ∀ c ∈ h.remaining, 1 ≤ c.left ∧ c.left ≤ 1439) ∧
  (∀ i, ∀ n ∈ (s.input i).owned, ∃ h ∈ s.holds, h.id = n ∧ h.origin = .input i)

/-- The seconds of day and the date lie in their ranges, and the exception list holds at most 24 calendar dates in
ascending order (R144, R153). -/
def Clock.Law (c : Clock) : Prop :=
  c.seconds ≤ Config.lastSecond ∧ c.date.isCalendar = true ∧ c.exceptions.length ≤ Config.maxExceptions ∧
  (∀ e ∈ c.exceptions, e.date.isCalendar = true) ∧ c.exceptions.Pairwise (fun a b => a.date.before b.date = true)

/-- The leader of every zone leads itself (R38). -/
def State.LeaderLaw (s : State) : Prop := ∀ z, (s.zone (s.zone z).leader).leader = (s.zone z).leader

/-- Configured doors have an address from 1 to 64, and no two have the same trunk and address (R8). -/
def State.AddressLaw (s : State) : Prop :=
  (∀ d, (s.door d).configured = true → 1 ≤ (s.door d).address ∧ (s.door d).address ≤ 64) ∧
  (∀ d e, (s.door d).configured = true → (s.door e).configured = true → (s.door d).trunk = (s.door e).trunk →
    (s.door d).address = (s.door e).address → d = e)

/-- A trunk is OFF exactly while it has no configured door (R110, R111). -/
def State.OffLaw (s : State) : Prop := ∀ t, (s.trunk t).mode = .off ↔ s.trunkHasDoor t = false

/-! ### Health (R107) -/

/-- Silence limits are at least 1; a configured door's misses do not exceed its trunk's limit, and its health is SILENT
exactly when they equal it. -/
def State.HealthLaw (s : State) : Prop :=
  (∀ t, 1 ≤ (s.trunk t).silenceLimit) ∧
  ∀ d, (s.door d).configured = true →
    (s.door d).misses ≤ (s.trunk (s.door d).trunk).silenceLimit ∧
    ((s.door d).health = .silent ↔ (s.door d).misses = (s.trunk (s.door d).trunk).silenceLimit)

/-! ### Timers and warn lists (R1, R17, R21, R23, R52, R117) -/

/-- A count that is present stands in its range. -/
def Countdown.within (c : Option Countdown) (most : Nat) : Prop := ∀ n ∈ c, 1 ≤ n.left ∧ n.left ≤ most

/-- The intervals of every zone lie in their ranges (R33). -/
def State.IntervalLaw (s : State) : Prop :=
  ∀ z, (s.zone z).lead ≤ 15 ∧ 1 ≤ (s.zone z).passageLimit ∧ (s.zone z).passageLimit ≤ 255 ∧ (s.zone z).ajarInterval ≤ 60

/-- The passage timer runs exactly in PASSAGE, an exit allowance only on a SECURED door with the exit flag, an ajar
reminder only in AJAR; with the intervals of the zones in their ranges every count of a door and of a warning stands in
its own (R1, R17, R21, R23, R52). -/
def State.TimerLaw (s : State) : Prop :=
  s.IntervalLaw ∧
  (∀ d, ((s.door d).passage.isSome = true ↔ (s.door d).state = .passage) ∧
    ((s.door d).allowance.isSome = true → (s.door d).state = .secured ∧ (s.door d).exit = true) ∧
    ((s.door d).reminder.isSome = true → (s.door d).state = .ajar) ∧
    Countdown.within (s.door d).passage 255 ∧ Countdown.within (s.door d).allowance 255 ∧
    Countdown.within (s.door d).reminder 60) ∧
  (∀ k, ∀ w ∈ s.slot k, ∀ c, w.phase = .warning c → 1 ≤ c.left ∧ c.left ≤ 15)

/-- A warn list holds at most one entry for a door, each for a configured door of the trunk (R117). -/
def State.WarnLaw (s : State) : Prop :=
  ∀ t, ((s.trunk t).warnList.map WarnEntry.door).Nodup ∧
    ∀ e ∈ (s.trunk t).warnList, (s.door e.door).configured = true ∧ (s.door e.door).trunk = t

/-! ### The lines (R98, R103, R118) -/

/-- What is on a line stands at a place inside its time. -/
def Line.Law (l : Line) : Prop := l = .free ∨ l.place < l.time

/-! ### The transmitter (R174, R175) -/

/-- A BUSY waits only behind a current reply, and replies are not empty; the place lies inside what is on the line, which
is a reply or the character that a link reset left, and not both (R174, R175, log 21). -/
def Transmitter.Law (x : Transmitter) : Prop :=
  (∀ bytes ∈ x.busy, bytes ≠ [] ∧ x.current.isSome = true) ∧
  (∀ bytes ∈ x.current, x.place < 100 * bytes.length ∧ x.tail = none) ∧
  (x.tail.isSome = true → x.place < 100) ∧
  (x.onLine = [] → x.place = 0)

/-! ### Work (R4, R88) -/

/-- How many entries a door has in a trunk's queue. -/
def State.entriesOf (s : State) (t : Trunk) (d : DoorNo) : Nat := ((s.trunk t).queue.filter (fun e => e.door == d)).length

/-- How many in-flight records a door has on a trunk. -/
def State.recordsOf (s : State) (t : Trunk) (d : DoorNo) : Nat :=
  ((s.trunk t).inFlight.filter (fun r => r.door == d)).length

/-- A door has one entry on its own trunk while it is WAITING and none anywhere else or at any other time, and the
same of an in-flight record while it is ACTING (R4). -/
def State.WorkLaw (s : State) : Prop :=
  ∀ d t,
    s.entriesOf t d = (if (s.door d).trunk = t ∧ (s.door d).state = .waiting then 1 else 0) ∧
    s.recordsOf t d = (if (s.door d).trunk = t ∧ (s.door d).state = .acting then 1 else 0)

/-- While the fire state is not NORMAL, no queue holds a LOCK entry for a configured door with the fire flag (R88). -/
def State.FireLaw (s : State) : Prop :=
  s.fire ≠ .normal → ∀ t, ∀ e ∈ (s.trunk t).queue, e.direction = .lock →
    ((s.door e.door).configured && (s.door e.door).fire) = false

/-! ### Zones and sweeps -/

/-- The zone state of every zone is the derived one (R48, R49). -/
def State.ZoneLaw (s : State) : Prop := ∀ z, (s.zone z).state = s.deriveZone z

/-- No two slots hold sweeps of one zone, and a zone with a sweep holds no due marker (R52, R56). -/
def State.SweepLaw (s : State) : Prop :=
  (∀ j k, ∀ v ∈ s.slot j, ∀ w ∈ s.slot k, v.zone = w.zone → j = k) ∧
  (∀ k, ∀ w ∈ s.slot k, (s.zone w.zone).marker = none)

/-- How many doors are linked to a slot with a count. -/
def State.linkedWith (s : State) (k : SlotNo) (c : Count) : Nat :=
  (s.doors.toList.filter (fun x => x.sweep == some ⟨k, c⟩)).length

/-- A door is linked only to a slot whose sweep is ACTIVE and of the door's zone, is configured, and is not one that a
finished sweep left (R75); the six counts of such a sweep count its linked doors and add up to its total (R54). A sweep
in WARNING has counts of 0. -/
def State.CountLaw (s : State) : Prop :=
  (∀ d, ∀ l ∈ (s.door d).sweep, (s.door d).configured = true ∧ (s.door d).unreached = false ∧
    ∃ w ∈ s.slot l.slot, w.phase = .active ∧ w.zone = (s.door d).zone) ∧
  (∀ k, ∀ w ∈ s.slot k,
    (∀ c, w.counts.get c = s.linkedWith k c) ∧ w.total = w.counts.sum)

/-- No ACTIVE sweep is without a pending door, and no zone waits while a slot is free (R56, R59, R73). -/
def State.BusyLaw (s : State) : Prop :=
  (∀ k, ∀ w ∈ s.slot k, w.phase = .active → 0 < w.counts.pending) ∧
  ((∃ k, s.slot k = none) → ∀ z, (s.zone z).marker = none)

/-- The laws of a state taken together. -/
def State.Laws (s : State) : Prop :=
  s.noticeSet.Law ∧ s.SupplyLaw ∧ s.HoldLaw ∧ s.clock.Law ∧ s.LeaderLaw ∧ s.AddressLaw ∧ s.OffLaw ∧ s.HealthLaw ∧
  s.TimerLaw ∧ s.WarnLaw ∧ s.transmitter.Law ∧ (∀ t, (s.trunk t).line.Law) ∧ s.WorkLaw ∧ s.FireLaw ∧
  s.ZoneLaw ∧ s.SweepLaw ∧ s.CountLaw ∧ s.BusyLaw

/-! ### Words for statements -/

/-- Some time later: a second that a setting had restarted is past, and nothing else differs (R151, log 19). -/
def State.later (s : State) : State := { s with clock := { s.clock with restarted := false } }

/-- A refused request changes nothing but the block result, which carries no payload (R167, R173); as with every request
a restarted second is past (log 19). -/
def State.refusedAs (s : State) (r : Result) : State := { s.later with blockResult := some ⟨r, []⟩ }

/-- A request answered OK with a payload, changing nothing else (the reading requests); a restarted second is past (log
19). -/
def State.answeredOk (s : State) (p : List Byte) : State := { s.later with blockResult := some ⟨.ok, p⟩ }

/-- The outcome of a frame is due: its characters have been sent, so that the time since the patrol poll stands at 0 at
least, and so does the time since the last frame of its door if that still has the frame's trunk and address; the line
is free, and a restarted second is past (R103, R105, R115, R116, logs 7 and 19). -/
def State.frameOver (s : State) (u : Trunk) (f : LineFrame) : State :=
  let x := s.door f.door
  { s.later with
    doors := s.doors.set f.door.val { x with
      sinceFrame := if x.configured = true ∧ x.trunk = u ∧ x.address = f.address then max 0 x.sinceFrame
        else x.sinceFrame }
    trunks := s.trunks.set (trunkIdx u).val { s.trunk u with
      line := .free, sincePatrol := (s.trunk u).sincePatrol.map (fun n => max 0 n) } }

/-- Every end has been taken by its own command: no count has its last second or minute behind it (log 4). -/
def State.NoEnds (s : State) : Prop :=
  (∀ d, isEnding (s.door d).allowance = false ∧ isEnding (s.door d).passage = false ∧
    isEnding (s.door d).reminder = false) ∧
  (∀ k, ∀ w ∈ s.slot k, w.warningEnds = false) ∧
  (∀ h ∈ s.holds, isEnding h.remaining = false)

/-- One second or minute of a count: what is left is one less, and its last unit is left to the command of its end
(log 4). -/
def Countdown.less (c : Countdown) : Countdown :=
  if 2 ≤ c.left then ⟨c.left - 1, c.ending⟩ else ⟨c.left, true⟩

/-- The three counts of a minute boundary (R24, R64, R127). -/
def State.minuteLess (s : State) : State := { s with
  doors := s.doors.map (fun x => { x with reminder := x.reminder.map Countdown.less })
  slots := s.slots.map (Option.map (fun w => { w with phase := match w.phase with
    | .warning c => .warning c.less
    | .active => .active }))
  holds := s.holds.map (fun h => { h with remaining := h.remaining.map Countdown.less }) }

/-- The two counts of a second (R17, R21). -/
def State.secondLess (s : State) : State := { s with
  doors := s.doors.map (fun x => { x with
    passage := x.passage.map Countdown.less, allowance := x.allowance.map Countdown.less }) }

/-- A second that is no rollover: the time, the counts of a second, and at a minute those of a minute (R145, R146). -/
def State.countedDown (s : State) : State :=
  let now := s.clock.seconds + 1
  let u : State := { s.secondLess with clock := { s.clock with seconds := now } }
  if now % 60 = 0 then u.minuteLess else u

/-- The direction a zone's live plan names for a minute of a day (R45). -/
def State.planNames (s : State) (z : ZoneNo) (day : DayType) (minute : Nat) (dir : Direction) : Prop :=
  (match dir with
    | .lock => ((s.zone z).live.get day).lockup
    | .release => ((s.zone z).live.get day).release) = some minute

/-- No other zone's live plan names the minute. -/
def State.namedAlone (s : State) (z : ZoneNo) (day : DayType) (minute : Nat) : Prop :=
  ∀ y, y ≠ z → ¬ s.planNames y day minute .lock ∧ ¬ s.planNames y day minute .release

/-- The ends that a second event finds untaken, as the commands that take them: the doors' ascending, the warnings' by
slot, the holds' in the order of the list (log 4). -/
def State.untakenEnds (s : State) : List Instr :=
  let doors := fun p : Door → Bool => (List.finRange 256).filter (fun d => (s.door d).configured && p (s.door d))
  (doors (fun x => isEnding x.allowance)).map .exitAllowanceEnd ++
    ((doors (fun x => isEnding x.passage)).map .longPassage ++
      ((doors (fun x => isEnding x.reminder)).map .ajarReminder ++
        (((List.finRange 8).filter (fun k => (s.slot k).any Sweep.warningEnds)).map .warningEnd ++
          (s.holds.filter (fun h => isEnding h.remaining)).map (fun h => .holdCountdownEnd (byte h.id)))))

/-- The state after a list of commands. -/
def State.after (s : State) (l : List Instr) : State :=
  l.foldl (fun s c => match exec c s with | .next t => t | .fault _ | .refused _ => s) s

/-- What a cell of the table of R30 says of a door. -/
inductive ActEffect where
  | stands
  | becomesReleased
  | placed
  deriving DecidableEq, Repr

/-- The table of DOOR_ACT (R30). -/
def actTable (dir : Direction) (x : Door) : ActEffect :=
  match dir, x.state with
  | .lock, .secured | .lock, .passage | .lock, .ajar => .stands
  | .lock, .forced => if x.position = .opened then .stands else .placed
  | .release, .released => .stands
  | .release, .ajar => if x.bolt = .withdrawn then .becomesReleased else .placed
  | _, .unknown => if x.health = .heard then .placed else .stands
  | _, _ => .placed

/-- Table 1-1: the state after a report for a door without link, entry and record, from the record before it and the
observation with the fault flag applied, when nothing is placed; `blocked` is held or fire-locked-out (R14, R16, R18 to
R20, R22, R25). -/
def reportTable (x : Door) (pos : Position) (bolt : Bolt) (rex blocked : Bool) : DoorState :=
  match x.state with
  | .unknown =>
    if bolt = .thrown ∧ pos = .closed then .secured
    else if bolt = .thrown ∧ pos = .opened then .ajar
    else if bolt = .withdrawn then .released
    else .unknown
  | .released => if bolt = .thrown ∧ pos = .closed then .secured else .released
  | .secured =>
    if pos = .opened then (if x.exit ∧ (rex ∨ x.allowance.isSome) then .passage else .forced)
    else if bolt = .withdrawn then .released
    else .secured
  | .passage =>
    if bolt = .thrown ∧ pos = .closed then .secured
    else if bolt = .withdrawn ∧ pos = .closed ∧ blocked then .released
    else .passage
  | .ajar | .forced =>
    if pos = .closed then
      (if bolt = .thrown then .secured else if bolt = .withdrawn then .released else .unknown)
    else x.state
  | .jammed => .jammed
  | .waiting => .waiting
  | .acting => .acting

/-- The placement a report leads to, for a door without link, entry and record: the restoration of R15 after a
classification, the closings of R20 and R22, and the restoration of a door that a finished sweep left unreached (R75,
log 23). -/
def reportPlaces (x : Door) (pos : Position) (bolt : Bolt) (blocked : Bool) : Option Direction :=
  match x.state, x.intent with
  | .unknown, .lock => if bolt = .withdrawn ∧ ¬ blocked then some .lock else none
  | .unknown, .release => if bolt = .thrown ∧ pos = .closed then some .release else none
  | .passage, i =>
    if bolt = .withdrawn ∧ pos = .closed ∧ ¬ blocked then some .lock
    else if x.unreached ∧ i = .release ∧ bolt = .thrown ∧ pos = .closed then some .release
    else none
  | .released, .lock => if x.unreached ∧ ¬ (bolt = .thrown ∧ pos = .closed) ∧ ¬ blocked then some .lock else none
  | .released, .release => if x.unreached ∧ bolt = .thrown ∧ pos = .closed then some .release else none
  | .secured, .lock => if x.unreached ∧ pos ≠ .opened ∧ bolt = .withdrawn ∧ ¬ blocked then some .lock else none
  | .secured, .release => if x.unreached ∧ pos ≠ .opened ∧ bolt ≠ .withdrawn then some .release else none
  | .ajar, .lock | .forced, .lock => if pos = .closed ∧ ¬ blocked then some .lock else none
  | .ajar, .release | .forced, .release => if pos = .closed ∧ bolt ≠ .withdrawn then some .release else none
  | _, _ => none

/-- The notice a report raises, by the state before it and the state after it (Table 1-1). -/
def reportNotice (old new : DoorState) : Option NoticeKind :=
  match old, new with
  | .released, .secured => some .keyed
  | .secured, .released => some .keyed
  | .secured, .forced => some .forced
  | .unknown, .ajar => some .ajar
  | _, _ => none

/-- A frame of a kind is put on a trunk's line for a door, `f` being what its order changes beside the line: the frames
since window are increased to at most 8, and the door's settle interval starts at the end of the frame's last character,
which is 11 bits away for each of its characters (R98, R114 to R116). -/
def State.sentFrame (s : State) (u : Trunk) (kind : FrameKind) (d : DoorNo) (f : TrunkState → TrunkState) : State :=
  (s.updTrunk u (fun x => { f x with
    sinceWindow := min 8 (x.sinceWindow + 1)
    line := .frame ⟨kind, d, (s.door d).address, downFrame (s.door d).address kind.body, 0⟩ false })).updDoor d
      (fun x => { x with sinceFrame := -(110 * (kind.body.length + 2) : Nat) })

/-- The parts of the state that no command of the Door Table, the sweeps, the supply or the trunks writes: Class Table,
Hold List, inputs, fire state, Day Clock, link, rate and the queue of commands. -/
def State.SameAround (s t : State) : Prop :=
  t.classes = s.classes ∧ t.holds = s.holds ∧ t.lastHoldId = s.lastHoldId ∧ t.inputs = s.inputs ∧ t.fire = s.fire ∧
  t.clock = s.clock ∧ t.receiver = s.receiver ∧ t.transmitter = s.transmitter ∧ t.rate = s.rate ∧
  t.pending = s.pending

/-- The set shows what a raise of a kind and subject said: the kind is masked, or a notice of it is held with that detail
and that last stamp, or the raise found the set full and the loss is flagged (R158, R159, R160). -/
def NoticeSet.Tells (n : NoticeSet) (stamp : Option Nat) (k : NoticeKind) (u : Subject) (v : Detail) : Prop :=
  n.mask.getLsbD (k.number - 1) = true ∨
  (∃ x ∈ n.notices, x.kind = k ∧ x.subject = u ∧ x.detail = v ∧ x.last = stamp) ∨
  (48 ≤ n.notices.length ∧ n.lost = true)

/-- The count a door is given by the walk of a sweep or by a reclassification, by the tables of R66 and R67. -/
def State.tableCount (s : State) (dir : Direction) (d : DoorNo) : Count :=
  let x := s.door d
  let busy := x.state = .waiting ∨ x.state = .acting
  let away := x.health ≠ .heard ∨ (s.trunk x.trunk).mode = .down
  match dir with
  | .lock =>
    if s.held d then .held
    else if busy then .pending
    else if away then .unreachable
    else if x.state = .secured ∨ x.state = .passage then .done
    else if x.state = .ajar ∨ x.state = .forced then .ajar
    else .pending
  | .release =>
    if busy then .pending
    else if away then .unreachable
    else if x.state = .released ∨ (x.state = .ajar ∧ x.bolt = .withdrawn) then .done
    else .pending

/-- A configured door of a zone. -/
abbrev State.IsDoorOf (s : State) (z : ZoneNo) (d : DoorNo) : Prop :=
  (s.door d).configured = true ∧ (s.door d).zone = z

/-- The class with which a sweep places a door (R66, R67): URGENT toward RELEASE for a fire-locked-out door. -/
def State.sweepClass (s : State) (dir : Direction) (d : DoorNo) : QueueClass :=
  if dir = .release ∧ (s.door d).fire = true ∧ s.fire ≠ .normal then .urgent else .routine

/-- A door waits with an entry of a direction and class, or is driven by its grant (R5, R89). -/
def State.hasWork (s : State) (d : DoorNo) (dir : Direction) (cls : QueueClass) : Prop :=
  ((s.door d).state = .waiting ∧ ∃ e ∈ s.entry d, e.direction = dir ∧ e.cls = cls) ∨
  ((s.door d).state = .acting ∧ ∃ r ∈ s.record d, r.direction = dir ∧ r.cls = cls)

/-- What the walk of a sweep does with one door of its zone beside linking it (R65 step 4, the placement columns of R66
and R67), `s` being the state before the walk. A door that the tables count pending is placed: without work it has an
entry or its grant, a WAITING one has its entry turned, and raised by an URGENT placement (R31), and a drive runs on,
raised to URGENT when the placement is URGENT and of its direction (R32). Any other keeps its work and its attempts; it
stands, but for an AJAR one that a RELEASE counts done, which is RELEASED. -/
def State.WalkedDoor (s t : State) (dir : Direction) (d : DoorNo) : Prop :=
  let x := s.door d
  let y := t.door d
  let cls := s.sweepClass dir d
  y.position = x.position ∧ y.bolt = x.bolt ∧ y.health = x.health ∧
  if s.tableCount dir d = .pending then
    match x.state with
    | .acting => y.state = .acting ∧ y.attempts = x.attempts ∧ t.record d = (s.record d).map (fun r =>
        if cls = .urgent ∧ r.direction = dir then { r with cls := .urgent } else r)
    | .waiting => y.attempts = 0 ∧
        ∀ e, s.entry d = some e → t.hasWork d dir (if cls = .urgent then .urgent else e.cls)
    | _ => y.attempts = 0 ∧ t.hasWork d dir cls
  else
    y.attempts = x.attempts ∧
    match x.state with
    | .acting => y.state = .acting ∧ t.record d = s.record d
    | .waiting => ∀ e, s.entry d = some e → t.hasWork d e.direction e.cls
    | st =>
      let stands : Door :=
        { x with intent := y.intent, keepOpen := y.keepOpen, sweep := y.sweep, unreached := y.unreached }
      y = if dir = .release ∧ st = .ajar ∧ s.tableCount dir d = .done then
        { stands with state := .released, passage := none, allowance := none, reminder := none } else stands

/-- A trunk after the walk of a sweep and before its arbiter, `order` being the zone's doors in the order of the walk.
The entry of a door that is counted pending turns to the sweep's direction in its place, unless an URGENT placement
raises it from ROUTINE; the raised ones and the pending doors without work join the tails of their classes in the order
of the walk; and a drive of the direction is raised by an URGENT placement (R31, R32, R65 to R67, R86). -/
def State.walkTrunk (s : State) (z : ZoneNo) (dir : Direction) (order : List DoorNo) (u : Trunk) : TrunkState :=
  let placed := fun d => decide (s.IsDoorOf z d ∧ s.tableCount dir d = .pending)
  let raises := fun d => placed d && decide (s.sweepClass dir d = .urgent)
  let raised := fun e : Entry => raises e.door && decide (e.cls = .routine)
  let busy := fun d => decide ((s.door d).state = .waiting ∨ (s.door d).state = .acting)
  let turned := fun c : QueueClass =>
    ((s.trunk u).queue.filter (fun e => decide (e.cls = c) && !raised e)).map
      (fun e => if placed e.door then { e with direction := dir } else e)
  let joins := fun c : QueueClass =>
    (order.filter (fun d => decide ((s.door d).trunk = u) && placed d && decide (s.sweepClass dir d = c) &&
      (!busy d || (s.entry d).any raised))).map (fun d => (⟨d, dir, c⟩ : Entry))
  { s.trunk u with
    queue := turned .urgent ++ joins .urgent ++ (turned .routine ++ joins .routine)
    inFlight := (s.trunk u).inFlight.map (fun r =>
      if raises r.door = true ∧ r.direction = dir then { r with cls := .urgent } else r) }

/-- The plans after the ends of sweeps, `ended` being the zones whose sweeps finished or were cancelled: such a zone that
leads itself under AFTER_SWEEP gives every member of its group with load pending its staged plan, and no other plan
changes (R42, R43, R74 step 6, R79 step 4). -/
def State.LoadedAfter (s t : State) (ended : ZoneNo → Prop) : Prop :=
  ∀ y,
    let l := (s.zone y).leader
    let loads := ended l ∧ (s.zone l).leader = l ∧ (s.zone l).rule = .afterSweep ∧ (s.zone y).loadPending = true
    (t.zone y).staged = (s.zone y).staged ∧
    (loads → (t.zone y).live = (s.zone y).staged ∧ (t.zone y).loadPending = false) ∧
    (¬ loads → (t.zone y).live = (s.zone y).live ∧ (t.zone y).loadPending = (s.zone y).loadPending)

/-- How many configured doors of a zone the table counts so. -/
def State.tableTotal (s : State) (z : ZoneNo) (dir : Direction) (c : Count) : Nat :=
  ((List.finRange 256).filter (fun d => decide (s.IsDoorOf z d ∧ s.tableCount dir d = c))).length

/-- The six counts of a walk. -/
def State.walkCounts (s : State) (z : ZoneNo) (dir : Direction) : Counts :=
  let n := s.tableTotal z dir
  { done := n .done, pending := n .pending, ajar := n .ajar, jammed := n .jammed, held := n .held
    unreachable := n .unreachable }

/-- A slot holds a sweep of a zone. -/
abbrev State.HasSweep (s : State) (z : ZoneNo) : Prop := ∃ k, (s.slot k).map Sweep.zone = some z

/-- A zone comes before another in a set of givings, by (zone rank, zone number) (R57). -/
abbrev State.zoneBefore (s : State) (z y : ZoneNo) : Prop :=
  (s.zone z).rank < (s.zone y).rank ∨ ((s.zone z).rank = (s.zone y).rank ∧ z < y)

/-- A zone is fire-barred: the fire state is not NORMAL and a configured door of the zone has the fire flag (R55). -/
abbrev State.Barred (s : State) (z : ZoneNo) : Prop :=
  s.fire ≠ .normal ∧ ∃ d, (s.door d).configured = true ∧ (s.door d).zone = z ∧ (s.door d).fire = true

/-- A sweep of a zone has entered ACTIVE in a slot, `s` being the state before its walk. Every configured door of the
zone that is not held (in a RELEASE: every one) has its intent, and is placed or stands by the tables (`WalkedDoor`). If
the tables count a door pending, the slot holds the sweep with their counts, every door of the zone is linked with its
own, each trunk's queue has taken the placements in the order of (door rank, door number) and its arbiter has then been
considered, no other door changes but by its grant, and no plan is loaded. If they count none so, the sweep has finished:
no door of the zone is linked, those counted unreachable are left unreached (log 23), the last direction is written and
SWEEP_DONE tells the counts (R54, R65 to R67, R73 to R75, R89). -/
def State.WalkedTo (s t : State) (z : ZoneNo) (dir : Direction) (o : Origin) (k : SlotNo) : Prop :=
  let total := ((List.finRange 256).filter (fun d => decide (s.IsDoorOf z d))).length
  (∀ d, s.IsDoorOf z d → match dir with
    | .lock => (t.door d).intent = (if s.held d then (s.door d).intent else .lock) ∧
        (t.door d).keepOpen = (s.held d && (s.door d).keepOpen)
    | .release => (t.door d).intent = .release ∧ (t.door d).keepOpen = (s.door d).keepOpen) ∧
  (s.WorkLaw → ∀ d, s.IsDoorOf z d → s.WalkedDoor t dir d) ∧
  if (s.walkCounts z dir).pending = 0 then
    (∀ d, s.IsDoorOf z d → (t.door d).sweep = none ∧
      (t.door d).unreached = decide (s.tableCount dir d = .unreachable)) ∧ (t.zone z).last = some dir ∧ ¬ t.HasSweep z ∧
    t.noticeSet.Tells s.clock.stamp .sweepDone (.zone z) (.sweepDone dir o false total (s.walkCounts z dir))
  else
    t.slot k = some ⟨z, dir, o, .active, total, s.walkCounts z dir⟩ ∧
    (∀ d, s.IsDoorOf z d → (t.door d).sweep = some ⟨k, s.tableCount dir d⟩ ∧ (t.door d).unreached = false) ∧
    s.LoadedAfter t (fun _ => False) ∧
    (s.WorkLaw → ∀ d, ¬ s.IsDoorOf z d → t.door d = s.door d ∨ ((s.door d).state = .waiting ∧
      t.door d = { s.door d with state := .acting, passage := none, allowance := none, reminder := none })) ∧
    (s.WorkLaw → s.SupplyLaw → ∃ order : List DoorNo, (∀ d, d ∈ order ↔ s.IsDoorOf z d) ∧
      order.Pairwise (fun d e => (s.door d).rank < (s.door e).rank ∨ ((s.door d).rank = (s.door e).rank ∧ d < e)) ∧
      ∀ u, t.trunk u = (State.consider u (s.setTrunk u (s.walkTrunk z dir order u))).trunk u)

/-- The end of the alarm before any giving: the fire state is NORMAL, each configured fire door without the keep-open mark
has intent NONE, every zone is re-derived, and the reply carries the zones that were fire-barred and, of them, those in
their locked period (R142 steps 1 to 4 and 6); a restarted second is past (log 19). -/
def State.alarmOver (s : State) (barred due : List ZoneNo) : State :=
  let u : State := { s.later with
    fire := .normal
    doors := s.doors.map (fun x => if x.configured = true ∧ x.fire = true ∧ x.keepOpen = false then
      { x with intent := .none } else x)
    blockResult := some ⟨.ok, zoneSetBytes (zoneSetOf barred) ++ zoneSetBytes (zoneSetOf due)⟩ }
  { u with zones := Vector.ofFn (fun z : ZoneNo => { s.zone z with state := u.deriveZone z }) }

/-- The count a change of a linked door's state brings it to, by the tables of R68 and R69; a change they do not name
leaves the count. -/
def countTable (dir : Direction) (c : Count) (st : DoorState) : Count :=
  match dir, c, st with
  | .lock, .pending, .secured | .lock, .pending, .passage => .done
  | .lock, .pending, .ajar | .lock, .pending, .forced => .ajar
  | .lock, .pending, .jammed => .jammed
  | .lock, .ajar, .waiting => .pending
  | .release, .pending, .released => .done
  | .release, .pending, .jammed => .jammed
  | _, _, _ => c

/-- The count of a linked door moved, in its link and in its sweep, as its change to a state moves it (R68, R69); with no
sweep nothing moves. -/
def State.countedAs (s : State) (d : DoorNo) (st : DoorState) : State :=
  match (s.door d).sweep with
  | none => s
  | some l =>
    match s.slot l.slot with
    | none => s
    | some w =>
      let new := countTable w.direction l.count st
      (s.setDoor d { s.door d with sweep := some ⟨l.slot, new⟩ }).setSlot l.slot
        (some { w with counts := w.counts.move l.count new })

/-- The sweep of a linked door counts another door pending, so that it goes on whatever becomes of this one (R73). -/
def State.SweepGoesOn (s : State) (d : DoorNo) : Prop :=
  ∀ l, (s.door d).sweep = some l →
    ∃ w, s.slot l.slot = some w ∧ (if l.count = .pending then 1 else 0) < w.counts.pending

/-- The Sweep Table, and a door's link with its count, have followed the door's change to a state, and nothing else has
touched them (R68, R69). -/
def State.SweepFollows (s t : State) (d : DoorNo) (st : DoorState) : Prop :=
  t.slots = (s.countedAs d st).slots ∧ (t.door d).sweep = ((s.countedAs d st).door d).sweep

/-- The end of a drive that a report shows by the position and bolt recorded from it: in DRIVING by the table of R92, and
in GRANTED, when the report answers another frame than the DRIVE, the door-open of a LOCK alone (R91). -/
def Record.shownEnd (r : Record) (pos : Position) (bolt : Bolt) : Option DriveEnd :=
  match r.direction, r.phase with
  | .lock, .driving _ =>
    if bolt = .thrown ∧ pos = .closed then some .success else if pos = .opened then some .doorOpen else none
  | .release, .driving _ => if bolt = .withdrawn then some .success else none
  | .lock, .granted => if pos = .opened then some .doorOpen else none
  | .release, .granted => none

/-- A drive is over: its record is gone and its units are back, the door has taken a state without timers, and then what
`f` gives it, the count of a linked door has followed, and the door's zone is derived again (R7, R27, R49, R68, R69,
R93). -/
def State.driveOver (s : State) (d : DoorNo) (st : DoorState) (f : Door → Door) : State :=
  let x := s.door d
  let u := s.trunk x.trunk
  let c := s.countedAs d st
  let v : State := { c.setDoor d
      (f { c.door d with state := st, passage := none, allowance := none, reminder := none }) with
    trunks := s.trunks.set (trunkIdx x.trunk).val { u with
      inFlight := u.inFlight.filter (fun q => decide (q.door ≠ d))
      freeUnits := u.freeUnits + unitsHeld (u.inFlight.filter (fun q => decide (q.door = d))) } }
  v.setZone x.zone { s.zone x.zone with state := v.deriveZone x.zone }

/-- A drive has ended with the intent of its direction, by what a report has shown: on success the door has reached the
goal with attempts 0, and otherwise, opened under a LOCK, it is AJAR with its notice and its reminder; the arbiter is
considered last (R23, R27, R89, R93). -/
def State.driveShown (s : State) (r : Record) (e : DriveEnd) : State :=
  let x := s.door r.door
  let interval := (s.zone x.zone).ajarInterval
  State.consider x.trunk (
    if e = .success then
      s.driveOver r.door (match r.direction with | .lock => .secured | .release => .released)
        (fun y => { y with attempts := 0 })
    else
      { s.driveOver r.door .ajar (fun y => { y with
          reminder := if interval = 0 then none else some ⟨interval, false⟩ }) with
        noticeSet := s.noticeSet.raise s.clock.stamp .ajar (.door r.door) (.door .ajar x.position x.bolt) })

/-- A drive has ended as a failed attempt, with the position and bolt recorded then: the attempts are counted, the record
is gone, and the door is JAMMED with its notice beyond the retries of its class; otherwise its entry has rejoined at the
tail of its class (and may have been granted again), unless it is a LOCK of a held or fire-locked-out door, which is
re-stated (R88, R94). The sweep that a door is linked to follows it, and goes on with its other pending door. -/
def State.AttemptFailed (s t : State) (r : Record) (pos : Position) (bolt : Bolt) : Prop :=
  let d := r.door
  let x := s.door d
  (t.door d).attempts = x.attempts + 1 ∧
  if (s.lockClass x.cls).retries < x.attempts + 1 then
    (t.door d).state = .jammed ∧ t.entriesOf x.trunk d = 0 ∧ t.recordsOf x.trunk d = 0 ∧ s.SweepFollows t d .jammed ∧
    t.noticeSet = s.noticeSet.raise s.clock.stamp .jammed (.door d)
      (.jammed .jammed pos bolt r.direction (x.attempts + 1))
  else t.noticeSet = s.noticeSet ∧
    if r.direction = .lock ∧ (s.held d = true ∨ (x.fire = true ∧ s.fire ≠ .normal)) then
      (t.door d).state = restatedState bolt pos ∧ t.entriesOf x.trunk d = 0 ∧ t.recordsOf x.trunk d = 0 ∧
      s.SweepFollows t d (restatedState bolt pos)
    else t.hasWork d r.direction r.cls ∧ s.SweepFollows t d .waiting ∧
      ((t.door d).state = .waiting →
        ((t.trunk x.trunk).queue.filter (fun e => decide (e.cls = r.cls))).getLast? = some ⟨d, r.direction, r.cls⟩)

/-- A drive on a DOWN trunk has ended as a return: no attempt is counted, the record is gone, and the door waits with its
entry at the head of its class, unless it is a LOCK of a held or fire-locked-out door, which is re-stated (R88, R95). The
sweep that the door is linked to follows it, and goes on with its other pending door. -/
def State.Returned (s t : State) (r : Record) : Prop :=
  let d := r.door
  let x := s.door d
  let q := (s.trunk x.trunk).queue
  let part := fun c : QueueClass => q.filter (fun e => decide (e.cls = c))
  (t.door d).attempts = x.attempts ∧ t.recordsOf x.trunk d = 0 ∧ t.noticeSet = s.noticeSet ∧
  if r.direction = .lock ∧ (s.held d = true ∨ (x.fire = true ∧ s.fire ≠ .normal)) then
    (t.door d).state = restatedState x.bolt x.position ∧ (t.trunk x.trunk).queue = q ∧
    s.SweepFollows t d (restatedState x.bolt x.position)
  else (t.door d).state = .waiting ∧ s.SweepFollows t d .waiting ∧ (t.trunk x.trunk).queue = match r.cls with
    | .urgent => ⟨d, r.direction, .urgent⟩ :: (part .urgent ++ part .routine)
    | .routine => part .urgent ++ ⟨d, r.direction, .routine⟩ :: part .routine

/-- The set of one zone. -/
def oneZone (z : ZoneNo) : ZoneSet := 1#32 <<< z.val

/-- The payload length of each request kind (R177). -/
def payloadLength (kind : Byte) : Option Nat :=
  match kind.toNat with
  | 0x01 | 0x02 | 0x06 | 0x35 | 0x36 => some 0
  | 0x03 | 0x04 | 0x05 | 0x07 | 0x23 | 0x26 | 0x34 => some 1
  | 0x28 | 0x32 => some 2
  | 0x13 => some 3
  | 0x12 | 0x31 => some 4
  | 0x20 | 0x30 => some 5
  | 0x10 | 0x25 => some 6
  | 0x11 | 0x21 | 0x22 => some 7
  | 0x24 | 0x27 | 0x33 => some 8
  | _ => none

/-- The state after a character without a framing error on LRXD. -/
def State.hear (s : State) (b : Byte) : State :=
  match exec (.linkCharacter b false) s with
  | .next t => t
  | .fault _ | .refused _ => s

end Sys2Proof.Machine
end

