-- ==== Sys2Proof/Certificates/Slice0/Obligations.lean ====
section
/-! DEFINITION. Certificates/Slice0/Obligations.lean: the statements for the provers. A statement about a command says
that the command answers a next state and what that state holds. `s.later` is `s` with a restarted second past, as it is
when a request is taken, after the end of the reply to the one before (R151, R172; the model's choice, log 19).
`s.refusedAs r` is `s.later` with result `r` and no payload in the block result; `s.answeredOk p` is `s.later` with
result OK and payload `p` there. -/

open Sys2Proof Sys2Proof.Machine

/-! ### The machine -/

/-- A step with a command at the front of the queue runs that command on the state with the queue's rest. -/
def Obligations.StepRunsFrontCommand : Prop :=
  ∀ (c : Instr) (rest : List Instr) (s : State),
    step { s with pending := c :: rest } = exec c { s with pending := rest }

/-- Every command answers a next state, and leaves the queue of waiting commands alone; the spec has no such queue, and
that COLD_RESET and RESTART leave it alone is the model's choice (log 18). -/
def Obligations.EveryCommandCompletesAndKeepsQueue : Prop :=
  ∀ (c : Instr) (s : State), ∃ t, exec c s = .next t ∧ t.pending = s.pending

/-- A step on an empty queue is one millisecond (the model's choice, log 6). It moves the counts of milliseconds alone:
a rest and the limit of a DRIVING record fall to no less than 1 before their commands (the model's choice, log 7), the
times since a frame and since the patrol poll rise by 625 tenths of a bit, the time of a candidate and of the receiver
by a millisecond, to the most that is told apart, what is on LTXD is sent on at the link rate (R165), a reply to no
further than its last character and a character that a link reset left to its end (the model's choice, log 21), what is
on a trunk line moves on by 62.5 bits to no further than the end of its reply window or bit slots (R98, R103, R118; the
model's choice, log 17), and a restarted second is past (the model's choice, log 19). Everything else of the state is as
before. -/
def Obligations.IdleStepMovesMillisecondCountsAlone : Prop :=
  ∀ s : State, step { s with pending := [] } = .next { s with
    doors := s.doors.map (fun x => { x with sinceFrame := min 125000 (x.sinceFrame + 625) })
    trunks := s.trunks.map (fun x => { x with
      restRemaining := x.restRemaining.map (fun n => max 1 (n - 1))
      inFlight := x.inFlight.map (fun r => { r with phase := match r.phase with
        | .granted => .granted
        | .driving n => .driving (max 1 (n - 1)) })
      sincePatrol := x.sincePatrol.map (fun n => min 159375 (n + 625))
      line := match x.line with
        | .free => .free
        | .frame f b => .frame { f with place := min (110 * f.chars.length + 3749) (f.place + 625) } b
        | .window w b => .window { w with place := min (110 * w.chars.length + 699) (w.place + 625) } b })
    inputs := s.inputs.map (fun x => { x with
      candidate := x.candidate.map (fun c => ⟨c.level, min 50 (c.held + 1)⟩) })
    receiver := { s.receiver with gap := s.receiver.gap.map (fun n => min 21 (n + 1)) }
    transmitter :=
      let sentBy := s.transmitter.place + match s.rate with
        | .bps9600 => 96
        | .bps19200 => 192
        | .bps38400 => 384
        | .bps115200 => 1152
      match s.transmitter.current, s.transmitter.tail with
      | some bytes, _ => { s.transmitter with place := min (100 * bytes.length - 1) sentBy }
      | none, none => s.transmitter
      | none, some b => { s.transmitter with
        place := if sentBy < 100 then sentBy else 0
        tail := if sentBy < 100 then some b else none }
    clock := { s.clock with restarted := false }
    pending := [] }

/-- COLD_RESET gives every state the values after a cold reset (R2, R34, R53, R82, R84, R110, R121, R133, R138, R144,
R164, R169, R174) and the rate of the straps (R165); State.reset is the part after it with both straps LOW (log 9). The
time since a door's last frame (log 7), the door not left unreached (log 23), the free line (log 17), the absent block
result (log 1), the second that no setting has restarted (log 19) and the commands that wait (log 18) are the model's
choices. -/
def Obligations.ColdResetGivesResetValues : Prop :=
  (∀ (r1 r0 : Level) (s : State), exec (.coldReset r1 r0) s = .next { State.reset with
    rate := match r1, r0 with
      | .low, .low => .bps9600
      | .low, .high => .bps19200
      | .high, .low => .bps38400
      | .high, .high => .bps115200
    pending := s.pending }) ∧
  State.reset.rate = .bps9600 ∧ State.reset.blockResult = none ∧
  let r := State.reset
  (∀ d, r.door d =
    { configured := false, trunk := .A, address := 1, zone := 0, rank := 0, cls := 0, fire := false, exit := false,
      chime := false, state := .unknown, intent := .none, keepOpen := false, attempts := 0, position := .unknown,
      bolt := .unknown, health := .new, misses := 0, sweep := none, passage := none, allowance := none,
      reminder := none, sinceFrame := 125000, unreached := false }) ∧
  (∀ z, r.zone z =
    { rank := z.val, lead := 0, chime := 0, passageLimit := 30, ajarInterval := 15, leader := z, rule := .rollover,
      staged := Plan.empty, live := Plan.empty, loadPending := false, state := .opened, marker := none,
      last := none }) ∧
  (∀ k, r.slot k = none) ∧
  (∀ c, r.lockClass c = ⟨1, 1, 4, 2⟩) ∧
  (∀ t, r.trunk t =
    { budget := 12, runLength := 8, restInterval := 500, queue := [], inFlight := [], freeUnits := 12, runCount := 0,
      restRemaining := none, mode := .off, failures := 0, patrolCursor := 1, sincePatrol := none, sinceWindow := 0,
      urgentPoll := none, warnList := [], pollGap := 20, silenceLimit := 3, line := .free }) ∧
  r.holds = [] ∧ r.lastHoldId = 0 ∧
  (∀ i, r.input i =
    { activeLevel := .low, function := if i = 0 then .fire else .none, zones := 0, kind := .defer, level := none,
      candidate := none, owned := none }) ∧
  r.fire = .normal ∧
  r.clock =
    { seconds := 0, date := ⟨0, 1, 1⟩, valid := false, dayType := .weekend,
      week := #v[.term, .term, .term, .term, .term, .weekend, .weekend], exceptions := [], restarted := false } ∧
  r.noticeSet =
    { notices := [⟨.restarted, .none, none, none, 1, .restarted true⟩], mask := 0, lost := false, alert := true } ∧ r.noticeSet.alertLevel = .low ∧
  r.receiver = ⟨.hunt, false, [], none, none⟩ ∧
  r.transmitter = { current := none, busy := none, place := 0, tail := none } ∧
  r.pending = []

/-- RESTART answers OK with the warm-restart values (R3, R35, R53, R82, R110, R121, R137, R138, R164, R180). Every door
keeps its configuration; its intent is RELEASE exactly when an active KEEP_OPEN input of function HOLD covers it, with
the mark, or when it is a fire door under a fire state that is not NORMAL, and NONE otherwise. The zones lose their
markers and are derived again; each trunk keeps its five settings, and a frame on its line is abandoned (R105). The Hold
List is one hold for each active HOLD input, ascending, with ids counted on from the last id, and those inputs alone own
one. That an alert window on a line is abandoned as a frame is (log 17), the time since a door's last frame (log 7), the
door not left unreached (log 23) and the commands that wait (log 18) are the model's choices. A restarted second is
past, as with every request (the model's choice, log 19). -/
def Obligations.RestartGivesWarmValues : Prop :=
  ∀ s : State, ∃ t, exec .restart s = .next t ∧
    let holding := (List.finRange 8).filter (fun i =>
      decide (i ≠ 0 ∧ (s.input i).function = .hold ∧ (s.input i).level = some (s.input i).activeLevel))
    let keptOpen := fun x : Door => x.configured && holding.any (fun i =>
      decide ((s.input i).kind = .keepOpen) && (s.input i).zones.getLsbD x.zone.val)
    t.holds = holding.mapIdx (fun j i =>
      ⟨(s.lastHoldId + j) % 255 + 1, (s.input i).kind, .zones (s.input i).zones, .input i, none⟩) ∧
    (∀ i, t.input i = { s.input i with
      owned := (t.holds.find? (fun h => decide (h.origin = .input i))).map Hold.id }) ∧
    (∀ z, t.zone z = { s.zone z with marker := none, state := t.deriveZone z }) ∧
    (∀ u, t.trunk u = { s.trunk u with
      queue := [], inFlight := [], freeUnits := (s.trunk u).budget, runCount := 0, restRemaining := none
      mode := if s.trunkHasDoor u then .running else .off
      failures := 0, patrolCursor := 1, sincePatrol := none, sinceWindow := 0, urgentPoll := none, warnList := []
      line := match (s.trunk u).line with
        | .free => .free
        | .frame f _ => .frame f true
        | .window c _ => .window c true }) ∧
    t = { s.later with
      doors := s.doors.map (fun x => { x with
        state := .unknown
        intent := if keptOpen x = true ∨ (x.configured = true ∧ x.fire = true ∧ s.fire ≠ .normal) then .release else .none
        keepOpen := keptOpen x
        attempts := 0, position := .unknown, bolt := .unknown, health := .new, misses := 0, sweep := none
        passage := none, allowance := none, reminder := none, sinceFrame := 125000, unreached := false })
      zones := t.zones, trunks := t.trunks, holds := t.holds, inputs := t.inputs
      slots := Vector.replicate 8 none
      lastHoldId := (t.holds.getLast?.map Hold.id).getD s.lastHoldId
      noticeSet :=
        { notices := [⟨.restarted, .none, s.clock.stamp, s.clock.stamp, 1, .restarted false⟩],
          mask := s.noticeSet.mask, lost := false, alert := true }
      blockResult := some ⟨.ok, []⟩ }

/-! ### Reading requests -/

/-- DOOR_READ reports every field of the record, with absent fields as absent, and whether the door is held and
fire-locked-out; HOLD_READ the number of holds, the last id and each hold in list order with the number of doors it
covers; ZONE_READ the record, the marker, the last direction, the slot, the locked period and the counts of the zone's
doors; PLAN_READ the leader with its rule, load pending and both plans; SWEEP_READ a free slot as free, and otherwise
the sweep with its warning and its counts. Each is answered OK and changes nothing else; one that names a zone or a slot
out of range is refused with RANGE (R11, R41, R51, R81, R132, R176, R178). A restarted second is past, as with every
request (the model's choice, log 19). -/
def Obligations.ReadsReportAndChangeNothing : Prop :=
  ∀ (s : State) (b : Byte),
    let two := fun n : Nat => [byte (n / 256), byte n]
    let four := fun n : Nat => [byte (n / 16777216), byte (n / 65536), byte (n / 256), byte n]
    let minute := fun m : Option Nat => match m with | none => [(0xFF : Byte), 0xFF] | some n => two n
    let timer := fun c : Option Countdown => match c with | none => (0 : Byte) | some c => byte c.left
    let dir := fun o : Option Direction => match o with
      | none => (0 : Byte) | some .lock => 1 | some .release => 2
    (let d : DoorNo := b.toFin
     let x := s.door d
     exec (.doorRead b) s = .next (s.answeredOk
      [b, flagByte x.configured, trunkByte x.trunk, byte x.address, byte x.zone.val, byte x.rank, byte x.cls.val,
       doorFlagsByte x, doorStateByte x.state, intentByte x.intent, flagByte x.keepOpen, byte x.attempts,
       positionByte x.position, boltByte x.bolt, healthByte x.health, byte x.misses,
       match x.sweep with | none => 0xFF | some l => byte l.slot.val,
       match x.sweep with | none => 0xFF | some l => countByte l.count,
       timer x.passage, timer x.allowance, timer x.reminder,
       flagByte (s.holds.any (fun h => h.covers d x)), flagByte (x.fire && decide (s.fire ≠ .normal))])) ∧
    exec .holdRead s = .next (s.answeredOk ([byte s.holds.length, byte s.lastHoldId] ++ s.holds.flatMap (fun h =>
      [byte h.id, match h.kind with | .keepOpen => 0 | .defer => 1] ++
      (match h.scope with | .zones m => 0 :: four m.toNat | .door d => 1 :: four d.val) ++
      [match h.origin with | .link => 0 | .input i => byte i.val] ++
      two (match h.remaining with | none => 0 | some c => c.left) ++
      two ((List.finRange 256).filter (fun d => h.covers d (s.door d))).length))) ∧
    (∀ z : ZoneNo, b = byte z.val →
      let x := s.zone z
      let doors := fun p : DoorNo → Bool =>
        two ((List.finRange 256).filter (fun d => decide (s.IsDoorOf z d) && p d)).length
      let inState := fun st : DoorState => doors (fun d => decide ((s.door d).state = st))
      let day := fun p : DayPlan => minute p.lockup ++ minute p.release
      exec (.zoneRead b) s = .next (s.answeredOk
        ([b, byte x.rank, byte x.lead, byte x.chime, byte x.passageLimit, byte x.ajarInterval, byte x.leader.val,
          loadRuleByte x.rule, zoneStateByte x.state, dir (x.marker.map Marker.direction),
          match x.marker with | none => 0xFF | some m => originByte m.origin,
          dir x.last, flagByte x.loadPending,
          match (List.finRange 8).find? (fun k => (s.slot k).any (fun w => decide (w.zone = z))) with
            | none => 0xFF | some k => byte k.val,
          flagByte (s.inLockedPeriod z)] ++
         doors (fun _ => true) ++ doors (fun d => (s.door d).fire) ++ doors (fun d => s.held d) ++
         inState .unknown ++ inState .released ++ inState .waiting ++ inState .acting ++ inState .secured ++
         inState .ajar ++ inState .passage ++ inState .jammed ++ inState .forced)) ∧
      exec (.planRead b) s = .next (s.answeredOk
        ([b, byte x.leader.val, loadRuleByte (s.zone x.leader).rule, flagByte x.loadPending] ++
         day x.staged.term ++ day x.staged.short ++ day x.staged.weekend ++ day x.staged.closed ++
         day x.live.term ++ day x.live.short ++ day x.live.weekend ++ day x.live.closed))) ∧
    (32 ≤ b.toNat →
      exec (.zoneRead b) s = .next (s.refusedAs .range) ∧ exec (.planRead b) s = .next (s.refusedAs .range)) ∧
    (∀ k : SlotNo, b = byte k.val → exec (.sweepRead b) s = .next (s.answeredOk (match s.slot k with
      | none => [b, 0]
      | some w =>
        [b, 1, byte w.zone.val, dir (some w.direction), originByte w.origin,
          match w.phase with | .warning _ => 0 | .active => 1,
          match w.phase with | .warning c => byte c.left | .active => 0] ++
        two w.total ++ two w.counts.done ++ two w.counts.pending ++ two w.counts.ajar ++ two w.counts.jammed ++
        two w.counts.held ++ two w.counts.unreachable))) ∧
    (8 ≤ b.toNat → exec (.sweepRead b) s = .next (s.refusedAs .range))

/-- STATUS reports the clock, the fire state, each trunk's state, free units and queue length, and the numbers of
sweeps, markers, holds and notices, and changes nothing of the part (R179); the fields of the model's own that may
differ are the block result and the mark of a restarted second (logs 1 and 19). -/
def Obligations.StatusReports : Prop :=
  ∀ s : State, ∃ t, exec .status s = .next t ∧
    t = { s with clock := { s.clock with restarted := t.clock.restarted }, blockResult := t.blockResult } ∧
    t.blockResult = some ⟨.ok,
    [byte s.clock.date.year, byte s.clock.date.month, byte s.clock.date.day] ++
      [byte (s.clock.seconds / 65536), byte (s.clock.seconds / 256), byte s.clock.seconds] ++
      [if s.clock.valid then 1 else 0, dayTypeByte s.clock.dayType, fireStateByte s.fire] ++
      [trunkModeByte (s.trunk .A).mode, byte (s.trunk .A).freeUnits, byte (s.trunk .A).queue.length] ++
      [trunkModeByte (s.trunk .B).mode, byte (s.trunk .B).freeUnits, byte (s.trunk .B).queue.length] ++
      [trunkModeByte (s.trunk .C).mode, byte (s.trunk .C).freeUnits, byte (s.trunk .C).queue.length] ++
      [trunkModeByte (s.trunk .D).mode, byte (s.trunk .D).freeUnits, byte (s.trunk .D).queue.length] ++
      [byte ((List.finRange 8).filter (fun k => (s.slot k).isSome)).length,
       byte ((List.finRange 32).filter (fun z => (s.zone z).marker.isSome)).length,
       byte s.holds.length, byte s.noticeSet.notices.length]⟩

/-! ### Notices -/

/-- FETCH removes the first notice and carries it whole with the number left; it reports the lost flag, which becomes
no; ALERT follows the set; nothing else changes (R161). Under the law of the set the output ALERT is active, LOW, while
a notice is held, and inactive, HIGH, while none is (R163). A restarted second is past, as with every request (the
model's choice, log 19). -/
def Obligations.FetchTakesFirstNotice : Prop :=
  (∀ s : State, exec .fetch s = .next { s.later with
    noticeSet := { s.noticeSet with
      notices := s.noticeSet.notices.drop 1
      lost := false
      alert := decide (1 < s.noticeSet.notices.length) }
    blockResult := some ⟨.ok, match s.noticeSet.notices with
      | [] => [flagByte s.noticeSet.lost, 0, 0]
      | x :: l => [flagByte s.noticeSet.lost, byte l.length, 1, byte x.kind.number, subjectByte x.subject,
          byte x.kind.priority] ++ stampBytes x.first ++ stampBytes x.last ++
          [byte x.count, byte (detailBytes x.detail).length] ++ detailBytes x.detail⟩ }) ∧
  ∀ n : NoticeSet, n.Law → n.alertLevel = if n.notices = [] then .high else .low

/-- NOTICE_MASK replaces the mask and answers with the old one, unless it names FIRE_ON, FORCED or TRUNK_DOWN; a raise
of a masked kind is not taken. A raise of a kind that is not masked is merged into the held notice of its kind and
subject, enters with room behind every notice of equal or smaller priority number, or finds the set full and evicts the
last notice of a larger priority number or is dropped (R157 to R160). A restarted second is past, as with every request
(the model's choice, log 19). -/
def Obligations.NoticeMaskAndRaise : Prop :=
  (∀ (s : State) (m : Word16),
    exec (.noticeMask m) s = .next
      (if m.getLsbD 0 || m.getLsbD 1 || m.getLsbD 2 then s.refusedAs .range
      else { s.later with
        noticeSet := { s.noticeSet with mask := m }
        blockResult := some ⟨.ok, [byte (s.noticeSet.mask.toNat / 256), byte s.noticeSet.mask.toNat]⟩ })) ∧
  ∀ (n : NoticeSet) (stamp : Option Nat) (k : NoticeKind) (u : Subject) (v : Detail),
    n.raise stamp k u v =
      if n.mask.getLsbD (k.number - 1) = true then n
      else
      let new : Notice := ⟨k, u, stamp, stamp, 1, v⟩
      let placed := fun l : List Notice =>
        l.filter (fun x => decide (x.kind.priority ≤ k.priority)) ++
          new :: l.filter (fun x => decide (k.priority < x.kind.priority))
      if n.notices.any (fun x => decide (x.kind = k ∧ x.subject = u)) then
        { n with notices := n.notices.map (fun x => if x.kind = k ∧ x.subject = u then
            { x with last := stamp, count := min 255 (x.count + 1), detail := v } else x) }
      else if n.notices.length < 48 then { n with notices := placed n.notices, alert := true }
      else if n.notices.getLast?.any (fun l => decide (k.priority < l.kind.priority)) then
        { n with notices := placed n.notices.dropLast, lost := true, alert := true }
      else { n with lost := true }

/-! ### The Day Clock -/

/-- CLOCK_SET is refused with RANGE for a date that is no calendar date from 2000 to 2099 or a time past 86399;
otherwise date and time are set, the clock is valid, the second is restarted, today's day type is resolved and answered,
and nothing else changes (R150). The second event that arrives together with the setting does not occur when the setting
is taken first (R151); that it is told by no time having passed between the two is the model's choice (log 19). A
request is taken after the end of the reply to the one before (R172), so that it finds a restarted second past: each
request does what it does a while later, and none but CLOCK_SET leaves a restarted second (the model's choice, log
19). -/
def Obligations.ClockSetSetsAndResolves : Prop :=
  (∀ (s : State) (y m d : Byte) (sec : Word24),
    exec (.clockSet y m d sec) s = .next
      (if y.toNat ≤ 99 ∧ 1 ≤ m.toNat ∧ m.toNat ≤ 12 ∧ 1 ≤ d.toNat ∧
          d.toNat ≤ (match m.toNat with
            | 2 => if y.toNat % 4 = 0 then 29 else 28
            | 4 | 6 | 9 | 11 => 30
            | _ => 31) ∧ sec.toNat ≤ 86399 then
        { s with
          clock := { s.clock with
            date := ⟨y.toNat, m.toNat, d.toNat⟩, seconds := sec.toNat, valid := true, restarted := true
            dayType := s.clock.resolve ⟨y.toNat, m.toNat, d.toNat⟩ }
          blockResult := some ⟨.ok, [dayTypeByte (s.clock.resolve ⟨y.toNat, m.toNat, d.toNat⟩)]⟩ }
      else s.refusedAs .range)) ∧
  (∀ s : State, s.clock.restarted = true →
    exec .secondEvent s = .next { s with clock := { s.clock with restarted := false } }) ∧
  ∀ (c : Instr) (s : State), requestOf c ≠ none → exec c s = exec c s.later ∧
    ((∀ y m d sec, c ≠ .clockSet y m d sec) → ∃ t, exec c s = .next t ∧ t.clock.restarted = false)

/-- WEEK_SET replaces the pattern whole, Monday first, and leaves the day type held for today; any value that is no day
type is refused with RANGE (R152). DATE_ADD replaces the day type of the date's entry or adds an entry behind those of
earlier dates and ahead of those of later ones, so that a list in date order (`Clock.Law`) stays so, and answers with
the number of entries and whether one was replaced; it is refused with RANGE or with FULL in the order of R153.
DATE_REMOVE removes the date's entry, or is refused with RANGE (R154). A restarted second is past, as with every request
(the model's choice, log 19). -/
def Obligations.WeekAndDateRequests : Prop :=
  (∀ (s : State) (a b c d e f g : Byte), ∃ t, exec (.weekSet a b c d e f g) s = .next t ∧
    if ∀ x ∈ [a, b, c, d, e, f, g], x.toNat ≤ 3 then
      t.clock.week.toList.map dayTypeByte = [a, b, c, d, e, f, g] ∧ t.blockResult = some ⟨.ok, []⟩ ∧
      { t with clock := { t.clock with week := s.clock.week }, blockResult := s.blockResult } = s.later
    else t = s.refusedAs .range) ∧
  ∀ (s : State) (y m d k : Byte),
    let date : Date := ⟨y.toNat, m.toNat, d.toNat⟩
    let old := s.clock.exceptions
    let there := old.any (fun e => decide (e.date = date))
    let day := fun x : Date => x.year * 10000 + x.month * 100 + x.day
    (∃ t, exec (.dateAdd y m d k) s = .next t ∧
      if date.isCalendar = false ∨ 3 < k.toNat then t = s.refusedAs .range
      else if 24 ≤ old.length ∧ there = false then t = s.refusedAs .full
      else
        t = { s.later with
          clock := { s.later.clock with exceptions := t.clock.exceptions }, blockResult := t.blockResult } ∧
        t.blockResult = some ⟨.ok, [byte t.clock.exceptions.length, if there then 1 else 0]⟩ ∧
        t.clock.exceptions.length = old.length + (if there then 0 else 1) ∧
        (∀ n, dayTypeByte n = k → t.clock.exceptions =
          if there then old.map (fun e => if e.date = date then ⟨date, n⟩ else e)
          else old.filter (fun e => decide (day e.date < day date)) ++
            ⟨date, n⟩ :: old.filter (fun e => decide (day date ≤ day e.date))) ∧
        (s.clock.Law → t.clock.exceptions.Pairwise (fun a b => day a.date < day b.date))) ∧
    exec (.dateRemove y m d) s = .next
      (if date.isCalendar ∧ there then
        { s.later with
          clock := { s.later.clock with exceptions := old.filter (fun e => decide (e.date ≠ date)) }
          blockResult := some ⟨.ok, [byte (old.filter (fun e => decide (e.date ≠ date))).length]⟩ }
      else s.refusedAs .range)

/-- A second that is no rollover, at which no schedule event falls due, advances the time and decreases the passage
timers and exit allowances; at a minute it decreases the ajar reminders, the warnings and the timed holds as well, and
changes nothing else (R17, R21, R24, R64, R127, R145, R146). The last unit of a count is left to the command of its end
(the model's choice, log 4), and the second is one that no setting has restarted (log 19). -/
def Obligations.SecondEventCountsDown : Prop :=
  ∀ s : State, s.NoEnds → s.clock.restarted = false → s.clock.seconds < 86399 →
    let now := s.clock.seconds + 1
    let less := fun c : Countdown => if 2 ≤ c.left then ⟨c.left - 1, c.ending⟩ else ⟨c.left, true⟩
    (now % 60 = 0 → s.clock.valid = true → ∀ z dir, ¬ s.planNames z s.clock.dayType (now / 60) dir) →
    exec .secondEvent s = .next { s with
      clock := { s.clock with seconds := now }
      doors := s.doors.map (fun x => { x with
        passage := x.passage.map less, allowance := x.allowance.map less
        reminder := if now % 60 = 0 then x.reminder.map less else x.reminder })
      slots := if now % 60 = 0 then s.slots.map (Option.map (fun w => { w with
          phase := match w.phase with | .warning c => .warning (less c) | .active => .active })) else s.slots
      holds := if now % 60 = 0 then s.holds.map (fun h => { h with remaining := h.remaining.map less })
        else s.holds }

/-- A minute boundary at which one zone's live plan names the minute. The counts of the minute are taken first (the
model's choice, log 5: `u` is the state after them). The lockup of a fire-barred zone passes, and a sweep of the same
direction is left alone. With no sweep of the zone and no free slot the marker is recorded with origin SCHEDULE and
SWEEP_WAITING raised. With a free slot a lockup under a warning lead starts in WARNING with its whole lead and a WARN
entry for each chime door that is not held, and a release, or a lockup without lead, walks the zone at once (R45, R55,
R56, R58, R62, R63, R65). -/
def Obligations.ScheduleEventGivesItsMarker : Prop :=
  ∀ (s : State) (z : ZoneNo) (dir : Direction), s.NoEnds → s.clock.restarted = false → s.clock.seconds < 86399 →
    s.clock.valid = true → (s.clock.seconds + 1) % 60 = 0 →
    s.planNames z s.clock.dayType ((s.clock.seconds + 1) / 60) dir →
    ¬ ((s.zone z).live.get s.clock.dayType).lockup = ((s.zone z).live.get s.clock.dayType).release →
    s.namedAlone z s.clock.dayType ((s.clock.seconds + 1) / 60) → s.SweepLaw →
    let u := s.countedDown
    ∃ t, exec .secondEvent s = .next t ∧
      (dir = .lock → s.Barred z → t = u) ∧
      ((dir = .lock → ¬ s.Barred z) →
        (∀ k w, s.slot k = some w → w.zone = z → w.direction = dir → t = u) ∧
        (¬ s.HasSweep z → (∀ k, s.slot k ≠ none) → t = { u with
          zones := s.zones.set z.val { s.zone z with marker := some ⟨dir, .schedule⟩ }
          noticeSet := s.noticeSet.raise u.clock.stamp .sweepWaiting (.zone z) (.sweepWaiting dir .schedule
            ((List.finRange 32).filter (fun y => decide (y = z) || (s.zone y).marker.isSome)).length) }) ∧
        (∀ k, ¬ s.HasSweep z → s.slot k = none → (∀ j, j < k → s.slot j ≠ none) →
          (dir = .lock → (s.zone z).lead ≠ 0 →
            t = { u with
              slots := u.slots.set k.val (some ⟨z, .lock, .schedule, .warning ⟨(s.zone z).lead, false⟩, 0,
                ⟨0, 0, 0, 0, 0, 0⟩⟩)
              zones := s.zones.set z.val { s.zone z with marker := none, state := .warning }
              trunks := t.trunks } ∧
            (∀ v, t.trunk v = { s.trunk v with warnList := (t.trunk v).warnList }) ∧
            (∀ d, s.IsDoorOf z d → (s.door d).chime = true → s.held d = false →
              ⟨d, (s.zone z).chime, (s.zone z).lead⟩ ∈ (t.trunk (s.door d).trunk).warnList)) ∧
          (dir = .release ∨ (s.zone z).lead = 0 → u.WalkedTo t z dir .schedule k)))

/-- At the rollover the time becomes 0 and the date the next calendar date, whose weekday follows; after 2099-12-31 the
date is 2000-01-01 and the clock is invalid; entries before the new date are pruned, the day type is resolved, and a
zone whose leader has load rule ROLLOVER takes its staged plan if load pending is yes, while one whose leader has
IMMEDIATE keeps its plans (R43, R147, R148, R149). The second and the boundary of minute 0 are taken, against the plans
and the day type of the new day: with no plan naming minute 0, or an invalid clock, the counts alone fall; a zone that
locks up at 00:00 with a warning lead and a free slot stands in WARNING, with the boundary's counts taken first (R45,
R146, R147; the model's choices, logs 4 and 5). -/
def Obligations.RolloverTakesTheNewDay : Prop :=
  ∀ s : State, s.NoEnds → s.clock.restarted = false → s.clock.seconds = 86399 → s.clock.date.isCalendar = true →
    ∃ t, exec .secondEvent s = .next t ∧
      let u := s.secondLess.minuteLess
      let loads := fun z => (s.zone (s.zone z).leader).leader = (s.zone z).leader ∧
        (s.zone (s.zone z).leader).rule = .rollover ∧ (s.zone z).loadPending = true
      let live := fun z => if loads z then (s.zone z).staged else (s.zone z).live
      let atZero := fun z => ((live z).get t.clock.dayType).lockup = some 0 ∨ ((live z).get t.clock.dayType).release = some 0
      t.clock.seconds = 0 ∧ t.clock.date = s.clock.date.next ∧ t.clock.week = s.clock.week ∧
      t.clock.restarted = false ∧
      (if s.clock.date = ⟨99, 12, 31⟩ then t.clock.date = ⟨0, 1, 1⟩ ∧ t.clock.valid = false
       else t.clock.date.dayCount = s.clock.date.dayCount + 1 ∧ t.clock.date.isCalendar = true ∧
         t.clock.date.weekday = s.clock.date.weekday + 1 ∧ t.clock.valid = s.clock.valid) ∧
      t.clock.exceptions = s.clock.exceptions.filter (fun e => !e.date.before s.clock.date.next) ∧
      t.clock.dayType = (match t.clock.exceptions.find? (fun e => decide (e.date = t.clock.date)) with
        | some e => e.dayType
        | none => t.clock.week[(t.clock.date.weekday).val]) ∧
      (∀ z, (s.zone (s.zone z).leader).rule ≠ .afterSweep →
        (t.zone z).staged = (s.zone z).staged ∧ (t.zone z).live = live z ∧
        (t.zone z).loadPending = ((s.zone z).loadPending && !decide (loads z))) ∧
      ((t.clock.valid = true → ∀ z, ¬ atZero z) → t = { u with
        clock := t.clock
        zones := s.zones.mapIdx (fun i _ => if h : i < 32 then
          { s.zone ⟨i, h⟩ with
            live := live ⟨i, h⟩
            loadPending := (s.zone ⟨i, h⟩).loadPending && !decide (loads ⟨i, h⟩) }
          else s.zone 0) }) ∧
      (∀ z k, t.clock.valid = true → ((live z).get t.clock.dayType).lockup = some 0 → (∀ y, y ≠ z → ¬ atZero y) →
        ¬ s.Barred z → ¬ s.HasSweep z → (s.zone z).lead ≠ 0 → s.slot k = none → (∀ j, j < k → s.slot j ≠ none) →
        t.slots = u.slots.set k.val (some ⟨z, .lock, .schedule, .warning ⟨(s.zone z).lead, false⟩, 0,
          ⟨0, 0, 0, 0, 0, 0⟩⟩) ∧
        (t.zone z).state = .warning ∧ (t.zone z).marker = none ∧ t.doors = u.doors ∧ t.holds = u.holds ∧
        t.noticeSet = s.noticeSet ∧
        ∀ d, s.IsDoorOf z d → (s.door d).chime = true → s.held d = false →
          ⟨d, (s.zone z).chime, (s.zone z).lead⟩ ∈ (t.trunk (s.door d).trunk).warnList)

/-- A second event that finds ends untaken takes them first, as their own commands do: the exit allowances, the passage
timers and the ajar reminders by ascending door, the warnings by slot, and the holds in the order of the list (R17, R21,
R24, R64, R127). That an end may wait so, and this order of the kinds, are the model's choices (log 4). -/
def Obligations.SecondEventTakesUntakenEnds : Prop :=
  ∀ s : State, s.clock.restarted = false → s.HoldLaw →
    exec .secondEvent s = exec .secondEvent (s.after s.untakenEnds) ∧
    (s.after s.untakenEnds).untakenEnds = []

/-! ### Zones and plans -/

/-- The locked period of a zone, by the table of R47; ZONE_READ reports it. -/
def Obligations.LockedPeriodByTable : Prop :=
  ∀ (s : State) (z : ZoneNo),
    let p := (s.zone z).live.get s.clock.dayType
    let now := s.clock.seconds / 60
    (s.inLockedPeriod z = true ↔ s.clock.valid = true ∧
      ((∃ l r, p.lockup = some l ∧ p.release = some r ∧ r < l ∧ (l ≤ now ∨ now < r)) ∨
       (∃ l r, p.lockup = some l ∧ p.release = some r ∧ l < r ∧ (l ≤ now ∧ now < r)) ∨
       (∃ l, p.lockup = some l ∧ p.release = none ∧ l ≤ now) ∨
       (∃ r, p.lockup = none ∧ p.release = some r ∧ now < r))) ∧
    ∃ t q, exec (.zoneRead (BitVec.ofNat 8 z.val)) s = .next t ∧ t.blockResult = some ⟨.ok, q⟩ ∧
      q[14]? = some (if s.inLockedPeriod z then 1 else 0)

/-- The zone state, by the first case of R48 that applies, in every state whose zone states are derived and whose sweeps
are of different zones (both kept by every step: ZoneLawKept, SweepLawKept). -/
def Obligations.ZoneStateByFirstCase : Prop :=
  ∀ (s : State) (z : ZoneNo), s.ZoneLaw → s.SweepLaw →
    let mine := fun d => (s.door d).configured = true ∧ (s.door d).zone = z
    (s.Barred z → (s.zone z).state = .fire) ∧
    (¬ s.Barred z → ∀ k w, s.slot k = some w → w.zone = z →
      (s.zone z).state = match w.direction, w.phase with
        | .lock, .warning _ => .warning
        | .lock, .active => .securing
        | .release, _ => .releasing) ∧
    (¬ s.Barred z → ¬ s.HasSweep z →
      ((∀ d, ¬ mine d) → (s.zone z).state = .opened) ∧
      ((∃ d, mine d ∧ (s.door d).state = .unknown) → (s.zone z).state = .unknown) ∧
      ((∃ d, mine d) → (∀ d, mine d → (s.door d).state = .secured ∨ (s.door d).state = .passage) →
        (s.zone z).state = .secured) ∧
      ((∃ d, mine d) → (∀ d, mine d → (s.door d).state = .released) → (s.zone z).state = .opened) ∧
      ((∃ d, mine d ∧ (s.door d).state ≠ .secured ∧ (s.door d).state ≠ .passage) →
        (∃ d, mine d ∧ (s.door d).state ≠ .released) → (∀ d, mine d → (s.door d).state ≠ .unknown) →
        (s.zone z).state = .partly))

/-- ZONE_SET makes the checks of R36 in order, and otherwise replaces the seven settings and changes nothing else.
PLAN_STAGE replaces the two staged entries of a day type, sets load pending from the comparison of the whole plans and,
when the leader's rule is IMMEDIATE, loads the group; it is refused with RANGE for a zone, day type or minute out of
range and for equal minutes that are not NONE (R39, R42, R43). PLAN_LOAD performs the group load of the named zone's
leader whatever its load rule: each member with load pending takes its staged plan, the others are left as they are; it
is refused with RANGE for a zone out of range (R40, R42). A restarted second is past, as with every request (the model's
choice, log 19). -/
def Obligations.ZoneAndPlanRequests : Prop :=
  (∀ (s : State) (zone rank lead chime passage ajar leader rule : Byte),
    if h : zone.toNat < 32 ∧ leader.toNat < 32 ∧ rule.toNat ≤ 2 ∧ lead.toNat ≤ 15 ∧ chime.toNat ≤ 7 ∧
        5 ≤ passage.toNat ∧ ajar.toNat ≤ 60 then
      let z : ZoneNo := ⟨zone.toNat, h.1⟩
      let l : ZoneNo := ⟨leader.toNat, h.2.1⟩
      if l ≠ z ∧ ((s.zone l).leader ≠ l ∨ ∃ y, y ≠ z ∧ (s.zone y).leader = z) then
        exec (.zoneSet zone rank lead chime passage ajar leader rule) s = .next (s.refusedAs .conflict)
      else ∀ r, loadRuleByte r = rule →
        exec (.zoneSet zone rank lead chime passage ajar leader rule) s = .next { s.later with
          zones := s.zones.set z.val { s.zone z with
            rank := rank.toNat, lead := lead.toNat, chime := chime.toNat, passageLimit := passage.toNat
            ajarInterval := ajar.toNat, leader := l, rule := r }
          blockResult := some ⟨.ok, []⟩ }
    else exec (.zoneSet zone rank lead chime passage ajar leader rule) s = .next (s.refusedAs .range)) ∧
  ∀ (s : State) (zone day : Byte) (lock rel : Word16), (∃ t, exec (.planStage zone day lock rel) s = .next t ∧
    if h : zone.toNat < 32 ∧ day.toNat ≤ 3 ∧ (lock = 0xFFFF ∨ lock.toNat ≤ 1439) ∧ (rel = 0xFFFF ∨ rel.toNat ≤ 1439) ∧
        (lock = rel → lock = 0xFFFF) then
      let z : ZoneNo := ⟨zone.toNat, h.1⟩
      let minute := fun w : Word16 => if w = 0xFFFF then none else some w.toNat
      t = { s.later with zones := t.zones, blockResult := some ⟨.ok, []⟩ } ∧
      ∀ k : DayType, dayTypeByte k = day → ∀ y : ZoneNo,
        let staged := if y = z then (s.zone z).staged.set k ⟨minute lock, minute rel⟩ else (s.zone y).staged
        let due := if y = z then decide (staged ≠ (s.zone z).live) else (s.zone y).loadPending
        let loads := decide ((s.zone (s.zone z).leader).rule = .immediate ∧ (s.zone y).leader = (s.zone z).leader) && due
        t.zone y = { s.zone y with
          staged := staged
          live := if loads then staged else (s.zone y).live
          loadPending := if loads then false else due }
    else t = s.refusedAs .range) ∧
  ∃ t, exec (.planLoad zone) s = .next t ∧
    if h : zone.toNat < 32 then
      t = { s.later with zones := t.zones, blockResult := some ⟨.ok, []⟩ } ∧
      ∀ y : ZoneNo, t.zone y =
        if (s.zone y).leader = (s.zone ⟨zone.toNat, h⟩).leader ∧ (s.zone y).loadPending = true then
          { s.zone y with live := (s.zone y).staged, loadPending := false }
        else s.zone y
    else t = s.refusedAs .range

/-! ### Door timers -/

/-- An exit allowance, a passage timer or an ajar reminder whose last second or minute is over has its end: the
allowance becomes absent; LONG_PASSAGE or AJAR is raised and the timer is set again from the zone (R17, R21, R24). With
no such end to take the commands change nothing (the model's choice, logs 3 and 4). -/
def Obligations.TimerEnds : Prop :=
  ∀ (s : State) (d : DoorNo),
    let x := s.door d
    let raised := fun k => s.noticeSet.raise (if s.clock.valid then some s.clock.seconds else none) k (.door d)
      (.door x.state x.position x.bolt)
    exec (.exitAllowanceEnd d) s = .next
      (if isEnding x.allowance = true then { s with doors := s.doors.set d.val { x with allowance := none } } else s) ∧
    exec (.longPassage d) s = .next
      (if isEnding x.passage = true then { s with
        doors := s.doors.set d.val { x with passage := some ⟨(s.zone x.zone).passageLimit, false⟩ }
        noticeSet := raised .longPassage }
      else s) ∧
    exec (.ajarReminder d) s = .next
      (if isEnding x.reminder = true then { s with
        doors := s.doors.set d.val { x with
          reminder := if (s.zone x.zone).ajarInterval = 0 then none else some ⟨(s.zone x.zone).ajarInterval, false⟩ }
        noticeSet := raised .ajar }
      else s)

/-! ### Classes and trunk settings -/

/-- CLASS_SET is refused with RANGE or, while a configured door of the class is ACTING, with STATE. Otherwise the four
fields are replaced, attempts above lowered retries are lowered except for a JAMMED door, and the arbiters are
considered: on a RUNNING trunk a head entry whose new charge is free is granted, unless it is ROUTINE and the trunk
rests; no more than door states, door timers and the trunks change, and the state derived of a zone one of whose doors
changes; nothing does where no entry waits (R49, R84, R85, R89). TRUNK_SET is refused with RANGE or, with an actuation
in flight, with STATE. Otherwise the five settings are replaced, the free units with those held make up the new budget,
the arbiter is considered, and the silence limit takes effect: misses of SILENT doors rise to a raised limit, and misses
at or above a lowered limit become it and make the door SILENT. The request itself touches neither the queue nor the run
count nor the rest remaining: with no limit lowered they are as the arbiter leaves them, the whole part being that of
the new settings after the arbiter, and where it can grant nothing they stand; a lowered limit takes the entries of the
doors it makes SILENT, and an emptied queue has run count 0 (R28, R87, R97, R120). A restarted second is past, as with
every request (the model's choice, log 19). -/
def Obligations.ClassAndTrunkSettings : Prop :=
  (∀ (s : State) (cls lock rel limit retries : Byte), ∃ t, exec (.classSet cls lock rel limit retries) s = .next t ∧
    if h : cls.toNat < 8 ∧ lock.toNat ≤ 16 ∧ rel.toNat ≤ 16 ∧ 1 ≤ limit.toNat ∧ limit.toNat ≤ 30 ∧ retries.toNat ≤ 3 then
      let c : ClassNo := ⟨cls.toNat, h.1⟩
      let capped := fun x : Door => if retries.toNat < (s.lockClass c).retries ∧ x.configured = true ∧ x.cls = c ∧
        x.state ≠ .jammed ∧ retries.toNat < x.attempts then { x with attempts := retries.toNat } else x
      if ∃ d, (s.door d).configured = true ∧ (s.door d).cls = c ∧ (s.door d).state = .acting then
        t = s.refusedAs .state
      else
        t.blockResult = some ⟨.ok, []⟩ ∧
        t.classes = s.classes.set c.val ⟨lock.toNat, rel.toNat, limit.toNat, retries.toNat⟩ ∧
        (∀ d, t.door d = { capped (s.door d) with
          state := (t.door d).state, passage := (t.door d).passage, allowance := (t.door d).allowance
          reminder := (t.door d).reminder }) ∧
        (∀ z, t.zone z = { s.zone z with
          state := if ∃ d, (s.door d).zone = z ∧ (t.door d).state ≠ (s.door d).state then t.deriveZone z
            else (s.zone z).state }) ∧
        (∀ u, (t.trunk u).budget = (s.trunk u).budget ∧ (t.trunk u).supply = (s.trunk u).supply) ∧
        t.slots = s.slots ∧ t.noticeSet = s.noticeSet ∧ s.later.SameAround { t with classes := s.classes } ∧
        (∀ u e l, (s.trunk u).queue = e :: l → (s.trunk u).mode = .running →
          ((s.trunk u).restRemaining = none ∨ e.cls = .urgent) →
          let k := t.lockClass (s.door e.door).cls
          let charge := min (match e.direction with | .lock => k.lockCost | .release => k.releaseCost) (s.trunk u).budget
          charge ≤ (s.trunk u).freeUnits →
          (t.door e.door).state = .acting ∧ ⟨e.door, e.direction, e.cls, charge, .granted⟩ ∈ (t.trunk u).inFlight) ∧
        ((∀ u, (s.trunk u).queue = []) → t = { s.later with
          classes := t.classes, doors := s.doors.map capped, blockResult := t.blockResult })
    else t = s.refusedAs .range) ∧
  ∀ (s : State) (trunk budget run : Byte) (rest : Word16) (gap silence : Byte), ∃ t,
    exec (.trunkSet trunk budget run rest gap silence) s = .next t ∧
    ((3 < trunk.toNat ∨ budget.toNat = 0 ∨ 32 < budget.toNat ∨ run.toNat = 0 ∨ 15 < run.toNat ∨ 5000 < rest.toNat ∨
        rest.toNat % 50 ≠ 0 ∨ silence.toNat = 0 ∨ 15 < silence.toNat) → t = s.refusedAs .range) ∧
    ∀ u : Trunk, trunkByte u = trunk → 1 ≤ budget.toNat → budget.toNat ≤ 32 → 1 ≤ run.toNat → run.toNat ≤ 15 →
      rest.toNat ≤ 5000 → rest.toNat % 50 = 0 → 1 ≤ silence.toNat → silence.toNat ≤ 15 →
      if (s.trunk u).inFlight ≠ [] then t = s.refusedAs .state
      else
        let old := (s.trunk u).silenceLimit
        t.blockResult = some ⟨.ok, []⟩ ∧
        (t.trunk u).budget = budget.toNat ∧ (t.trunk u).runLength = run.toNat ∧
        (t.trunk u).restInterval = rest.toNat ∧ (t.trunk u).pollGap = gap.toNat ∧
        (t.trunk u).silenceLimit = silence.toNat ∧
        (t.trunk u).freeUnits + unitsHeld (t.trunk u).inFlight = budget.toNat ∧
        (t.trunk u).mode = (s.trunk u).mode ∧ (t.trunk u).line = (s.trunk u).line ∧
        (t.trunk u).failures = (s.trunk u).failures ∧
        let set : TrunkState := { s.trunk u with
          budget := budget.toNat, runLength := run.toNat, restInterval := rest.toNat, pollGap := gap.toNat
          silenceLimit := silence.toNat, freeUnits := budget.toNat }
        (old ≤ silence.toNat →
          let c := State.consider u (s.later.setTrunk u set)
          t = { c with
            doors := c.doors.map (fun x => if old < silence.toNat ∧ x.configured = true ∧ x.trunk = u ∧
              x.health = .silent then { x with misses := silence.toNat } else x)
            blockResult := some ⟨.ok, []⟩ }) ∧
        (old ≤ silence.toNat → ((s.trunk u).mode ≠ .running ∨ (s.trunk u).queue = [] ∨
            ((s.trunk u).restRemaining ≠ none ∧ ∀ e ∈ (s.trunk u).queue, e.cls = .routine)) →
          t.trunk u = set) ∧
        (silence.toNat < old → s.WorkLaw → s.SupplyLaw → (∀ k, s.slot k = none) →
          ((s.trunk u).mode ≠ .running ∨ (s.trunk u).queue = [] ∨ ((s.trunk u).restRemaining ≠ none ∧
            ∀ e ∈ (s.trunk u).queue, e.cls = .routine)) →
          let stays := (s.trunk u).queue.filter (fun e => decide (¬ ((s.door e.door).configured = true ∧
            silence.toNat ≤ (s.door e.door).misses ∧ (s.door e.door).health ≠ .silent)))
          t.trunk u = { set with
            queue := stays, runCount := if stays = [] then 0 else (s.trunk u).runCount }) ∧
        (∀ v, v ≠ u → (t.trunk v).budget = (s.trunk v).budget ∧ (t.trunk v).silenceLimit = (s.trunk v).silenceLimit ∧
          (t.trunk v).supply = (s.trunk v).supply ∧ (t.trunk v).mode = (s.trunk v).mode) ∧
        (∀ d, (s.door d).configured = true → (s.door d).trunk = u →
          (t.door d).misses = (if old < silence.toNat ∧ (s.door d).health = .silent then silence.toNat
            else if silence.toNat < old then min (s.door d).misses silence.toNat else (s.door d).misses) ∧
          (t.door d).health = (if silence.toNat < old ∧ silence.toNat ≤ (s.door d).misses then .silent
            else (s.door d).health)) ∧
        (old ≤ silence.toNat → ∀ e l, (s.trunk u).queue = e :: l → (s.trunk u).mode = .running →
          ((s.trunk u).restRemaining = none ∨ e.cls = .urgent) →
          let k := s.lockClass (s.door e.door).cls
          let charge := min (match e.direction with | .lock => k.lockCost | .release => k.releaseCost) budget.toNat
          (t.door e.door).state = .acting ∧ ⟨e.door, e.direction, e.cls, charge, .granted⟩ ∈ (t.trunk u).inFlight) ∧
        (silence.toNat = old → (s.trunk u).queue = [] → t = { s.later.setTrunk u set with
          blockResult := some ⟨.ok, []⟩ })

/-! ### The Door Table's requests -/

/-- DOOR_SET makes the checks of R8 in order; otherwise the door has its new configuration and warm-restart values, its
warn entry is gone, both trunks and both zones are evaluated again, and nothing else changes (R3, R8, R9, R111, R143).
DOOR_CLEAR is refused with SWEEP or STATE, leaves an unconfigured door as it stands, and otherwise gives the record its
cold-reset values, removes its warn entry, and evaluates its trunk and zone again (R2, R10, R111). In both the time
since the last frame for the door, 200 ms or more, is the model's choice (log 7). The premises hold in every state a run
reaches: a trunk is OFF exactly while it has no configured door, and has no waiting entry then. A restarted second is
past, as with every request (the model's choice, log 19). -/
def Obligations.DoorSetAndDoorClear : Prop :=
  (∀ (s : State) (door trunk address zone rank cls flags : Byte),
    s.OffLaw → (∀ u, (s.trunk u).mode = .off → (s.trunk u).queue = []) →
    let d : DoorNo := door.toFin
    let old := s.door d
    let cmd := Instr.doorSet door trunk address zone rank cls flags
    ((3 < trunk.toNat ∨ address.toNat = 0 ∨ 64 < address.toNat ∨ 31 < zone.toNat ∨ 7 < cls.toNat) →
      exec cmd s = .next (s.refusedAs .range)) ∧
    ∀ (u : Trunk) (z : ZoneNo) (c : ClassNo), trunkByte u = trunk → z.val = zone.toNat → c.val = cls.toNat →
      1 ≤ address.toNat → address.toNat ≤ 64 → ∃ t, exec cmd s = .next t ∧
      if ∃ e, e ≠ d ∧ (s.door e).configured = true ∧ (s.door e).trunk = u ∧ (s.door e).address = address.toNat then
        t = s.refusedAs .conflict
      else if old.sweep ≠ none then t = s.refusedAs .sweep
      else if old.state = .waiting ∨ old.state = .acting then t = s.refusedAs .state
      else
        let gone := decide (old.configured = true ∧ old.trunk ≠ u ∧
          ∀ e, e ≠ d → (s.door e).configured = true → (s.door e).trunk ≠ old.trunk)
        t = { s.later with
          doors := s.doors.set d.val { Door.cold with
            configured := true, trunk := u, address := address.toNat, zone := z, rank := rank.toNat, cls := c
            fire := flags.getLsbD 0, exit := flags.getLsbD 1, chime := flags.getLsbD 2
            intent := if flags.getLsbD 0 = true ∧ s.fire ≠ .normal then .release else .none }
          zones := t.zones, trunks := t.trunks, blockResult := some ⟨.ok, []⟩ } ∧
        (∀ y, t.zone y = { s.zone y with
          state := if y = z ∨ (old.configured = true ∧ y = old.zone) then t.deriveZone y else (s.zone y).state }) ∧
        (∀ v, t.trunk v =
          let x := s.trunk v
          let x := if old.configured = true ∧ old.trunk = v then
            { x with warnList := x.warnList.filter (fun e => decide (e.door ≠ d)) } else x
          let x := if gone = true ∧ old.trunk = v then
            { x with mode := .off, urgentPoll := none, failures := 0 } else x
          if v = u ∧ x.mode = .off then
            { x with mode := .running, failures := 0, patrolCursor := 1, sincePatrol := none, sinceWindow := 0 }
          else x)) ∧
  ∀ (s : State) (door : Byte), s.OffLaw →
    let d : DoorNo := door.toFin
    let old := s.door d
    ∃ t, exec (.doorClear door) s = .next t ∧
      if old.sweep ≠ none then t = s.refusedAs .sweep
      else if old.state = .waiting ∨ old.state = .acting then t = s.refusedAs .state
      else if old.configured = false then t = s.answeredOk []
      else
        let last := decide (∀ e, e ≠ d → (s.door e).configured = true → (s.door e).trunk ≠ old.trunk)
        t = { s.later with
          doors := s.doors.set d.val Door.cold, zones := t.zones, trunks := t.trunks, blockResult := some ⟨.ok, []⟩ } ∧
        (∀ y, t.zone y = { s.zone y with
          state := if y = old.zone then t.deriveZone y else (s.zone y).state }) ∧
        (∀ v, t.trunk v =
          let x := s.trunk v
          let x := if v = old.trunk then
            { x with warnList := x.warnList.filter (fun e => decide (e.door ≠ d)) } else x
          if v = old.trunk ∧ last = true then { x with mode := .off, urgentPoll := none, failures := 0 } else x)

/-- DOOR_ACT makes the checks of R29 in order, then sets the intent and acts by the table of R30: the door stands, or an
AJAR door with its bolt withdrawn becomes RELEASED, or a placement is made and the door is WAITING or ACTING after it. A
restarted second is past, as with every request (the model's choice, log 19). -/
def Obligations.DoorActChecksThenTable : Prop :=
  ∀ (s : State) (door : Byte) (dir : Direction),
    (∀ b : Byte, b.toNat ≠ 1 → b.toNat ≠ 2 → exec (.doorAct door b) s = .next (s.refusedAs .range)) ∧
    let d : DoorNo := door.toFin
    let x := s.door d
    let wanted : Door := { x with intent := (match dir with | .lock => .lock | .release => .release), keepOpen := false }
    ∃ t, exec (.doorAct door (match dir with | .lock => 1 | .release => 2)) s = .next t ∧
      if x.configured = false then t = s.refusedAs .range
      else if x.sweep ≠ none then t = s.refusedAs .sweep
      else if dir = .lock ∧ x.fire = true ∧ s.fire ≠ .normal then t = s.refusedAs .fire
      else if dir = .lock ∧ ∃ h ∈ s.holds, h.covers d x = true then t = s.refusedAs .held
      else match actTable dir x with
        | .stands => t = { s.later with doors := s.doors.set d.val wanted, blockResult := some ⟨.ok, []⟩ }
        | .becomesReleased =>
          t = { s.later with
            doors := s.doors.set d.val { wanted with
              state := .released, passage := none, allowance := none, reminder := none }
            zones := s.zones.set x.zone.val { s.zone x.zone with state := t.deriveZone x.zone }
            blockResult := some ⟨.ok, []⟩ }
        | .placed =>
          t.blockResult = some ⟨.ok, []⟩ ∧ t.slots = s.slots ∧ t.noticeSet = s.noticeSet ∧ s.later.SameAround t ∧
          (t.door d).intent = wanted.intent ∧ (t.door d).keepOpen = false ∧ (t.door d).health = x.health ∧
          ((t.door d).state = .waiting ∨ (t.door d).state = .acting) ∧
          (x.state = .acting → (t.door d).state = .acting)

/-- A ROUTINE placement of a door that has no work joins the tail of its trunk's queue and makes the door WAITING with
attempts 0 and no timers; on a RUNNING trunk that does not rest, with an empty queue and free units for its charge, it
is granted at once: an in-flight record holds the charge and the door is ACTING (R5, R83, R86, R89, R90). Every
placement by the state of its door: one toward LOCK for a held or fire-locked-out door is not made; for a WAITING door
it is a replacement, the entry turning in its place, or moving to the tail of the URGENT entries when it is raised, with
attempts 0; for an ACTING door the drive is not touched, and an URGENT placement of its direction raises its record; any
other door gets an entry at the tail of its class and is WAITING with attempts 0 and no timers, its zone derived again
and an ajar count of a LOCK sweep moved to pending. Outside a sweep's walk the arbiter is then considered (R5, R7, R31,
R32, R68, R86, R87, R89). -/
def Obligations.PlacementsJoinReplaceOrRaise : Prop :=
  (∀ (s : State) (d : DoorNo) (dir : Direction),
    let x := s.door d
    let u := x.trunk
    let q := (s.trunk u).queue
    let cost := match dir with
      | .lock => (s.lockClass x.cls).lockCost
      | .release => (s.lockClass x.cls).releaseCost
    let charge := min cost (s.trunk u).budget
    x.configured = true → x.sweep = none → x.state ≠ .waiting → x.state ≠ .acting → actTable dir x = .placed →
    (dir = .lock → s.held d = false ∧ ¬ (x.fire = true ∧ s.fire ≠ .normal)) →
    ∃ t, exec (.doorAct (BitVec.ofFin d) (match dir with | .lock => 1 | .release => 2)) s = .next t ∧
      let placed : Door := { x with
        intent := (match dir with | .lock => .lock | .release => .release), keepOpen := false, attempts := 0
        passage := none, allowance := none, reminder := none }
      ((s.trunk u).mode ≠ .running ∨ (q = [] ∧ ((s.trunk u).restRemaining ≠ none ∨ (s.trunk u).freeUnits < charge)) →
        t.door d = { placed with state := .waiting } ∧
        t.trunk u = { s.trunk u with
          queue := q.filter (fun e => decide (e.cls = .urgent)) ++
            (q.filter (fun e => decide (e.cls = .routine)) ++ [⟨d, dir, .routine⟩]) }) ∧
      ((s.trunk u).mode = .running → q = [] → (s.trunk u).restRemaining = none → charge ≤ (s.trunk u).freeUnits →
        t.door d = { placed with state := .acting } ∧
        t.trunk u = { s.trunk u with
          queue := [], inFlight := (s.trunk u).inFlight ++ [⟨d, dir, .routine, charge, .granted⟩]
          freeUnits := (s.trunk u).freeUnits - charge, runCount := 0
          restRemaining := if (s.trunk u).runLength ≤ (s.trunk u).runCount + 1 ∧ (s.trunk u).restInterval ≠ 0 then
            some (s.trunk u).restInterval else none })) ∧
  ∀ (s : State) (d : DoorNo) (dir : Direction) (cls : QueueClass),
    let x := s.door d
    let u := x.trunk
    let q := (s.trunk u).queue
    let others := fun c : QueueClass => q.filter (fun e => decide (e.door ≠ d ∧ e.cls = c))
    let part := fun c : QueueClass => q.filter (fun e => decide (e.cls = c))
    let blocked := decide (dir = .lock ∧ (s.held d = true ∨ (x.fire = true ∧ s.fire ≠ .normal)))
    let t := s.place true d dir cls
    (blocked = true → t = s) ∧
    (blocked = false →
      (∀ e, s.entry d = some e → x.state = .waiting →
        t = (s.setTrunk u { s.trunk u with
          queue := if cls = .urgent ∧ e.cls = .routine then others .urgent ++ ⟨d, dir, .urgent⟩ :: others .routine
            else q.map (fun e => if e.door = d then { e with direction := dir } else e) }).setDoor d
              { x with attempts := 0 }) ∧
      (x.state = .acting → s.recordsOf u d = 1 →
        t = s.setTrunk u { s.trunk u with
          inFlight := (s.trunk u).inFlight.map (fun r =>
            if r.door = d ∧ cls = .urgent ∧ r.direction = dir then { r with cls := .urgent } else r) }) ∧
      (x.state ≠ .waiting → x.state ≠ .acting →
        t = { s with
          doors := s.doors.set d.val (t.door d)
          trunks := s.trunks.set (trunkIdx u).val { s.trunk u with
            queue := match cls with
              | .urgent => part .urgent ++ ⟨d, dir, .urgent⟩ :: part .routine
              | .routine => part .urgent ++ (part .routine ++ [⟨d, dir, .routine⟩]) }
          zones := s.zones.set x.zone.val { s.zone x.zone with state := t.deriveZone x.zone }
          slots := t.slots } ∧
        t.door d = { x with
          state := .waiting, attempts := 0, passage := none, allowance := none, reminder := none
          sweep := (t.door d).sweep } ∧
        (x.sweep = none → (t.door d).sweep = none ∧ t.slots = s.slots) ∧
        (∀ l, x.sweep = some l → ∀ w, s.slot l.slot = some w →
          let moves := decide (w.direction = .lock ∧ l.count = .ajar)
          (t.door d).sweep = some ⟨l.slot, if moves then .pending else l.count⟩ ∧
          t.slots = s.slots.set l.slot.val (some { w with counts := if moves then
            { w.counts with ajar := w.counts.ajar - 1, pending := w.counts.pending + 1 } else w.counts })))) ∧
    s.place false d dir cls = if blocked = true ∨ x.state = .acting then t else t.consider u

/-- The arbiter of a trunk, when considered, grants the head entry while the trunk is RUNNING, its charge (the cost of
its class, reduced to the budget) is free, and the trunk does not rest or the entry is URGENT, and then looks at the
next head; otherwise nothing is granted. A grant moves the entry into an in-flight record that holds the charge and
makes the door ACTING. A ROUTINE grant counts in the run and at the run length begins a rest, which an interval of 0
ends at once; an empty queue has run count 0 (R83, R87, R89, R90). -/
def Obligations.ArbiterGrantsTheHead : Prop :=
  ∀ (s : State) (u : Trunk),
    let x := s.trunk u
    s.consider u = match x.queue with
      | [] => s
      | e :: l =>
        let k := s.lockClass (s.door e.door).cls
        let charge := min (match e.direction with | .lock => k.lockCost | .release => k.releaseCost) x.budget
        let runFull := decide (e.cls = .routine ∧ x.runLength ≤ x.runCount + 1)
        if x.mode = .running ∧ charge ≤ x.freeUnits ∧ (x.restRemaining = none ∨ e.cls = .urgent) then
          ((s.setTrunk u { x with
            queue := l, inFlight := x.inFlight ++ [⟨e.door, e.direction, e.cls, charge, .granted⟩]
            freeUnits := x.freeUnits - charge
            runCount := if l = [] ∨ runFull = true then 0 else if e.cls = .routine then x.runCount + 1 else x.runCount
            restRemaining := if runFull = true ∧ x.restInterval ≠ 0 then some x.restInterval
              else x.restRemaining }).changeState e.door .acting).consider u
        else s

/-! ### Sweeps -/

/-- SWEEP is refused with RANGE for an empty set or another direction, and with FIRE for a LOCK of a fire-barred zone;
otherwise each named zone is in exactly one of the four sets of the reply, and no other zone is in any (R80). For one
zone: a sweep of the zone in that direction makes it ignored and nothing changes; with every slot taken by other zones
its marker is recorded and SWEEP_WAITING raised; and a LOCK of a zone with a warning lead starts in WARNING in the
lowest free slot with a WARN entry for each chime door that is not held (R55, R56, R58, R62, R63). Several zones are one
set of givings, taken in ascending (zone rank, zone number): a SWEEP of them is that of the lowest and then that of the
rest, the four sets of the reply joined, and so is every set of givings, whatever its origin; so the free slots go,
lowest first, to the zones of lowest (rank, number), and the others wait (R56, R57). A restarted second is past, as with
every request (the model's choice, log 19). -/
def Obligations.SweepRequestTakesEachZone : Prop :=
  (∀ (s : State) (zones : ZoneSet) (direction : Byte), ∃ t, exec (.sweep zones direction) s = .next t ∧
    if zones = 0 ∨ (direction.toNat ≠ 1 ∧ direction.toNat ≠ 2) then t = s.refusedAs .range
    else if direction.toNat = 1 ∧ ∃ z : ZoneNo, zones.getLsbD z.val = true ∧ s.Barred z then t = s.refusedAs .fire
    else ∃ a b c e : ZoneSet,
      t.blockResult = some ⟨.ok, zoneSetBytes a ++ zoneSetBytes b ++ zoneSetBytes c ++ zoneSetBytes e⟩ ∧
      a ||| b ||| c ||| e = zones ∧ a &&& b = 0 ∧ a &&& c = 0 ∧ a &&& e = 0 ∧ b &&& c = 0 ∧ b &&& e = 0 ∧ c &&& e = 0 ∧
      s.later.SameAround t) ∧
  (∀ (s : State) (z : ZoneNo) (dir : Direction), s.SweepLaw → (dir = .lock → ¬ s.Barred z) →
    let cmd := Instr.sweep (oneZone z) (match dir with | .lock => 1 | .release => 2)
    (∀ k w, s.slot k = some w → w.zone = z → w.direction = dir →
      exec cmd s = .next (s.answeredOk (List.replicate 12 0 ++ zoneSetBytes (oneZone z)))) ∧
    (¬ s.HasSweep z → (∀ k, s.slot k ≠ none) →
      exec cmd s = .next { s.later with
        zones := s.zones.set z.val { s.zone z with marker := some ⟨dir, .link⟩ }
        noticeSet := s.noticeSet.raise s.clock.stamp .sweepWaiting (.zone z) (.sweepWaiting dir .link
          ((List.finRange 32).filter (fun y => decide (y = z) || (s.zone y).marker.isSome)).length)
        blockResult := some ⟨.ok, List.replicate 8 0 ++ zoneSetBytes (oneZone z) ++ List.replicate 4 0⟩ }) ∧
    (∀ k, ¬ s.HasSweep z → s.slot k = none → (∀ j, j < k → s.slot j ≠ none) → dir = .lock → (s.zone z).lead ≠ 0 →
      ∃ t, exec cmd s = .next t ∧
        t.blockResult = some ⟨.ok, zoneSetBytes (oneZone z) ++ List.replicate 12 0⟩ ∧
        t.slots = s.slots.set k.val (some ⟨z, .lock, .link, .warning ⟨(s.zone z).lead, false⟩, 0, ⟨0, 0, 0, 0, 0, 0⟩⟩) ∧
        t.zones = s.zones.set z.val { s.zone z with marker := none, state := .warning } ∧
        t.doors = s.doors ∧ t.noticeSet = s.noticeSet ∧ s.later.SameAround t ∧
        (∀ u, t.trunk u = { s.trunk u with warnList := (t.trunk u).warnList }) ∧
        (∀ d, (s.door d).configured = true → (s.door d).zone = z → (s.door d).chime = true → s.held d = false →
          ⟨d, (s.zone z).chime, (s.zone z).lead⟩ ∈ (t.trunk (s.door d).trunk).warnList) ∧
        (∀ u, ∀ e ∈ (t.trunk u).warnList, e ∈ (s.trunk u).warnList ∨
          (e.pattern = (s.zone z).chime ∧ e.minutes = (s.zone z).lead ∧ (s.door e.door).zone = z)))) ∧
  (∀ (s : State) (zones : ZoneSet) (dir : Direction) (z : ZoneNo), zones.getLsbD z.val = true →
    (∀ y : ZoneNo, zones.getLsbD y.val = true → y ≠ z → s.zoneBefore z y) →
    (dir = .lock → ∀ y : ZoneNo, zones.getLsbD y.val = true → ¬ s.Barred y) →
    let cmd := fun set => Instr.sweep set (match dir with | .lock => 1 | .release => 2)
    let reply := fun a b c e : ZoneSet =>
      some (⟨.ok, zoneSetBytes a ++ zoneSetBytes b ++ zoneSetBytes c ++ zoneSetBytes e⟩ : Answer)
    let rest := zones &&& ~~~oneZone z
    rest ≠ 0 → ∃ (t₁ t₂ : State) (a b c e a' b' c' e' : ZoneSet),
      exec (cmd (oneZone z)) s = .next t₁ ∧ t₁.blockResult = reply a b c e ∧
      exec (cmd rest) t₁ = .next t₂ ∧ t₂.blockResult = reply a' b' c' e' ∧
      exec (cmd zones) s = .next { t₂ with blockResult := reply (a ||| a') (b ||| b') (c ||| c') (e ||| e') }) ∧
  (∀ (s : State) (o : Origin) (l : List (ZoneNo × Direction)) (z : ZoneNo) (dir : Direction), (z, dir) ∈ l →
    (l.map Prod.fst).Pairwise (· < ·) → (∀ g ∈ l, g.1 ≠ z → s.zoneBefore z g.1) →
    (s.giveSet o l).1 = ((s.give z dir o).1.giveSet o (l.filter (fun g => decide (g.1 ≠ z)))).1) ∧
  ∀ (s : State) (zones : ZoneSet), zones ≠ 0 →
    (∀ z : ZoneNo, zones.getLsbD z.val = true → (s.zone z).lead ≠ 0 ∧ ¬ s.Barred z ∧ ¬ s.HasSweep z) →
    let named := (List.finRange 32).filter (fun z => zones.getLsbD z.val)
    let free := (List.finRange 8).filter (fun k => decide (s.slot k = none))
    let slotFor := fun z => free[(named.filter (fun y => decide (s.zoneBefore y z))).length]?
    ∃ t, exec (.sweep zones 1) s = .next t ∧
      t.blockResult = some ⟨.ok, zoneSetBytes (zoneSetOf (named.filter (fun z => (slotFor z).isSome))) ++
        List.replicate 4 0 ++ zoneSetBytes (zoneSetOf (named.filter (fun z => (slotFor z).isNone))) ++
        List.replicate 4 0⟩ ∧
      (∀ k, s.slot k ≠ none → t.slot k = s.slot k) ∧
      ∀ z : ZoneNo, zones.getLsbD z.val = true → match slotFor z with
        | some k => (t.zone z).marker = none ∧
            t.slot k = some ⟨z, .lock, .link, .warning ⟨(s.zone z).lead, false⟩, 0, ⟨0, 0, 0, 0, 0, 0⟩⟩
        | none => (t.zone z).marker = some ⟨.lock, .link⟩ ∧ ¬ t.HasSweep z

/-- A giving of the opposite direction reverses a zone: the running sweep is cancelled with its SWEEP_DONE, its doors
are unlinked, its direction is the zone's last, and the new sweep starts in the same slot, which is not offered; no
other slot changes. Toward LOCK under a warning lead it stands in WARNING, every zone keeps its marker, and no door it
did not link changes, but for one that is granted meanwhile. Toward RELEASE, and toward LOCK without a lead, the zone is
walked from the state that a CANCEL of it leaves when no zone waits; while the new sweep has a pending door every zone
keeps its marker and no further notice comes, and when it has none it finishes and only then is the slot offered. With
no zone waiting and no lower slot free, a reversal is a CANCEL of the zone followed by the SWEEP, the reply apart (R56,
R59, R60, R62, R65, R73, R76, R80). -/
def Obligations.OppositeGivingReversesTheZone : Prop :=
  ∀ (s : State) (k : SlotNo) (w : Sweep), s.slot k = some w → s.SweepLaw →
    let z := w.zone
    let dir : Direction := match w.direction with | .lock => .release | .release => .lock
    let way : Byte := match w.direction with | .lock => 2 | .release => 1
    (dir = .lock → ¬ s.Barred z) →
    ∃ t, exec (.sweep (oneZone z) way) s = .next t ∧
      t.blockResult = some ⟨.ok, List.replicate 4 0 ++ zoneSetBytes (oneZone z) ++ List.replicate 8 0⟩ ∧
      (∀ j, j ≠ k → t.slot j = s.slot j) ∧
      (dir = .release ∨ (s.zone z).lead = 0 → ∃ c,
        exec (.cancel (oneZone z)) { s with zones := s.zones.map (fun x => { x with marker := none }) } = .next c ∧
        (c.zone z).last = some w.direction ∧
        c.noticeSet.Tells s.clock.stamp .sweepDone (.zone z) (.sweepDone w.direction w.origin true w.total w.counts) ∧
        (w.phase = .active → ∀ d, (c.door d).sweep.map SweepLink.slot ≠ some k) ∧
        c.WalkedTo t z dir .link k ∧
        if (c.walkCounts z dir).pending = 0 then t.slot k = none → ∀ y, (t.zone y).marker = none
        else t.noticeSet = c.noticeSet ∧ (t.zone z).last = some w.direction ∧
          ∀ y, (t.zone y).marker = (s.zone y).marker) ∧
      (dir = .lock → (s.zone z).lead ≠ 0 →
        t.slots = s.slots.set k.val (some ⟨z, .lock, .link, .warning ⟨(s.zone z).lead, false⟩, 0,
          ⟨0, 0, 0, 0, 0, 0⟩⟩) ∧
        (t.zone z).last = some w.direction ∧ (t.zone z).state = .warning ∧
        (∀ y, (t.zone y).marker = (s.zone y).marker) ∧
        (∀ d, t.door d = s.door d ∨ (s.door d).sweep.map SweepLink.slot = some k ∨ t.door d = { s.door d with
          state := .acting, passage := none, allowance := none, reminder := none }) ∧
        (∀ d, w.phase = .active → (s.door d).configured = true → (s.door d).sweep.map SweepLink.slot = some k →
          (t.door d).sweep = none) ∧
        t.noticeSet.Tells s.clock.stamp .sweepDone (.zone z) (.sweepDone w.direction w.origin true w.total w.counts)) ∧
      ((∀ y, (s.zone y).marker = none) → (∀ j, j < k → s.slot j ≠ none) →
        ∃ c, exec (.cancel (oneZone z)) s = .next c ∧ exec (.sweep (oneZone z) way) c = .next { t with
          blockResult := some ⟨.ok, zoneSetBytes (oneZone z) ++ List.replicate 12 0⟩ })

/-- A SWEEP of one zone that starts in ACTIVE walks the zone: intents, counts, links and total by the tables of R66 and
R67; every door that is counted pending is placed in the sweep's direction, with an entry of its own, its WAITING entry
turned, or its drive running on, in the order of (door rank, door number), and the arbiters are considered once
(`WalkedTo`); and the finish at once when no door is pending, with the load of an AFTER_SWEEP group while no other zone
waits for the slot (R31, R32, R43, R54, R65 to R67, R73, R74, R89). -/
def Obligations.SweepWalkCountsEachDoor : Prop :=
  ∀ (s : State) (z : ZoneNo) (dir : Direction) (k : SlotNo), (dir = .lock → ¬ s.Barred z ∧ (s.zone z).lead = 0) →
    ¬ s.HasSweep z → s.slot k = none → (∀ j, j < k → s.slot j ≠ none) →
    ∃ t, exec (.sweep (oneZone z) (match dir with | .lock => 1 | .release => 2)) s = .next t ∧
      s.WalkedTo t z dir .link k ∧
      ((s.walkCounts z dir).pending = 0 → (∀ y, y ≠ z → (s.zone y).marker = none) →
        s.LoadedAfter t (fun y => y = z))

/-- A change of a linked door's state moves its count by the tables of R68 and R69, one count down and the other up; a
change the tables do not name leaves the count. -/
def Obligations.StateChangeMovesCount : Prop :=
  ∀ (s : State) (d : DoorNo) (st : DoorState) (l : SweepLink) (w : Sweep),
    (s.door d).sweep = some l → s.slot l.slot = some w → (s.door d).state ≠ st →
    let new := countTable w.direction l.count st
    ((s.changeState d st).door d).sweep = some ⟨l.slot, new⟩ ∧ ((s.changeState d st).door d).state = st ∧
    ∃ v, (s.changeState d st).slot l.slot = some v ∧ v.total = w.total ∧
      ∀ c, v.counts.get c = w.counts.get c - (if new ≠ l.count ∧ c = l.count then 1 else 0) +
        (if new ≠ l.count ∧ c = new then 1 else 0)

/-- A good report that shows the drive of a pending door done counts the door done. If another door is pending the sweep
goes on; if none is, it finishes: every door it linked is unlinked, those counted unreachable are left unreached (the
model's mark for R75, log 23), its direction is the zone's last, SWEEP_DONE tells its counts, and its slot is free when
no zone waits (R68, R69, R73 to R75, R92). The finish in a zone that leads itself under AFTER_SWEEP gives each member of
its group with load pending its staged plan; in any other zone it changes no plan, and nor does a sweep that goes on
(R42, R43, R74). A freed slot is offered to the waiting zone of the lowest (rank, number): a LOCK marker of a
fire-barred zone is dropped and the next zone is taken; otherwise the zone's marker is gone and its sweep is in the
slot, in WARNING under a lead that its origin does not skip, or walked at once; with no zone waiting the slot stays free
(R59, R62). -/
def Obligations.SweepFinishesAndItsSlotIsOffered : Prop :=
  (∀ (s : State) (u : Trunk) (reply : LineReply) (f : LineFrame) (rep : Report) (r : Record) (w : Sweep) (k : SlotNo)
      (n : Nat),
    let d := f.door
    let x := s.door d
    s.WorkLaw → s.CountLaw → s.SweepLaw → (∀ z, (s.zone z).marker = none) →
    (s.trunk u).line = .frame f false → judge reply = .good rep → x.configured = true → x.trunk = u →
    x.address = f.address → x.health = .heard → (s.trunk u).mode = .running → x.state = .acting →
    s.record d = some r → r.phase = .driving n → r.direction.intent = x.intent → x.sweep = some ⟨k, .pending⟩ →
    s.slot k = some w → w.direction = r.direction → rep.fault = false →
    (match r.direction with
      | .lock => rep.bolt = .thrown ∧ rep.position = .closed
      | .release => rep.bolt = .withdrawn) →
    ∃ t, exec (.frameOutcome u reply) s = .next t ∧
      let counts := { w.counts with pending := w.counts.pending - 1, done := w.counts.done + 1 }
      (t.door d).state = (match r.direction with | .lock => .secured | .release => .released) ∧
      (t.door d).attempts = 0 ∧
      if w.counts.pending = 1 then
        t.slots = s.slots.set k.val none ∧ (t.zone w.zone).last = some w.direction ∧
        (∀ e, if (s.door e).sweep.map SweepLink.slot = some k then (t.door e).sweep = none ∧
            (t.door e).unreached = decide ((s.door e).sweep = some ⟨k, .unreachable⟩)
          else (t.door e).sweep = (s.door e).sweep ∧ (t.door e).unreached = (s.door e).unreached) ∧
        t.noticeSet = s.noticeSet.raise s.clock.stamp .sweepDone (.zone w.zone)
          (.sweepDone w.direction w.origin false w.total counts) ∧
        s.LoadedAfter t (fun y => y = w.zone)
      else
        t.slots = s.slots.set k.val (some { w with counts := counts }) ∧ (t.door d).sweep = some ⟨k, .done⟩ ∧
        t.noticeSet = s.noticeSet ∧ s.LoadedAfter t (fun _ => False)) ∧
  ∀ (s : State) (k : SlotNo), s.slot k = none →
    ((∀ z, (s.zone z).marker = none) → s.offer k = s) ∧
    ∀ (z : ZoneNo) (m : Marker), (s.zone z).marker = some m →
      (∀ y, (s.zone y).marker ≠ none → (s.zone z).rank < (s.zone y).rank ∨ ((s.zone z).rank = (s.zone y).rank ∧ z ≤ y)) →
      let t := s.offer k
      if m.direction = .lock ∧ s.Barred z then t = (s.setZone z { s.zone z with marker := none }).offer k
      else ¬ s.HasSweep z →
        (t.zone z).marker = none ∧
        if m.direction = .lock ∧ (s.zone z).lead ≠ 0 ∧ m.origin ≠ .trailing ∧ m.origin ≠ .restore then
          t.slots = s.slots.set k.val (some ⟨z, .lock, m.origin, .warning ⟨(s.zone z).lead, false⟩, 0,
            ⟨0, 0, 0, 0, 0, 0⟩⟩) ∧
          (t.zone z).state = (if s.Barred z then .fire else .warning) ∧ t.doors = s.doors ∧
          (∀ y, y ≠ z → t.zone y = s.zone y) ∧
          ∀ d, s.IsDoorOf z d → (s.door d).chime = true → s.held d = false →
            ⟨d, (s.zone z).chime, (s.zone z).lead⟩ ∈ (t.trunk (s.door d).trunk).warnList
        else s.WalkedTo t z m.direction m.origin k

/-- CANCEL is refused with RANGE for an empty set. Otherwise it answers with the zones whose markers it cleared and the
zones whose sweeps it cancelled; no named zone holds a marker or a sweep after it, each cancelled direction is written,
and SWEEP_DONE with the cancelled flag tells each sweep's counts; with no sweep to cancel nothing else changes (R76,
R79). When no zone waits, each cancelled zone that leads itself under AFTER_SWEEP gives each member of its group with
load pending its staged plan, and no other plan changes (R42, R43, R79). When no zone waits for the slot of a cancelled
sweep: a warning sends each chime door that is not held a WARN entry of 0 minutes and touches no door (R77); a sweep in
ACTIVE unlinks every door it linked; a door with the keep-open mark or counted held keeps its intent and its work (an
entry may be granted meanwhile); every other has intent NONE: a WAITING one loses its entry and is re-stated (or was
granted before its turn came, on a RUNNING trunk), an AJAR one is RELEASED without its reminder, and any other keeps its
state (R78, R89). A restarted second is past, as with every request (the model's choice, log 19). -/
def Obligations.CancelWithdrawsMarkersAndSweeps : Prop :=
  (∀ (s : State) (zones : ZoneSet), s.SweepLaw → ∃ t, exec (.cancel zones) s = .next t ∧
    if zones = 0 then t = s.refusedAs .range
    else
      let named := (List.finRange 32).filter (fun z => zones.getLsbD z.val)
      let swept := fun z => (List.finRange 8).any (fun k => (s.slot k).any (fun w => decide (w.zone = z)))
      t.blockResult = some ⟨.ok, zoneSetBytes (zoneSetOf (named.filter (fun z => (s.zone z).marker.isSome))) ++
        zoneSetBytes (zoneSetOf (named.filter swept))⟩ ∧
      (∀ z : ZoneNo, zones.getLsbD z.val = true → (t.zone z).marker = none ∧ ¬ t.HasSweep z) ∧
      (∀ k w, s.slot k = some w → zones.getLsbD w.zone.val = true → (t.zone w.zone).last = some w.direction) ∧
      (∀ k w, s.slot k = some w → zones.getLsbD w.zone.val = true → t.noticeSet.Tells s.clock.stamp .sweepDone
        (.zone w.zone) (.sweepDone w.direction w.origin true w.total w.counts)) ∧
      s.later.SameAround t ∧
      ((∀ z, (s.zone z).marker = none) → s.LoadedAfter t (fun z => zones.getLsbD z.val = true ∧ s.HasSweep z)) ∧
      ((∀ z : ZoneNo, zones.getLsbD z.val = true → ¬ s.HasSweep z) →
        t = { s.later with zones := t.zones, blockResult := t.blockResult } ∧
        ∀ z : ZoneNo, t.zone z = if zones.getLsbD z.val then { s.zone z with marker := none } else s.zone z)) ∧
  ∀ (s : State) (k : SlotNo) (w : Sweep), s.slot k = some w → s.SweepLaw → s.CountLaw → s.WorkLaw →
    (∀ y, (s.zone y).marker = none) →
    ∃ t, exec (.cancel (oneZone w.zone)) s = .next t ∧ t.slots = s.slots.set k.val none ∧
      (∀ n, w.phase = .warning n → t.doors = s.doors ∧
        ∀ d, s.IsDoorOf w.zone d → (s.door d).chime = true → s.held d = false →
          ⟨d, (s.zone w.zone).chime, 0⟩ ∈ (t.trunk (s.door d).trunk).warnList) ∧
      ∀ d l, (s.door d).sweep = some l → l.slot = k →
        let x := s.door d
        let y := t.door d
        y.sweep = none ∧ y.health = x.health ∧ y.position = x.position ∧ y.bolt = x.bolt ∧
        if x.keepOpen = true ∨ l.count = .held then
          y.intent = x.intent ∧ y.keepOpen = x.keepOpen ∧ y.attempts = x.attempts ∧
          (y.state = x.state ∨ (x.state = .waiting ∧ y.state = .acting))
        else
          y.intent = .none ∧ y.keepOpen = false ∧ y.attempts = x.attempts ∧
          match x.state with
          | .waiting => (y.state = restatedState x.bolt x.position ∧ t.entry d = none) ∨
              ((s.trunk x.trunk).mode = .running ∧ y.state = .acting ∧ t.entry d = none)
          | .ajar => y.state = .released ∧ y.reminder = none
          | .acting => y.state = .acting ∧ t.record d = s.record d
          | st => y.state = st

/-- The end of a warning takes its sweep to ACTIVE, with the walk of its zone, or cancels it when the zone is
fire-barred: each chime door that is not held has a WARN entry of 0 minutes, SWEEP_DONE is told with the cancelled flag,
the direction is the zone's last, and its group is loaded under AFTER_SWEEP (R43, R64, R65, R77, R79). With no warning
in the slot whose last minute is over nothing changes (the model's choice, logs 3 and 4). -/
def Obligations.WarningEndEntersActiveOrCancels : Prop :=
  ∀ (s : State) (k : SlotNo), s.SweepLaw → ∃ t, exec (.warningEnd k) s = .next t ∧
    match s.slot k with
    | none => t = s
    | some w =>
      if w.warningEnds = false then t = s
      else s.SameAround t ∧
        if s.Barred w.zone then
          ¬ t.HasSweep w.zone ∧ (t.zone w.zone).last = some w.direction ∧
          t.noticeSet.Tells s.clock.stamp .sweepDone (.zone w.zone)
            (.sweepDone w.direction w.origin true w.total w.counts) ∧
          ((∀ y, (s.zone y).marker = none) → t.slots = s.slots.set k.val none ∧
            s.LoadedAfter t (fun y => y = w.zone) ∧
            ∀ d, s.IsDoorOf w.zone d → (s.door d).chime = true → s.held d = false →
              ⟨d, (s.zone w.zone).chime, 0⟩ ∈ (t.trunk (s.door d).trunk).warnList)
        else s.WalkedTo t w.zone w.direction w.origin k

/-! ### Holds -/

/-- HOLD_ADD makes the checks of R123 in order; otherwise a hold with the next free id joins the end of the list and
begins: a KEEP_OPEN hold turns every covered door's intent to RELEASE with the keep-open mark; with no sweep in the
table, a WAITING door with a LOCK entry that a DEFER hold covers leaves the queue with intent NONE and is re-stated, or
on a RUNNING trunk was granted before its turn came and is driven without the intent (R89, R121, R122, R123, R125,
R126). A restarted second is past, as with every request (the model's choice, log 19). -/
def Obligations.HoldAddMakesAHold : Prop :=
  ∀ (s : State) (kind form : Byte) (value : ZoneSet) (minutes : Word16),
    ∃ t, exec (.holdAdd kind form value minutes) s = .next t ∧
    if 1 < kind.toNat ∨ 1 < form.toNat ∨ (form.toNat = 0 ∧ value = 0) ∨ 1439 < minutes.toNat ∨
        (form.toNat = 1 ∧ ∀ d : DoorNo, d.val = value.toNat → (s.door d).configured = false) then
      t = s.refusedAs .range
    else if 16 ≤ s.holds.length then t = s.refusedAs .full
    else ∃ h ∈ t.holds, t.holds = s.holds ++ [h] ∧ t.lastHoldId = h.id ∧ t.blockResult = some ⟨.ok, [byte h.id]⟩ ∧
      holdKindByte h.kind = kind ∧ h.origin = .link ∧
      h.remaining = (if minutes.toNat = 0 then none else some ⟨minutes.toNat, false⟩) ∧
      (match h.scope with
        | .zones m => form.toNat = 0 ∧ m = value
        | .door d => form.toNat = 1 ∧ d.val = value.toNat) ∧
      1 ≤ h.id ∧ h.id ≤ 255 ∧ (∀ g ∈ s.holds, g.id ≠ h.id) ∧
      (∀ j < 255, (∀ i < j + 1, (s.lastHoldId + i) % 255 + 1 ≠ h.id) →
        ∃ g ∈ s.holds, g.id = (s.lastHoldId + j) % 255 + 1) ∧
      (∀ d, h.covers d (s.door d) = true →
        (h.kind = .keepOpen → (t.door d).intent = .release ∧ (t.door d).keepOpen = true) ∧
        (h.kind = .defer → s.WorkLaw → (∀ k, s.slot k = none) → (s.door d).state = .waiting →
          (s.entry d).any (fun e => decide (e.direction = .lock)) = true →
          (t.door d).intent ≠ .lock ∧ t.entry d = none ∧
          (((t.door d).intent = .none ∧ (t.door d).keepOpen = false ∧
            (t.door d).state = restatedState (s.door d).bolt (s.door d).position) ∨
           ((s.trunk (s.door d).trunk).mode = .running ∧ (t.door d).state = .acting)))) ∧
      t.classes = s.classes ∧ t.inputs = s.inputs ∧ t.fire = s.fire ∧ t.clock = s.later.clock ∧
      t.receiver = s.receiver ∧ t.transmitter = s.transmitter ∧ t.rate = s.rate ∧ t.pending = s.pending

/-- What the beginning of a hold on one door does to it, when no zone waits for a slot. A door linked to an ACTIVE LOCK
sweep is first counted held, and the sweep finishes when that leaves it no pending door (R72, R73, R124). A DEFER hold
takes a WAITING LOCK entry away and re-states the door, and takes the intent LOCK of a LOCK drive, which runs on; a door
AJAR or FORCED has intent NONE and no ajar reminder and is RELEASED when its bolt is withdrawn (also with intent RELEASE
and the keep-open mark, as the table of R125 has it, the model's choice, log 20); every other door stands (R125). A
KEEP_OPEN hold sets intent RELEASE with the mark; a RELEASED door and one that is not heard stand, an AJAR one with its
bolt withdrawn is RELEASED, a drive runs on, and any other door has a RELEASE entry, URGENT when it is fire-locked-out
or was URGENT, or its grant (R126). -/
def Obligations.HoldBeginsOnItsDoor : Prop :=
  ∀ (s : State) (d : DoorNo) (kind : HoldKind) (minutes : Word16), minutes.toNat ≤ 1439 → s.holds.length < 16 →
    s.WorkLaw → s.SweepLaw → s.CountLaw → (∀ z, (s.zone z).marker = none) → (s.door d).configured = true →
    ∃ t, exec (.holdAdd (match kind with | .keepOpen => 0 | .defer => 1) 1 (BitVec.ofNat 32 d.val) minutes) s = .next t ∧
      let x := s.door d
      let y := t.door d
      let lockedOut := decide (x.fire = true ∧ s.fire ≠ .normal)
      let stands : Door := { x with sweep := y.sweep, unreached := y.unreached }
      (x.sweep = none → y.sweep = none ∧ y.unreached = x.unreached ∧ t.slots = s.slots) ∧
      (∀ l, x.sweep = some l → ∀ w, s.slot l.slot = some w → w.direction = .release → 0 < w.counts.pending →
        y.unreached = x.unreached) ∧
      (∀ l, x.sweep = some l → ∀ w, s.slot l.slot = some w → w.direction = .lock →
        let counts := w.counts.move l.count .held
        y.unreached = false ∧
        if counts.pending = 0 then
          y.sweep = none ∧ t.slot l.slot = none ∧ (t.zone x.zone).last = some .lock ∧
          t.noticeSet.Tells s.clock.stamp .sweepDone (.zone x.zone) (.sweepDone .lock w.origin false w.total counts)
        else y.sweep = some ⟨l.slot, .held⟩ ∧ t.slot l.slot = some { w with counts := counts }) ∧
      match kind with
      | .defer =>
        (match x.state with
          | .waiting =>
            if (s.entry d).any (fun e => decide (e.direction = .lock)) = true then
              y = { stands with
                state := restatedState x.bolt x.position, intent := .none, keepOpen := false
                passage := none, allowance := none, reminder := none } ∧ t.entry d = none
            else y = stands
          | .acting =>
            y = (if (s.record d).any (fun r => decide (r.direction = .lock)) = true ∧ x.intent = .lock then
              { stands with intent := .none, keepOpen := false } else stands) ∧ t.record d = s.record d
          | .ajar | .forced => y = { stands with
              intent := .none, keepOpen := false, state := if x.bolt = .withdrawn then .released else x.state
              passage := y.passage, allowance := y.allowance, reminder := none }
          | _ => y = stands)
      | .keepOpen =>
        y.intent = .release ∧ y.keepOpen = true ∧
        if x.state = .released ∨ (x.state = .unknown ∧ x.health ≠ .heard) then
          y = { stands with intent := .release, keepOpen := true }
        else if x.state = .ajar ∧ x.bolt = .withdrawn then y.state = .released ∧ y.reminder = none
        else if x.state = .acting then
          y.state = .acting ∧ t.record d = (s.record d).map (fun r =>
            if lockedOut = true ∧ r.direction = .release then { r with cls := .urgent } else r)
        else y.attempts = 0 ∧ t.hasWork d .release
          (if lockedOut = true ∨ (x.state = .waiting ∧ (s.entry d).any (fun e => decide (e.cls = .urgent)) = true) then
            .urgent else .routine)

/-- HOLD_END ends the hold with an id, or is refused with RANGE; HOLD_COUNTDOWN_END ends a timed hold whose last minute
is over, the holds ahead of it in the list that are as far first, and does nothing else (R127, R131; the model's
choices, logs 3 and 4). The record leaves the list, an input that owned it owns none, no door it alone covered keeps the
keep-open mark, and HOLD_ENDED tells the cause and the doors freed (R128, R129). With the request a restarted second is
past (the model's choice, log 19). -/
def Obligations.HoldEndEndsTheHold : Prop :=
  ∀ (s : State) (id : Byte), (s.holds.map Hold.id).Nodup →
    let ends := fun (t : State) (h : Hold) (cause : HoldCause) =>
      t.holds = s.holds.filter (fun g => decide (g.id ≠ h.id)) ∧
      (∀ i, t.input i = { s.input i with
        owned := if h.origin = .input i ∧ (s.input i).owned = some h.id then none else (s.input i).owned }) ∧
      (∀ d, h.covers d (s.door d) = true → (∀ g ∈ s.holds, g.id ≠ h.id → g.covers d (s.door d) = false) →
        (t.door d).keepOpen = false) ∧
      t.noticeSet.Tells s.clock.stamp .holdEnded (.hold h.id) (.holdEnded h.kind h.scope h.origin cause
        ((List.finRange 256).filter (fun d => h.covers d (s.door d) &&
          !s.holds.any (fun g => decide (g.id ≠ h.id) && g.covers d (s.door d)))).length) ∧
      t.lastHoldId = s.lastHoldId ∧ t.classes = s.classes ∧ t.fire = s.fire ∧
      t.clock = (match cause with | .request => s.later.clock | _ => s.clock) ∧
      t.receiver = s.receiver ∧ t.transmitter = s.transmitter ∧ t.rate = s.rate ∧ t.pending = s.pending
    (∃ t, exec (.holdEnd id) s = .next t ∧
      ((∀ h ∈ s.holds, h.id ≠ id.toNat) → t = s.refusedAs .range) ∧
      (∀ h ∈ s.holds, h.id = id.toNat → t.blockResult = some ⟨.ok, []⟩ ∧ ends t h .request)) ∧
    (∃ t, exec (.holdCountdownEnd id) s = .next t ∧
      ((∀ h ∈ s.holds, h.id = id.toNat → isEnding h.remaining = false) → t = s) ∧
      (∀ h, (s.holds.filter (fun g => isEnding g.remaining)).head? = some h → h.id = id.toNat →
        t.blockResult = s.blockResult ∧ ends t h .countdown)) ∧
    (s.HoldLaw → ∀ g, (s.holds.filter (fun g => isEnding g.remaining)).head? = some g →
      s.holds.any (fun h => isEnding h.remaining && decide (h.id = id.toNat)) = true → g.id ≠ id.toNat →
      exec (.holdCountdownEnd id) s = exec (.holdCountdownEnd id) (s.after [.holdCountdownEnd (byte g.id)]))

/-- What the end of a hold does to a door it alone covers, when no zone waits for a slot. A door counted held in an
ACTIVE LOCK sweep is reclassified: intent LOCK without the mark, and the count of R66. One linked to a RELEASE sweep
loses the mark. An unlinked door with the mark has intent NONE; another is placed toward LOCK when it is RELEASED with
intent LOCK and not fire-locked-out, toward RELEASE when it is SECURED with intent RELEASE, and stands otherwise (R15,
R72, R129). A zone of the scope that is PARTIAL, was last swept LOCK, and has neither a sweep nor a marker is walked by
a TRAILING LOCK; any other is given nothing (R130). -/
def Obligations.FreedDoorsAndTrailingSweeps : Prop :=
  ∀ (s : State) (h : Hold), h ∈ s.holds → s.HoldLaw → s.WorkLaw → s.ZoneLaw → s.SweepLaw → s.CountLaw →
    (∀ z, (s.zone z).marker = none) →
    let u : State := { s with holds := s.holds.filter (fun g => decide (g.id ≠ h.id)) }
    let alone := fun d => h.covers d (s.door d) = true ∧ u.held d = false
    let due := fun z => (s.zone z).state = .partly ∧ (s.zone z).last = some .lock ∧ ¬ s.HasSweep z
    ∃ t, exec (.holdEnd (byte h.id)) s = .next t ∧
      (∀ d, h.scope = .door d → alone d →
        let x := s.door d
        let y := t.door d
        let lockedOut := decide (x.fire = true ∧ s.fire ≠ .normal)
        (∀ l, x.sweep = some l → ∀ w, s.slot l.slot = some w →
          (w.direction = .release → y = { x with keepOpen := false }) ∧
          (w.direction = .lock → l.count = .held →
            y.intent = .lock ∧ y.keepOpen = false ∧
            (w.counts.pending ≠ 0 →
              y.sweep = some ⟨l.slot, u.tableCount .lock d⟩ ∧
              t.slot l.slot = some { w with counts := w.counts.move .held (u.tableCount .lock d) } ∧
              (u.tableCount .lock d = .pending → lockedOut = false → y.state = .waiting ∨ y.state = .acting)))) ∧
        (x.sweep = none → ((s.zone x.zone).last ≠ some .lock ∨ s.HasSweep x.zone) →
          if x.keepOpen = true then y = { x with intent := .none, keepOpen := false }
          else if x.intent = .lock ∧ x.state = .released ∧ lockedOut = false then t.hasWork d .lock .routine
          else if x.intent = .release ∧ x.state = .secured then
            t.hasWork d .release (if lockedOut = true then .urgent else .routine)
          else y = x)) ∧
      (∀ z, (h.scope = .zones (oneZone z) ∨ ∃ d, h.scope = .door d ∧ s.IsDoorOf z d) →
        (∀ d, alone d → (s.door d).intent = .none ∧ (s.door d).keepOpen = false ∧ (s.door d).sweep = none) →
        (¬ due z → t.slots = s.slots ∧ t.zones = s.zones ∧ t.doors = s.doors) ∧
        (due z → (∀ k, s.slot k ≠ none) → (t.zone z).marker = some ⟨.lock, .trailing⟩ ∧ t.doors = s.doors) ∧
        (due z → ∀ k, s.slot k = none → (∀ j, j < k → s.slot j ≠ none) → u.WalkedTo t z .lock .trailing k))

/-! ### Inputs and fire -/

/-- A sampled level that is the debounced level leaves no candidate, one that is the candidate's keeps it, and any other
starts a candidate; nothing else changes (R134); that another level replaces a candidate while the debounced level is
absent is the model's reading (log 8). A candidate that has held its level for 50 ms becomes the debounced level and is
taken by the input's function: NONE and an unchanged activity have no effect, REPORT raises INPUT at every level, HOLD
makes a hold or raises INPUT when the list is full and ends it again, LOCK and RELEASE give due markers of origin INPUT,
and FIRE moves the fire state (R134, R136, R138); with no candidate, or one of less than 50 ms, nothing changes (log 3).
A zone so given a marker with a sweep of that direction running keeps it as it is. Any other has a sweep of the
direction and of origin INPUT (or that of a marker for the direction it waited with), waits with the marker, or was
swept so at once: its doors are unlinked with the intent, the direction is its last, and SWEEP_DONE tells of no door
pending. A giving to one zone is taken as R55, R56, R58, R62 and R63 say: declined, ignored, recorded, started in
WARNING, or walked. -/
def Obligations.InputLevelsAreDebouncedAndTaken : Prop :=
  (∀ (s : State) (i : InputNo) (l : Level),
    exec (.inputLevelChange i l) s = .next { s with inputs := s.inputs.set i.val { s.input i with
      candidate :=
        if (s.input i).level = some l then none
        else if (s.input i).candidate.map Candidate.level = some l then (s.input i).candidate
        else some ⟨l, 0⟩ } }) ∧
  ∀ (s : State) (i : InputNo), ∃ t, exec (.levelAccepted i) s = .next t ∧
    match (s.input i).candidate with
    | none => t = s
    | some c =>
      if c.held < 50 then t = s else
      let x := s.input i
      let now := decide (c.level = x.activeLevel)
      let was := decide (x.level = some x.activeLevel)
      let taken : State := { s with inputs := s.inputs.set i.val { x with level := some c.level, candidate := none } }
      let said := fun refused : Bool =>
        s.noticeSet.raise s.clock.stamp .input (.input i) (.input c.level now refused)
      (∀ j, j ≠ i → t.input j = { s.input j with owned := (t.input j).owned }) ∧
      t.input i = { x with level := some c.level, candidate := none, owned := (t.input i).owned } ∧
      (x.function = .report → t = { taken with noticeSet := said false }) ∧
      (x.function = .none ∨ (now = was ∧ x.function ≠ .report) → t = taken) ∧
      (x.function = .hold → now = true → was = false →
        if 16 ≤ s.holds.length then t = { taken with noticeSet := said true }
        else ∃ h ∈ t.holds, t.holds = s.holds ++ [h] ∧ h.kind = x.kind ∧ h.scope = .zones x.zones ∧
          h.origin = .input i ∧ h.remaining = none ∧ (t.input i).owned = some h.id ∧ t.lastHoldId = h.id ∧
          ∀ g ∈ s.holds, g.id ≠ h.id) ∧
      (x.function = .hold → now = false → was = true → (s.holds.map Hold.id).Nodup → ∀ h ∈ s.holds,
        x.owned = some h.id → h.origin = .input i →
        t.holds = s.holds.filter (fun g => decide (g.id ≠ h.id)) ∧ (t.input i).owned = none) ∧
      (x.function = .lock ∨ x.function = .release → now = true → was = false → s.SweepLaw →
        let dir : Direction := if x.function = .lock then .lock else .release
        (∀ z : ZoneNo, x.zones.getLsbD z.val = true → (dir = .lock → ¬ s.Barred z) →
          if ∃ k, (s.slot k).map (fun w => (w.zone, w.direction)) = some (z, dir) then
            ∀ k, (s.slot k).map Sweep.zone = some z → t.slot k = s.slot k
          else
            (∃ k, (t.slot k).any (fun w => decide (w.zone = z ∧ w.direction = dir ∧
              (w.origin = .input ∨ some ⟨dir, w.origin⟩ = (s.zone z).marker))) = true) ∨
            (t.zone z).marker = some ⟨dir, .input⟩ ∨
            ((t.zone z).last = some dir ∧ ¬ t.HasSweep z ∧
              (∀ d, s.IsDoorOf z d → (t.door d).sweep = none ∧
                ((dir = .release ∨ s.held d = false) → (t.door d).intent = dir.intent)) ∧
              ∃ total counts, counts.pending = 0 ∧
                t.noticeSet.Tells s.clock.stamp .sweepDone (.zone z) (.sweepDone dir .input false total counts))) ∧
        ∀ z : ZoneNo, x.zones = oneZone z →
          (dir = .lock → s.Barred z → t = taken) ∧
          ((dir = .lock → ¬ s.Barred z) →
            ((∃ k, (s.slot k).map (fun w => (w.zone, w.direction)) = some (z, dir)) → t = taken) ∧
            (¬ s.HasSweep z → (∀ k, s.slot k ≠ none) → t = { taken with
              zones := s.zones.set z.val { s.zone z with marker := some ⟨dir, .input⟩ }
              noticeSet := s.noticeSet.raise s.clock.stamp .sweepWaiting (.zone z) (.sweepWaiting dir .input
                ((List.finRange 32).filter (fun y => decide (y = z) || (s.zone y).marker.isSome)).length) }) ∧
            (∀ k, ¬ s.HasSweep z → s.slot k = none → (∀ j, j < k → s.slot j ≠ none) →
              if dir = .lock ∧ (s.zone z).lead ≠ 0 then
                t = { taken with
                  slots := s.slots.set k.val (some ⟨z, .lock, .input, .warning ⟨(s.zone z).lead, false⟩, 0,
                    ⟨0, 0, 0, 0, 0, 0⟩⟩)
                  zones := s.zones.set z.val { s.zone z with marker := none, state := .warning }
                  trunks := t.trunks } ∧
                (∀ u, t.trunk u = { s.trunk u with warnList := (t.trunk u).warnList }) ∧
                (∀ d, s.IsDoorOf z d → (s.door d).chime = true → s.held d = false →
                  ⟨d, (s.zone z).chime, (s.zone z).lead⟩ ∈ (t.trunk (s.door d).trunk).warnList)
              else s.WalkedTo t z dir .input k))) ∧
      (x.function = .lock ∨ x.function = .release → now = false → was = true → t = taken) ∧
      (x.function = .fire → t.fire = match was, now, s.fire with
        | false, true, _ => .active
        | true, false, .active => .cleared
        | _, _, f => f)

/-- INPUT_SET is refused with RANGE by R135; for OV0 it replaces the active level and the fire state follows a change of
activity; for the others it ends an owned hold, which HOLD_ENDED tells, and replaces the configuration, and makes a hold
for an active HOLD input, also for one whose old hold has just ended; with 16 holds in the list it makes none, and INPUT
tells that the hold was refused (R121, R128, R135, R136). A restarted second is past, as with every request (the model's
choice, log 19). -/
def Obligations.InputSetConfigures : Prop :=
  ∀ (s : State) (input level function : Byte) (zones : ZoneSet) (kind : Byte),
    ∃ t, exec (.inputSet input level function zones kind) s = .next t ∧
    if h : 7 < input.toNat ∨ 1 < level.toNat ∨ (input.toNat ≠ 0 ∧
        (4 < function.toNat ∨ 1 < kind.toNat ∨ (1 ≤ function.toNat ∧ function.toNat ≤ 3 ∧ zones = 0))) then
      t = s.refusedAs .range
    else ∀ (i : InputNo) (l : Level), i.val = input.toNat → levelByte l = level →
      let x := s.input i
      let was := decide (x.level = some x.activeLevel)
      let now := decide (x.level = some l)
      t.blockResult = some ⟨.ok, []⟩ ∧
      (i = 0 → t.input i = { x with activeLevel := l, owned := (t.input i).owned } ∧
        (x.function = .fire → t.fire = match was, now, s.fire with
          | false, true, _ => .active
          | true, false, .active => .cleared
          | _, _, f => f) ∧
        (was = now → t = { s.later with
          inputs := s.inputs.set i.val { x with activeLevel := l }, blockResult := some ⟨.ok, []⟩ })) ∧
      (i ≠ 0 → ∀ f k, inputFunctionOfByte function = some f → holdKindByte k = kind →
        t.input i = { x with
          activeLevel := l, function := f, zones := zones, kind := k, owned := (t.input i).owned } ∧
        ((x.owned = none ∧ (f ≠ .hold ∨ now = false)) → t = { s.later with
          inputs := s.inputs.set i.val { x with activeLevel := l, function := f, zones := zones, kind := k }
          blockResult := some ⟨.ok, []⟩ }) ∧
        (∀ id, x.owned = some id → (∃ h ∈ s.holds, h.id = id ∧ h.origin = .input i) → (s.holds.map Hold.id).Nodup →
          let rest := s.holds.filter (fun g => decide (g.id ≠ id))
          (∀ g ∈ s.holds, g.id = id → ∃ freed, t.noticeSet.Tells s.clock.stamp .holdEnded (.hold id)
            (.holdEnded g.kind g.scope (.input i) .inputSet freed)) ∧
          if f = .hold ∧ now = true then
            rest.length < 16 → ∃ h ∈ t.holds, t.holds = rest ++ [h] ∧ h.kind = k ∧ h.scope = .zones zones ∧
              h.origin = .input i ∧ h.remaining = none ∧ (t.input i).owned = some h.id ∧ t.lastHoldId = h.id ∧
              ∀ g ∈ rest, g.id ≠ h.id
          else t.holds = rest ∧ (t.input i).owned = none) ∧
        (x.owned = none → f = .hold → now = true →
          if s.holds.length < 16 then
            ∃ h ∈ t.holds, t.holds = s.holds ++ [h] ∧ h.kind = k ∧ h.scope = .zones zones ∧ h.origin = .input i ∧
              h.remaining = none ∧ (t.input i).owned = some h.id ∧ t.lastHoldId = h.id ∧ ∀ g ∈ s.holds, g.id ≠ h.id
          else t = { s.later with
            inputs := s.inputs.set i.val { x with activeLevel := l, function := f, zones := zones, kind := k }
            noticeSet := s.noticeSet.raise s.clock.stamp .input (.input i) (.input l true true)
            blockResult := some ⟨.ok, []⟩ }))

/-- The fire onset: every configured fire door is wanted released, and is RELEASED, ACTING, WAITING with an URGENT
RELEASE entry, or UNKNOWN and not heard; every fire zone shows FIRE, with no LOCK sweep and no LOCK marker; FIRE_ON
tells the numbers. The end of the alarm level raises FIRE_OFF and re-derives the zones and changes nothing else (R138,
R139, R140, R141). -/
def Obligations.FireOnsetAndClearing : Prop :=
  ∀ (s : State) (c : Candidate), (s.input 0).function = .fire → (s.input 0).candidate = some c → 50 ≤ c.held →
    let x := s.input 0
    let fireZone := fun z => ∃ d, (s.door d).configured = true ∧ (s.door d).fire = true ∧ (s.door d).zone = z
    let taken : State := { s with inputs := s.inputs.set 0 { x with level := some c.level, candidate := none } }
    ∃ t, exec (.levelAccepted 0) s = .next t ∧
      (c.level = x.activeLevel → x.level ≠ some x.activeLevel → s.fire ≠ .active → s.SweepLaw → s.WorkLaw →
        t.fire = .active ∧ t.inputs = taken.inputs ∧ t.holds = s.holds ∧ t.clock = s.clock ∧
        (∀ d, (s.door d).configured = true → (s.door d).fire = true → (t.door d).intent = .release ∧
          (t.door d).keepOpen = (s.door d).keepOpen ∧
          ((t.door d).state = .released ∨ (t.door d).state = .acting ∨
           ((t.door d).state = .waiting ∧ ∃ e ∈ t.entry d, e.direction = .release ∧ e.cls = .urgent) ∨
           ((t.door d).state = .unknown ∧ (t.door d).health ≠ .heard))) ∧
        (∀ z, fireZone z → (t.zone z).state = .fire ∧
          (t.zone z).marker.map Marker.direction ≠ some .lock ∧
          ∀ k, (t.slot k).map (fun w => (w.zone, w.direction)) ≠ some (z, .lock)) ∧
        t.noticeSet.Tells s.clock.stamp .fireOn .none (.fireOn
          ((List.finRange 32).filter (fun z => decide (fireZone z))).length
          ((List.finRange 256).filter (fun d => (s.door d).configured && (s.door d).fire)).length
          ((List.finRange 8).filter (fun k => (s.slot k).any (fun w =>
            decide (w.direction = .lock ∧ fireZone w.zone)))).length
          ((List.finRange 32).filter (fun z => decide (fireZone z ∧
            (s.zone z).marker.map Marker.direction = some .lock))).length)) ∧
      (c.level ≠ x.activeLevel → x.level = some x.activeLevel → s.fire = .active →
        t = { taken with
          fire := .cleared, zones := t.zones
          noticeSet := s.noticeSet.raise s.clock.stamp .fireOff .none (.fireOff
            ((List.finRange 256).filter (fun d => (s.door d).configured && (s.door d).fire &&
              decide ((s.door d).state ≠ .released))).length) } ∧
        ∀ z, t.zone z = { s.zone z with state := t.deriveZone z })

/-- FIRE_RESTORE is refused with FIRE in ACTIVE and with STATE in NORMAL. In CLEARED the fire state becomes NORMAL,
every fire door without the keep-open mark has intent NONE, the zones are re-derived, and the reply carries the
fire-barred zones and those of them in their locked period, which are due (R142); with no zone due nothing else changes.
One zone alone due is given a LOCK with origin RESTORE: a LOCK sweep of it runs on and nothing else changes; with no
sweep of it and no free slot its marker is recorded and SWEEP_WAITING raised; with a free slot it is walked at once,
whatever its warning lead, in the lowest one; and a RELEASE sweep of it is cancelled and the zone walked in its slot
(R47, R55, R56, R58, R60, R62, R65, R66, R73). Of several zones due together each has a LOCK sweep that was running, or
one that was started with origin RESTORE in ACTIVE, or the marker with its SWEEP_WAITING, or a sweep that finished at
once with its SWEEP_DONE; one that already waited with a LOCK marker may have been started or finished with that
marker's origin (R57, R59). A door keeps the intent and the mark that the end of the alarm left it when its zone held no
marker and was not due, was given the marker, or had a LOCK sweep. A restarted second is past, as with every request
(the model's choice, log 19). -/
def Obligations.FireRestoreEndsTheAlarm : Prop :=
  ∀ s : State, ∃ t, exec .fireRestore s = .next t ∧
    match s.fire with
    | .active => t = s.refusedAs .fire
    | .normal => t = s.refusedAs .state
    | .cleared =>
      let barred := (List.finRange 32).filter (fun z => decide (s.Barred z))
      let due := barred.filter s.inLockedPeriod
      let calm := s.alarmOver barred due
      let kept := fun d : DoorNo => (t.door d).intent = (calm.door d).intent ∧ (t.door d).keepOpen = (calm.door d).keepOpen
      calm.SameAround t ∧ t.blockResult = calm.blockResult ∧
      (due = [] → t = calm) ∧
      (∀ z, due = [z] → s.SweepLaw →
        (∀ k w, s.slot k = some w → w.zone = z → w.direction = .lock → t = calm) ∧
        (¬ s.HasSweep z → (∀ k, s.slot k ≠ none) → t = { calm with
          zones := calm.zones.set z.val { calm.zone z with marker := some ⟨.lock, .restore⟩ }
          noticeSet := s.noticeSet.raise s.clock.stamp .sweepWaiting (.zone z) (.sweepWaiting .lock .restore
            ((List.finRange 32).filter (fun y => decide (y = z) || (s.zone y).marker.isSome)).length) }) ∧
        (∀ k, ¬ s.HasSweep z → s.slot k = none → (∀ j, j < k → s.slot j ≠ none) →
          calm.WalkedTo t z .lock .restore k ∧ (∀ j, j ≠ k → t.slot j = s.slot j) ∧
          (0 < (calm.walkCounts z .lock).pending → t.noticeSet = s.noticeSet ∧ (t.zone z).marker = none)) ∧
        (∀ k w, s.slot k = some w → w.zone = z → w.direction = .release → ∃ c,
          exec (.cancel (oneZone z)) { calm with zones := calm.zones.map (fun x => { x with marker := none }) } =
            .next c ∧
          (c.zone z).last = some .release ∧
          c.noticeSet.Tells s.clock.stamp .sweepDone (.zone z) (.sweepDone .release w.origin true w.total w.counts) ∧
          c.WalkedTo t z .lock .restore k ∧ (∀ j, j ≠ k → t.slot j = s.slot j) ∧
          (0 < (c.walkCounts z .lock).pending → t.noticeSet = c.noticeSet))) ∧
      (s.SweepLaw → s.CountLaw →
        (∀ z ∈ due,
          let given := fun o : Origin => o = .restore ∨ (s.zone z).marker = some ⟨.lock, o⟩
          (∃ k w, s.slot k = some w ∧ w.zone = z ∧ w.direction = .lock ∧ t.slot k = some w) ∨
          (∃ k w, t.slot k = some w ∧ w.zone = z ∧ w.direction = .lock ∧ given w.origin ∧
            (w.origin = .restore → w.phase = .active ∧
              ∀ d, s.IsDoorOf z d → s.held d = false → (t.door d).intent = .lock ∧ (t.door d).keepOpen = false)) ∨
          ((t.zone z).marker = some ⟨.lock, .restore⟩ ∧ ∃ n,
            t.noticeSet.Tells s.clock.stamp .sweepWaiting (.zone z) (.sweepWaiting .lock .restore n)) ∨
          (¬ t.HasSweep z ∧ (t.zone z).marker = none ∧ (t.zone z).last = some .lock ∧
            (∀ d, s.IsDoorOf z d → (t.door d).sweep = none ∧
              (s.held d = false → (t.door d).intent = .lock ∧ (t.door d).keepOpen = false)) ∧
            ∃ o counts, given o ∧ counts.pending = 0 ∧ t.noticeSet.Tells s.clock.stamp .sweepDone (.zone z)
              (.sweepDone .lock o false counts.sum counts))) ∧
        ∀ d, (s.zone (s.door d).zone).marker = none →
          ((s.door d).zone ∉ due ∨ (t.zone (s.door d).zone).marker ≠ none ∨
            ∃ k w, s.slot k = some w ∧ w.zone = (s.door d).zone ∧ w.direction = .lock) → kept d)

/-! ### The lines of the trunks -/

/-- SEND_FRAME: on an occupied line nothing happens (log 3); on a free one the time that was waited passes (log 7), with
it the time in which a second event arrives together with a CLOCK_SET (R151, log 19), and the first order that is ready
is sent: on a RUNNING trunk the WINDOW at 8 frames, then the urgent poll, a DRIVE for the oldest GRANTED record, the
first warn entry, a settle poll 200 ms after the last frame for its door was sent, and the patrol poll at the cursor
once the poll gap has passed since the last patrol poll was sent; on a DOWN trunk the patrol poll alone; on an OFF trunk
nothing (R103, R110, R114 to R119). A frame is sent at the end of its last character, 11 bits to a character: the times
are counted from there, in tenths of a bit, 625 to a millisecond (R98, R116; log 7). -/
def Obligations.SendFrameByOrder : Prop :=
  ∀ (s₀ : State) (u : Trunk) (waited : Nat),
    let s := s₀.waitTrunk u waited
    let x := s.trunk u
    let cmd := Instr.sendFrame u waited
    let runs := x.mode = .running ∧ x.sinceWindow < 8
    let bids := fun (d : DoorNo) (a : Nat) =>
      (s.door d).configured = true ∧ (s.door d).trunk = u ∧ (s.door d).address = a
    let noUrgent := ∀ a, x.urgentPoll = some a → ∀ d, ¬ bids d a
    let noDrive := ∀ r ∈ x.inFlight, r.phase ≠ .granted
    let noSettle := ∀ r ∈ x.inFlight, r.phase ≠ .granted → (s.door r.door).sinceFrame < 625 * 200
    let gap := ∀ n, x.sincePatrol = some n → 625 * x.pollGap ≤ n
    let far := fun d => ((s.door d).address + 64 - x.patrolCursor) % 64
    let next := fun d => (s.door d).configured = true ∧ (s.door d).trunk = u ∧
      ∀ e, (s.door e).configured = true → (s.door e).trunk = u → far d < far e ∨ (far d = far e ∧ d ≤ e)
    let polled := fun (d : DoorNo) (y : TrunkState) =>
      { y with patrolCursor := (s.door d).address % 64 + 1, sincePatrol := some (-330) }
    let noPoll := fun y : TrunkState => { y with urgentPoll := none }
    s = { s₀ with
      doors := s.doors, trunks := s.trunks
      clock := { s₀.clock with restarted := s₀.clock.restarted && decide (waited = 0) } } ∧
    ((s₀.trunk u).line ≠ .free → exec cmd s₀ = .next s₀) ∧
    ((s₀.trunk u).line = .free →
      (x.mode = .off → exec cmd s₀ = .next s) ∧
      (x.mode = .running → 8 ≤ x.sinceWindow → exec cmd s₀ = .next
        (s.setTrunk u { x with sinceWindow := 0, line := .window ⟨[⟨0, true, false⟩, ⟨0x14, false, false⟩,
          ⟨0xEC, false, false⟩], 0⟩ false })) ∧
      (runs → ∀ a, x.urgentPoll = some a → ∀ d, bids d a → (∀ e, bids e a → e = d) →
        exec cmd s₀ = .next (s.sentFrame u .poll d noPoll)) ∧
      (runs → noUrgent →
        (∀ r pre post, x.inFlight = pre ++ r :: post → (∀ q ∈ pre, q.phase ≠ .granted) → r.phase = .granted →
          exec cmd s₀ = .next (s.sentFrame u (.drive r.direction) r.door noPoll)) ∧
        (noDrive →
          (∀ e l, x.warnList = e :: l →
            exec cmd s₀ = .next (s.sentFrame u (.warn e.pattern e.minutes) e.door
              (fun y => { noPoll y with warnList := l }))) ∧
          (x.warnList = [] →
            (∀ r pre post, x.inFlight = pre ++ r :: post → (∀ q ∈ pre, (s.door q.door).sinceFrame < 625 * 200) →
              625 * 200 ≤ (s.door r.door).sinceFrame → exec cmd s₀ = .next (s.sentFrame u .poll r.door noPoll)) ∧
            (noSettle → gap → ∀ d, next d →
              exec cmd s₀ = .next (s.sentFrame u .poll d (fun y => polled d (noPoll y)))) ∧
            (noSettle → (¬ gap ∨ ∀ d, ¬ ((s.door d).configured = true ∧ (s.door d).trunk = u)) →
              exec cmd s₀ = .next (s.setTrunk u (noPoll x)))))) ∧
      (x.mode = .down →
        (gap → ∀ d, next d → exec cmd s₀ = .next (s.sentFrame u .poll d (polled d))) ∧
        ((¬ gap ∨ ∀ d, ¬ ((s.door d).configured = true ∧ (s.door d).trunk = u)) → exec cmd s₀ = .next s)))

/-- What ends on a line, a frame having been sent when its outcome is due (R116, log 7: `frameOver`; a door that has
moved keeps the time since the frame of its new place, R105, R115). WINDOW_END frees the line and takes the address of a
configured door as the pending urgent poll (R119), but takes nothing of a window that a warm restart abandoned (the
model's choice, log 17). FRAME_OUTCOME frees the line; of an abandoned frame it takes nothing (R105); a failed frame
counts one miss for its door while the door has the frame's trunk and address and is not SILENT, and one failure for the
trunk, which an OFF trunk does not keep (R107, R108, R111). With the end of what is on a line a restarted second is past
(the model's choice for R151, log 19). Where nothing is on the line the commands change nothing (log 3). -/
def Obligations.LineEndsAndMissesCount : Prop :=
  ∀ (s : State) (u : Trunk) (reply : LineReply) (bits : BitVec 7),
    let x := s.trunk u
    ((∀ f b, x.line ≠ .frame f b) → exec (.frameOutcome u reply) s = .next s) ∧
    (∀ f, x.line = .frame f true → exec (.frameOutcome u reply) s = .next (s.frameOver u f)) ∧
    ((∀ c b, x.line ≠ .window c b) → exec (.windowEnd u bits) s = .next s) ∧
    (∀ c b, x.line = .window c b → exec (.windowEnd u bits) s = .next (s.later.setTrunk u { x with
      line := .free
      urgentPoll := if b = false ∧ bits.toNat ≠ 127 ∧ ∃ d, (s.door d).configured = true ∧ (s.door d).trunk = u ∧
        (s.door d).address = bits.toNat then some bits.toNat else x.urgentPoll })) ∧
    (∀ f, x.line = .frame f false → (∀ rep, judge reply ≠ .good rep) → (x.mode = .running → x.failures + 1 < 16) →
      let v := s.frameOver u f
      let y := { v.trunk u with failures := if x.mode = .off then 0 else min 16 (x.failures + 1) }
      let stands := (s.door f.door).configured = true ∧ (s.door f.door).trunk = u ∧ (s.door f.door).address = f.address
      (¬ stands → exec (.frameOutcome u reply) s = .next (v.setTrunk u y)) ∧
      (stands → (∀ dir, f.kind ≠ .drive dir) →
        (x.silenceLimit ≤ (s.door f.door).misses → exec (.frameOutcome u reply) s = .next (v.setTrunk u y)) ∧
        ((s.door f.door).misses + 1 < x.silenceLimit → exec (.frameOutcome u reply) s = .next
          ((v.setTrunk u y).setDoor f.door { v.door f.door with misses := (s.door f.door).misses + 1 }))))

/-- The miss that reaches the silence limit makes the door SILENT, raises SILENT with the door as it stood, takes its
work, makes it UNKNOWN with no timers and attempts 0, keeps its intent, and moves a pending or (in a LOCK) ajar count to
unreachable; if its sweep finishes, it is left unreached (R75, log 23) (R28, R68, R69, R96, R107). That the notice comes
first is of the rule; that the arbiter is considered last is the model's choice (log 13). The frame has been sent when
its outcome is due (R116, log 7). -/
def Obligations.SilenceAtTheLimit : Prop :=
  ∀ (s : State) (u : Trunk) (reply : LineReply) (f : LineFrame), s.WorkLaw → s.SweepLaw → s.CountLaw →
    let x := s.door f.door
    (s.trunk u).line = .frame f false → (∀ rep, judge reply ≠ .good rep) →
    ((s.trunk u).mode = .running → (s.trunk u).failures + 1 < 16) →
    x.configured = true → x.trunk = u → x.address = f.address → x.misses + 1 = (s.trunk u).silenceLimit →
    ∃ t, exec (.frameOutcome u reply) s = .next t ∧
      t.door f.door = { x with
        health := .silent, misses := (s.trunk u).silenceLimit, state := .unknown, sinceFrame := max 0 x.sinceFrame
        attempts := if x.state = .unknown then x.attempts else 0
        passage := if x.state = .unknown then x.passage else none
        allowance := if x.state = .unknown then x.allowance else none
        reminder := if x.state = .unknown then x.reminder else none
        sweep := (t.door f.door).sweep, unreached := (t.door f.door).unreached } ∧
      (∀ v, t.entriesOf v f.door = 0 ∧ t.recordsOf v f.door = 0) ∧
      (x.sweep = none → (t.door f.door).sweep = none ∧ (t.door f.door).unreached = x.unreached ∧ t.slots = s.slots ∧
        t.noticeSet = s.noticeSet.raise s.clock.stamp .silent (.door f.door) (.door x.state x.position x.bolt)) ∧
      (∀ l, x.sweep = some l → ∀ w, s.slot l.slot = some w →
        let count := if l.count = .pending ∨ (w.direction = .lock ∧ l.count = .ajar) then .unreachable else l.count
        ((t.door f.door).sweep = none ∧ (t.door f.door).unreached = decide (count = .unreachable)) ∨
          (t.door f.door).sweep = some ⟨l.slot, count⟩)

/-- Sixteen failures in a row take a RUNNING trunk DOWN, whatever frame the last one was and whether or not its door has
moved away: a standing door's miss is counted, TRUNK_DOWN tells the trunk's numbers, the pending urgent poll is gone,
the DRIVING records stay, and every GRANTED record is returned, its door WAITING with its attempts (told with no sweep
in the table and no door made SILENT by the same failure). Those returned to a class stand at its head in the order of
their grants, ahead also of what R32 places afresh; when every one returns, the queue (with URGENT ahead of ROUTINE
before, the premise `State.SupplyLaw`) is given whole (R32, R86, R87, R93, R95, R107, R108, R112). A good reply to any
frame takes a DOWN trunk back to RUNNING with TRUNK_UP, and the arbiter is considered (R108, R113). A restarted second
is past (log 19), and the frame has been sent (R116, log 7). -/
def Obligations.TrunkFallsAndReturns : Prop :=
  ∀ (s : State) (u : Trunk) (reply : LineReply) (f : LineFrame),
    let x := s.trunk u
    let d := f.door
    let stands := decide ((s.door d).configured = true ∧ (s.door d).trunk = u ∧ (s.door d).address = f.address)
    let raised := fun k v => s.noticeSet.raise s.clock.stamp k (.trunk u) v
    x.line = .frame f false →
    ((∀ rep, judge reply ≠ .good rep) → x.mode = .running → x.failures = 15 → s.WorkLaw → (∀ k, s.slot k = none) →
      (stands = true → (s.door d).misses + 1 ≠ x.silenceLimit) →
      (∀ dir, f.kind = .drive dir → ∀ r, s.record d = some r → r.phase = .granted) →
      let rejoins := fun r : Record => decide (r.phase = .granted ∧ r.direction.intent = (s.door r.door).intent ∧
        ¬ (r.direction = .lock ∧ (s.held r.door = true ∨ ((s.door r.door).fire = true ∧ s.fire ≠ .normal))))
      let back := fun c => (x.inFlight.filter (fun r => rejoins r && decide (r.cls = c))).map
        (fun r => (⟨r.door, r.direction, c⟩ : Entry))
      let part := fun (c : QueueClass) (q : List Entry) => q.filter (fun e => decide (e.cls = c))
      let v := s.frameOver u f
      let missed : Door := { v.door d with misses := (s.door d).misses +
        if stands = true ∧ (s.door d).misses < x.silenceLimit then 1 else 0 }
      ∃ t, exec (.frameOutcome u reply) s = .next t ∧
        (t.trunk u).mode = .down ∧ (t.trunk u).failures = 16 ∧ (t.trunk u).urgentPoll = none ∧
        (t.trunk u).line = .free ∧ (t.trunk u).supply = x.supply ∧
        (t.trunk u).inFlight = x.inFlight.filter (fun r => decide (r.phase ≠ .granted)) ∧
        (∀ c, back c <+: part c (t.trunk u).queue) ∧
        (s.SupplyLaw → (∀ r ∈ x.inFlight, r.phase = .granted → rejoins r = true) → (t.trunk u).queue =
          (back .urgent ++ part .urgent x.queue) ++ (back .routine ++ part .routine x.queue)) ∧
        (∀ r ∈ x.inFlight, rejoins r = true → (t.door r.door).state = .waiting ∧
          (t.door r.door).attempts = (s.door r.door).attempts) ∧
        (t.door d).misses = missed.misses ∧
        t.noticeSet = raised .trunkDown (.trunkDown ((List.finRange 256).filter (fun e => (s.door e).configured &&
            decide ((s.door e).trunk = u))).length x.queue.length x.inFlight.length) ∧
        ((∀ r ∈ x.inFlight, r.phase ≠ .granted) → t = { (v.setTrunk u { v.trunk u with
          mode := .down, failures := 16, urgentPoll := none }).setDoor d missed with
          noticeSet := t.noticeSet })) ∧
    (∀ rep, judge reply = .good rep → x.mode = .running → stands = false →
      exec (.frameOutcome u reply) s = .next
        ((s.frameOver u f).setTrunk u { (s.frameOver u f).trunk u with failures := 0 })) ∧
    (∀ rep, judge reply = .good rep → x.mode = .down → ∃ t, exec (.frameOutcome u reply) s = .next t ∧
      (t.trunk u).mode = .running ∧ (t.trunk u).failures = 0 ∧
      t.noticeSet.Tells s.clock.stamp .trunkUp (.trunk u) (.trunkUp x.queue.length) ∧
      (stands = false → (∀ k, s.slot k = none) → t = State.consider u
        { (s.frameOver u f).setTrunk u { (s.frameOver u f).trunk u with mode := .running, failures := 0 } with
          noticeSet := raised .trunkUp (.trunkUp x.queue.length) }))

/-! ### Replies, reports and drives -/

/-- The judgement of a reply: NO_REPLY without a start in time or with fewer than 5 characters; GARBLED with a fault in
one of the first five, a value outside the table of R100 or a wrong sum; otherwise good, whatever follows (R100, R104).
Every down frame is its address with mark bit 1, then its bytes with mark bit 0, and its data add up to 0 (R99). Each
character is 11 bits, a start bit, the 8 data bits from the least significant up, the mark bit and the stop bit, one
after another; DE is active while they are sent, and the line is released, TX idle, for the reply window and for the bit
slots of an alert window (R98, R118; the place in tenths of a bit is the model's, log 17). -/
def Obligations.ReplyJudgementAndDownFrames : Prop :=
  (∀ r : LineReply, (r.inTime = false ∨ r.chars.length < 5) → judge r = .noReply) ∧
  (∀ c1 c2 c3 c4 c5 more,
    let five : List LineChar := [c1, c2, c3, c4, c5]
    let good := (∀ c ∈ five, c.framingError = false ∧ c.mark = false) ∧ c1.data = 0x21 ∧ c2.data.toNat ≤ 2 ∧
      c3.data.toNat ≤ 3 ∧ c1.data + c2.data + c3.data + c4.data + c5.data = 0
    (¬ good → judge ⟨true, five ++ more⟩ = .garbled) ∧
    (good → ∀ p b, positionByte p = c2.data → boltByte b = c3.data →
      judge ⟨true, five ++ more⟩ = .good
        ⟨p, b, c4.data.getLsbD 0, c4.data.getLsbD 1, c4.data.getLsbD 3⟩)) ∧
  (∀ (k : FrameKind) (d : DoorNo) (a : Nat), ∃ check : Byte,
    (frameFor k d a).chars = ⟨byte a, true, false⟩ ::
      ((match k with
        | .poll => [0x11]
        | .drive .lock => [0x12, 1]
        | .drive .release => [0x12, 2]
        | .warn p m => [0x13, byte p, byte m]) ++ [check]).map (fun b => ⟨b, false, false⟩) ∧
    ((frameFor k d a).chars.map LineChar.data).sum = 0) ∧
  (Line.free.de = .low ∧ Line.free.tx = .high) ∧
  ∀ (l : Line) (chars : List LineChar) (n : Nat),
    ((∃ k d a b, l = .frame ⟨k, d, a, chars, n⟩ b) ∨ ∃ b, l = .window ⟨chars, n⟩ b) →
    (n < 110 * chars.length → l.de = .high) ∧
    (110 * chars.length ≤ n → l.de = .low ∧ l.tx = .high) ∧
    ∀ i c j, chars[i]? = some c → n / 10 = 11 * i + j →
      (j = 0 → l.tx = .low) ∧
      (∀ m < 8, j = m + 1 → l.tx = if c.data.getLsbD m then .high else .low) ∧
      (j = 9 → l.tx = if c.mark then .high else .low) ∧
      (j = 10 → l.tx = if c.framingError then .low else .high)

/-- A good reply on a RUNNING trunk for a door that has no work, when the report leads to no placement: the misses and
failures become 0, the health HEARD with NODE_BACK after SILENT, the position and bolt are recorded (UNKNOWN with the
fault flag), and the door takes the state, intent, timers and notice of Table 1-1, whatever its intent was; no other
door and no other sweep is touched (R12 to R20, R22, R23, R25, R106, R108, R109). The door is one that no sweep links,
or one whose sweep goes on with another pending door: its count follows a change of its state by the tables of R68 and
R69, so that a door counted done that is keyed, opened or forced stays done. (One counted unreachable and UNKNOWN is
left to ReportReclassifiesUnreachableDoor.) A restarted second is past (log 19), and the frame has been sent (R116, log
7). -/
def Obligations.ReportByTable : Prop :=
  ∀ (s : State) (u : Trunk) (reply : LineReply) (f : LineFrame) (rep : Report),
    let d := f.door
    let x := s.door d
    let pos := if rep.fault then .unknown else rep.position
    let bolt := if rep.fault then .unknown else rep.bolt
    let blocked := decide (s.held d = true ∨ (x.fire = true ∧ s.fire ≠ .normal))
    let new := reportTable x pos bolt rep.rex blocked
    let locks := decide ((x.state = .unknown ∧ new = .ajar) ∨ (x.state = .secured ∧ new = .forced)) && !blocked
    let limit : Countdown := ⟨(s.zone x.zone).passageLimit, false⟩
    let interval := (s.zone x.zone).ajarInterval
    let back := if x.health = .silent then
      s.noticeSet.raise s.clock.stamp .nodeBack (.door d) (.door x.state x.position x.bolt) else s.noticeSet
    (s.trunk u).line = .frame f false → judge reply = .good rep → x.configured = true → x.trunk = u →
    x.address = f.address → (s.trunk u).mode = .running → s.SweepGoesOn d →
    (∀ k, x.sweep = some ⟨k, .unreachable⟩ → x.state ≠ .unknown) →
    x.state ≠ .waiting → x.state ≠ .acting → reportPlaces x pos bolt blocked = none →
    let v := s.frameOver u f
    let counted := if new = x.state then s else s.countedAs d new
    ∃ t, exec (.frameOutcome u reply) s = .next t ∧ t = { v with
      doors := v.doors.set d.val { v.door d with
        state := new, position := pos, bolt := bolt, misses := 0, health := .heard, unreached := false
        sweep := (counted.door d).sweep
        intent := if locks then .lock else x.intent, keepOpen := x.keepOpen && !locks
        passage := if new = x.state then x.passage else if new = .passage then some limit else none
        allowance := if new ≠ x.state then none
          else if x.state = .secured ∧ x.exit = true ∧ rep.rex = true ∧ pos = .closed then some limit else x.allowance
        reminder := if new = x.state then x.reminder
          else if new = .ajar ∧ interval ≠ 0 then some ⟨interval, false⟩ else none }
      slots := counted.slots
      zones := s.zones.set x.zone.val { s.zone x.zone with
        state := if new = x.state then (s.zone x.zone).state else t.deriveZone x.zone }
      trunks := v.trunks.set (trunkIdx u).val { v.trunk u with failures := 0 }
      noticeSet := match reportNotice x.state new with
        | none => back
        | some k => back.raise s.clock.stamp k (.door d) (.door new pos bolt) }

/-- A good reply on a RUNNING trunk for a door that no sweep links, or one whose sweep goes on with another pending door
(but for one counted unreachable and UNKNOWN), when the report does lead to work. A door classified against its intent
is restored to it (R15); a PASSAGE door that closes with its bolt withdrawn is wanted locked and placed (R20); an AJAR
or FORCED door that closes is placed toward LOCK, or re-stated and placed toward RELEASE, by its intent (R22); and a
door that the finish of its sweep left counted unreachable, without being UNKNOWN, is restored to its intent in the
state the report leaves, with KEYED when it was keyed meanwhile (R15, R75; that it is its next report and that state is
the model's choice, log 23). The reply is accounted and the door as it then stands is placed. A WAITING door with a LOCK
entry that reports OPEN loses the entry and is AJAR, and the arbiter is considered; with any other report it keeps its
wait (R26). The count of a linked door follows each change of its state (R68, R69): the AJAR one that closes goes from
ajar to pending, the WAITING one that opens from pending to ajar. A restarted second is past (log 19), and the frame has
been sent (R116, log 7). -/
def Obligations.ReportPlacesTheDoor : Prop :=
  ∀ (s : State) (u : Trunk) (reply : LineReply) (f : LineFrame) (rep : Report),
    let d := f.door
    let x := s.door d
    let pos := if rep.fault then .unknown else rep.position
    let bolt := if rep.fault then .unknown else rep.bolt
    let lockedOut := decide (x.fire = true ∧ s.fire ≠ .normal)
    let blocked := s.held d || lockedOut
    let interval := (s.zone x.zone).ajarInterval
    let free := s.frameOver u f
    let heard : Door :=
      { free.door d with position := pos, bolt := bolt, misses := 0, health := .heard, unreached := false }
    let new := reportTable x pos bolt rep.rex blocked
    let back := if x.health = .silent then
      s.noticeSet.raise s.clock.stamp .nodeBack (.door d) (.door x.state x.position x.bolt) else s.noticeSet
    let said := match reportNotice x.state new with
      | none => back
      | some k => back.raise s.clock.stamp k (.door d) (.door new pos bolt)
    let became := fun (y : Door) (q : TrunkState) =>
      let counted := if y.state = x.state then s else s.countedAs d y.state
      let v : State := { free.setDoor d { y with sweep := (counted.door d).sweep } with
        trunks := free.trunks.set (trunkIdx u).val { q with failures := 0 }, noticeSet := said
        slots := counted.slots }
      v.setZone x.zone { s.zone x.zone with
        state := if y.state = x.state then (s.zone x.zone).state else v.deriveZone x.zone }
    (s.trunk u).line = .frame f false → judge reply = .good rep → x.configured = true → x.trunk = u →
    x.address = f.address → (s.trunk u).mode = .running → s.SweepGoesOn d →
    (∀ k, x.sweep = some ⟨k, .unreachable⟩ → x.state ≠ .unknown) →
    (∀ dir, x.state ≠ .waiting → x.state ≠ .acting → reportPlaces x pos bolt blocked = some dir →
      ∃ t, exec (.frameOutcome u reply) s = .next t ∧
        t = State.place false d dir (if dir = .release ∧ lockedOut = true then .urgent else .routine)
          (became (match x.state, dir with
            | .passage, .lock => { heard with intent := .lock, keepOpen := false }
            | .ajar, .lock | .forced, .lock => heard
            | _, _ => { heard with state := new, passage := none, allowance := none, reminder := none })
            (free.trunk u)) ∧
        (dir = .lock → x.state = .ajar ∨ x.state = .forced ∨ x.state = .passage → s.SweepFollows t d .waiting)) ∧
    (∀ e, x.state = .waiting → s.entry d = some e →
      exec (.frameOutcome u reply) s = .next (if e.direction = .lock ∧ pos = .opened then
          let q := (s.trunk u).queue.filter (fun e => decide (e.door ≠ d))
          let v := became { heard with
            state := .ajar, passage := none, allowance := none
            reminder := if interval = 0 then none else some ⟨interval, false⟩ }
            { free.trunk u with queue := q, runCount := if q = [] then 0 else (s.trunk u).runCount }
          State.consider u { v with
            noticeSet := back.raise s.clock.stamp .ajar (.door d) (.door .ajar pos bolt) }
        else became heard (free.trunk u)))

/-- A linked door that was counted unreachable and is heard again is classified by its report and then counted by its
sweep as it stands: the intent of the sweep unless it is held, the count of the tables of R66 and R67, and work when it
is pending; one classified AJAR that is neither held nor fire-locked-out has lost its keep-open mark before (R14, R65,
R70, R71; told while another door is pending, so that the sweep goes on). When a DOWN trunk becomes RUNNING, no door of
it that is HEARD is left counted unreachable (R71, R113). -/
def Obligations.ReportReclassifiesUnreachableDoor : Prop :=
  ∀ (s : State) (u : Trunk) (reply : LineReply) (f : LineFrame) (rep : Report),
    let d := f.door
    let x := s.door d
    s.WorkLaw → s.SweepLaw → s.CountLaw → (s.trunk u).line = .frame f false → judge reply = .good rep →
    (∀ k w, x.sweep = some ⟨k, .unreachable⟩ → s.slot k = some w → x.configured = true → x.trunk = u →
      x.address = f.address → (s.trunk u).mode = .running → x.state = .unknown → w.counts.pending ≠ 0 →
      let pos := if rep.fault then .unknown else rep.position
      let bolt := if rep.fault then .unknown else rep.bolt
      let lockedOut := decide (x.fire = true ∧ s.fire ≠ .normal)
      let seen := reportTable x pos bolt rep.rex false
      let c := (s.setDoor d { x with
        state := seen, position := pos, bolt := bolt, health := .heard }).tableCount w.direction d
      ∃ t, exec (.frameOutcome u reply) s = .next t ∧
        (t.door d).health = .heard ∧ (t.door d).position = pos ∧ (t.door d).bolt = bolt ∧
        (t.door d).sweep = some ⟨k, c⟩ ∧ t.slots = s.slots.set k.val (some { w with
          counts := w.counts.move .unreachable c }) ∧
        (match w.direction with
          | .lock => (t.door d).intent = (if s.held d then x.intent else .lock) ∧
              (t.door d).keepOpen = (s.held d && x.keepOpen)
          | .release => (t.door d).intent = .release ∧
              (t.door d).keepOpen = (x.keepOpen && !(decide (seen = .ajar) && !(s.held d || lockedOut)))) ∧
        (c = .pending → (w.direction = .lock → lockedOut = false) →
          t.hasWork d w.direction (if lockedOut then .urgent else .routine))) ∧
    ((s.trunk u).mode = .down → ∃ t, exec (.frameOutcome u reply) s = .next t ∧
      ∀ e l, (s.door e).configured = true → (s.door e).trunk = u → (s.door e).health = .heard →
        (t.door e).sweep = some l → l.count ≠ .unreachable)

/-- A good reply to the DRIVE of a door in GRANTED, for a door whose intent is the drive's direction and which no sweep
links, or one that goes on with another pending door and whose counts follow the door (R68, R69): not accepted is a
failed attempt, counted, with the door WAITING (or granted again) while attempts remain, re-stated when a LOCK is
blocked, and JAMMED with its notice beyond the retries; accepted is DRIVING with the class's limit, unless the reply
already shows success (SECURED or RELEASED, attempts 0) or, in a LOCK, an open door (AJAR) (R88, R91 to R94). A DRIVE
that is not answered, or is answered GARBLED, and makes neither the door SILENT nor the trunk DOWN, is a miss of the
door and the same failed attempt on a RUNNING trunk; on a DOWN trunk the record is returned to the head of its class
(R91, R95, R107 to R109). A good report by whatever frame for a door in DRIVING, and by any frame but the DRIVE for one
in GRANTED, records its observation and ends the drive when it shows its end: in DRIVING success, and in either phase of
a LOCK an open door, which is AJAR with its notice and reminder; any other report leaves the drive going, and a drive
against the intent ends as ReversedDriveEndsByRestatement has it. A reply on a DOWN trunk first takes it back to RUNNING
with TRUNK_UP, and its arbiter is considered (told with no sweep in the table) (R12, R23, R27, R91 to R93, R108, R113).
A restarted second is past (log 19), and the frame has been sent (R116, log 7). -/
def Obligations.DriveFrameBeginsOrEndsTheDrive : Prop :=
  (∀ (s : State) (u : Trunk) (reply : LineReply) (f : LineFrame) (dir : Direction) (rep : Report) (r : Record),
    let d := f.door
    let x := s.door d
    let pos := if rep.fault then .unknown else rep.position
    let bolt := if rep.fault then .unknown else rep.bolt
    let v := s.frameOver u f
    s.WorkLaw → (s.trunk u).line = .frame f false → judge reply = .good rep → f.kind = .drive dir →
    x.configured = true → x.trunk = u → x.address = f.address → x.health = .heard → (s.trunk u).mode = .running →
    s.SweepGoesOn d → x.state = .acting → s.record d = some r → r.phase = .granted →
    r.direction.intent = x.intent →
    ∃ t, exec (.frameOutcome u reply) s = .next t ∧
      (t.trunk u).supply = (s.trunk u).supply ∧ s.later.SameAround t ∧
      (t.door d).position = pos ∧ (t.door d).bolt = bolt ∧ (t.door d).intent = x.intent ∧ (t.door d).misses = 0 ∧
      (rep.accepted = false → s.AttemptFailed t r pos bolt) ∧
      (rep.accepted = true →
        if r.direction = .lock ∧ bolt = .thrown ∧ pos = .closed then
          (t.door d).state = .secured ∧ (t.door d).attempts = 0 ∧ t.recordsOf u d = 0 ∧
          t.noticeSet = s.noticeSet ∧ s.SweepFollows t d .secured
        else if r.direction = .lock ∧ pos = .opened then
          (t.door d).state = .ajar ∧ (t.door d).attempts = x.attempts ∧ t.recordsOf u d = 0 ∧
          t.noticeSet = s.noticeSet.raise s.clock.stamp .ajar (.door d) (.door .ajar pos bolt) ∧
          s.SweepFollows t d .ajar
        else if r.direction = .release ∧ bolt = .withdrawn then
          (t.door d).state = .released ∧ (t.door d).attempts = 0 ∧ t.recordsOf u d = 0 ∧
          t.noticeSet = s.noticeSet ∧ s.SweepFollows t d .released
        else t = (v.setDoor d { v.door d with
          misses := 0, position := pos, bolt := bolt, unreached := false }).setTrunk u { v.trunk u with
          failures := 0
          inFlight := (s.trunk u).inFlight.map (fun q => if q.door = d then
            { q with phase := .driving ((s.lockClass x.cls).limit * 1000) } else q) })) ∧
  (∀ (s : State) (u : Trunk) (reply : LineReply) (f : LineFrame) (dir : Direction) (r : Record),
    let d := f.door
    let x := s.door d
    s.WorkLaw → (s.trunk u).line = .frame f false → (∀ rep, judge reply ≠ .good rep) → f.kind = .drive dir →
    x.configured = true → x.trunk = u → x.address = f.address → x.misses + 1 < (s.trunk u).silenceLimit →
    s.SweepGoesOn d → x.state = .acting → s.record d = some r → r.phase = .granted →
    r.direction.intent = x.intent →
    ((s.trunk u).mode = .running ∧ (s.trunk u).failures + 1 < 16) ∨ (s.trunk u).mode = .down →
    ∃ t, exec (.frameOutcome u reply) s = .next t ∧
      (t.trunk u).supply = (s.trunk u).supply ∧ s.later.SameAround t ∧
      (t.trunk u).line = .free ∧ (t.trunk u).failures = min 16 ((s.trunk u).failures + 1) ∧
      (t.door d).misses = x.misses + 1 ∧ (t.door d).health = x.health ∧ (t.door d).intent = x.intent ∧
      if (s.trunk u).mode = .down then s.Returned t r else s.AttemptFailed t r x.position x.bolt) ∧
  ∀ (s : State) (u : Trunk) (reply : LineReply) (f : LineFrame) (rep : Report) (r : Record),
    let d := f.door
    let x := s.door d
    let pos := if rep.fault then .unknown else rep.position
    let bolt := if rep.fault then .unknown else rep.bolt
    let due := s.frameOver u f
    let good := (due.setDoor d { due.door d with misses := 0 }).setTrunk u { due.trunk u with failures := 0 }
    let up := if (s.trunk u).mode = .down then
      State.consider u { good.setTrunk u { good.trunk u with mode := .running } with
        noticeSet := s.noticeSet.raise s.clock.stamp .trunkUp (.trunk u) (.trunkUp (s.trunk u).queue.length) }
      else good
    let seen := up.setDoor d { up.door d with position := pos, bolt := bolt, unreached := false }
    s.WorkLaw → (s.trunk u).line = .frame f false → judge reply = .good rep → x.configured = true → x.trunk = u →
    x.address = f.address → x.health = .heard → ((s.trunk u).mode = .down → ∀ k, s.slot k = none) →
    s.SweepGoesOn d → x.state = .acting → s.record d = some r →
    (r.phase = .granted → ∀ dir, f.kind ≠ .drive dir) →
    exec (.frameOutcome u reply) s = .next (match r.shownEnd pos bolt with
      | none => seen
      | some e => if r.direction.intent = x.intent then seen.driveShown r e else seen.endDrive r e)

/-- Every end of a drive whose direction no longer equals the door's intent, for a door that no sweep links, or one that
goes on with another pending door: the outcome is not taken. The record is gone and its units are back, the attempts are
0, and the door is re-stated; if that is not what its intent asks for it is placed toward it, URGENT toward RELEASE when
it is fire-locked-out, and with intent NONE nothing follows; the arbiter is considered last. The count of a linked door
follows its re-statement before the placement (R68, R69), and the sweep goes on. A time-out is such an end on a RUNNING
and on a DOWN trunk (R6, R27, R32, R92, R93); that DRIVE_TIMEOUT asserts that the time left has passed and lets it pass
on the trunk is the model's choice (log 7), and so is that with it the time has passed in which a second event arrives
together with a CLOCK_SET (R151, log 19). -/
def Obligations.ReversedDriveEndsByRestatement : Prop :=
  ∀ (s : State) (r : Record),
    let d := r.door
    let x := s.door d
    let u := x.trunk
    let st := restatedState x.bolt x.position
    let lockedOut := decide (x.fire = true ∧ s.fire ≠ .normal)
    s.SweepGoesOn d → x.state = .acting → s.record d = some r → r.direction.intent ≠ x.intent →
    (∀ e : DriveEnd,
      let v := s.driveOver d st (fun y => { y with attempts := 0 })
      s.endDrive r e = State.consider u (match x.intent with
        | .lock => if st = .secured then v else v.place false d .lock .routine
        | .release =>
          if st = .released then v else v.place false d .release (if lockedOut = true then .urgent else .routine)
        | .none => v)) ∧
    ∀ n, r.phase = .driving n → ∃ e, exec (.driveTimeout d) s = .next ((s.waitTrunk u n).endDrive r e)

/-- REST_END ends a rest and lets the arbiter grant the head entry; DRIVE_TIMEOUT makes a drive whose limit has run out
a failed attempt on a RUNNING trunk and returns it to the head of its class on a DOWN one, for a door that no sweep
links, or one that goes on with another pending door and whose counts follow the door (R68, R69, R90, R92, R94, R95).
Both assert that the time left has passed (the model's choice, log 7), and with it the time in which a second event
arrives together with a CLOCK_SET (R151; the model's choice, log 19); that they change nothing with no rest and with no
DRIVING record is the model's choice too (log 3). -/
def Obligations.RestEndAndDriveTimeout : Prop :=
  ∀ (s : State) (u : Trunk) (d : DoorNo),
    let later := fun n => { s with clock := { s.clock with restarted := s.clock.restarted && decide (n = 0) } }
    ((s.trunk u).restRemaining = none → exec (.restEnd u) s = .next s) ∧
    (∀ n, (s.trunk u).restRemaining = some n →
      let w := s.waitTrunk u n
      ((s.trunk u).queue = [] ∨ (s.trunk u).mode ≠ .running →
        exec (.restEnd u) s = .next (w.setTrunk u { w.trunk u with restRemaining := none })) ∧
      (∀ e l, (s.trunk u).queue = e :: l → (s.trunk u).mode = .running →
        ∃ t, exec (.restEnd u) s = .next t ∧ (t.trunk u).supply = (s.trunk u).supply ∧ (later n).SameAround t ∧
          t.noticeSet = s.noticeSet ∧
          if s.charge u e ≤ (s.trunk u).freeUnits then
            (t.door e.door).state = .acting ∧
            ⟨e.door, e.direction, e.cls, s.charge u e, .granted⟩ ∈ (t.trunk u).inFlight
          else t = w.setTrunk u { w.trunk u with restRemaining := none })) ∧
    ((∀ r, s.record d = some r → r.phase = .granted) → exec (.driveTimeout d) s = .next s) ∧
    (∀ r, s.record d = some r → ∀ n, r.phase = .driving n → s.WorkLaw → (s.door d).trunk = u → s.SweepGoesOn d →
      r.direction.intent = (s.door d).intent →
      ∃ t, exec (.driveTimeout d) s = .next t ∧ (t.trunk u).supply = (s.trunk u).supply ∧ (later n).SameAround t ∧
        if (s.trunk u).mode = .down then s.Returned t r
        else s.AttemptFailed t r (s.door d).position (s.door d).bolt)

/-! ### The Supervisor Link -/

/-- A character on LRXD by the state of the receiver, and the four events that end something on the link: a gap inside a
frame, the end of the quiet wait, the end of a reply, and the link reset, which leaves only the character that is being
sent on the line, at its place, to be finished (R169, R170, R171, R174, R175). That a character is ignored in TAKEN is
the model's choice (log 10), and so is that RECEIVE_GAP outside RECEIVING, QUIET_WAIT_END without a quiet wait and
REPLY_SENT without a reply change nothing (log 3), that the 20 ms of RECEIVE_GAP and QUIET_WAIT_END have passed whatever
gap time was counted (log 7), and that with each of these events a restarted second is past (log 19). LTXD is HIGH while
nothing is on the line; a reply is its characters one after another, each a LOW start bit, the 8 data bits from the
least significant up, and a HIGH stop bit, LTXD is HIGH after them, and the character that a link reset left has the
same bits (R165, R174, R175; the place in tenths of a bit is the model's, log 21). -/
def Obligations.LinkReceiverAndTransmitter : Prop :=
  (∀ (s : State) (b : Byte) (fe : Bool),
    let r := s.receiver
    let buf := r.buffer ++ [b]
    let chr := exec (.linkCharacter b fe) s
    let discarded := fun e : Result => Host.Outcome.next (φ := Fault) (ρ := Refusal) { s.later with
      receiver := ⟨.hunt, true, [], none, some 0⟩
      transmitter := if s.transmitter.current = none ∧ s.transmitter.busy = none then
        ⟨some (replyFrame 0xFF 0 ⟨e, []⟩), none, 0, none⟩ else s.transmitter }
    (r.mode = .hunt → r.quietWait = true → chr = .next { s.later with receiver := { r with gap := some 0 } }) ∧
    (r.mode = .hunt → r.quietWait = false → chr = .next (if b = 0xC3 ∧ fe = false then
      { s.later with receiver := ⟨.receiving, false, [b], none, some 0⟩ } else s.later)) ∧
    (r.mode = .receiving → fe = true → chr = .next { s.later with receiver := ⟨.hunt, true, [], none, some 0⟩ }) ∧
    (r.mode = .receiving → fe = false → r.expected = none →
      chr = if 2 ≤ b.toNat ∧ b.toNat ≤ 250 then
          .next { s.later with receiver := ⟨.receiving, false, buf, some b.toNat, some 0⟩ }
        else discarded .length) ∧
    (∀ n, r.mode = .receiving → fe = false → r.expected = some n →
      chr = if buf.length < n + 4 then .next { s.later with receiver := ⟨.receiving, false, buf, some n, some 0⟩ }
        else if buf.drop (n + 2) = bytes2 (crc16 ((buf.drop 1).take (n + 1))).toNat then
          .next { s.later with receiver := ⟨.taken, false, buf, some n, none⟩ }
        else discarded .check) ∧
    (r.mode = .taken → chr = .next s.later) ∧
    exec .receiveGap s = .next (if r.mode = .receiving then
      { s.later with receiver := ⟨.hunt, false, [], none, none⟩ } else s) ∧
    exec .quietWaitEnd s = .next (if r.mode = .hunt ∧ r.quietWait = true then
      { s.later with receiver := { r with quietWait := false, gap := none } } else s) ∧
    exec .replySent s = .next (if s.transmitter.current = none then s
      else { s.later with transmitter := ⟨s.transmitter.busy, none, 0, none⟩ }) ∧
    (s.transmitter.current = none → exec .linkReset s = .next { s.later with
      receiver := ⟨.hunt, false, [], none, none⟩, transmitter := { s.transmitter with busy := none } }) ∧
    (∀ bytes, s.transmitter.current = some bytes → ∀ c, bytes[s.transmitter.place / 100]? = some c →
      exec .linkReset s = .next { s.later with
        receiver := ⟨.hunt, false, [], none, none⟩
        transmitter := ⟨none, none, s.transmitter.place % 100, some c⟩ })) ∧
  ∀ (x : Transmitter),
    (x.current = none → x.tail = none → x.ltxd = .high) ∧
    ∀ bytes, (x.current = some bytes ∨ (x.current = none ∧ ∃ b, x.tail = some b ∧ bytes = [b])) →
      (∀ i b j, bytes[i]? = some b → x.place / 10 = 10 * i + j →
        (j = 0 → x.ltxd = .low) ∧ (j = 9 → x.ltxd = .high) ∧
        ∀ m < 8, j = m + 1 → x.ltxd = if b.getLsbD m then .high else .low) ∧
      (100 * bytes.length ≤ x.place → x.ltxd = .high)

/-- REQUEST_FRAME with no frame in TAKEN does nothing (the model's choice, log 3). A frame in TAKEN leaves the receiver
in HUNT: an unknown kind gives LINK_ERROR KIND to an idle transmitter, a frame during a reply leaves one BUSY waiting,
and a payload of another length than the kind's is answered LENGTH; no block takes any of them (R171, R172, R177). For
every request command with every operand at every value: with its frame in TAKEN and no reply being sent, REQUEST_FRAME
does what the command does, and its reply goes to the transmitter (R166, R167, R172, R177; that the command and the
frame are the same operation is the model's reading, logs 1 and 2). Every request frame, character by character on LRXD
from HUNT, is in TAKEN whole after its last character, a restarted second being past (R166, R168, R169, R170; log
19). -/
def Obligations.RequestFrameIsReceivedAndTaken : Prop :=
  ((∀ (s : State) (lead length kind tag : Byte) (rest : List Byte),
    let payload := rest.take (length.toNat - 2)
    let answer := fun x : Transmitter =>
      Host.Outcome.next (φ := Fault) (ρ := Refusal) { s.later with
        receiver := ⟨.hunt, false, [], none, none⟩, transmitter := x }
    (s.receiver.mode ≠ .taken → exec .requestFrame s = .next s) ∧
    (s.receiver.mode = .taken → s.receiver.buffer = lead :: length :: kind :: tag :: rest →
      (payloadLength kind = none → exec .requestFrame s = answer
        (if s.transmitter.current = none ∧ s.transmitter.busy = none then
          ⟨some (replyFrame 0xFF tag ⟨.kind, []⟩), none, 0, none⟩ else s.transmitter)) ∧
      (payloadLength kind ≠ none → s.transmitter.current ≠ none → exec .requestFrame s = answer
        (if s.transmitter.busy = none then
          { s.transmitter with busy := some (replyFrame (kind ||| 0x80) tag ⟨.busy, []⟩) } else s.transmitter)) ∧
      (∀ n, payloadLength kind = some n → payload.length ≠ n → s.transmitter.current = none →
        exec .requestFrame s = answer
          ⟨some (replyFrame (kind ||| 0x80) tag ⟨.length, []⟩), s.transmitter.busy, 0, none⟩))) ∧
  ∀ (c : Instr) (kind tag : Byte) (payload : List Byte) (s : State), requestOf c = some (kind, payload) →
    s.receiver.mode = .taken → s.receiver.buffer = requestBytes kind tag payload → s.transmitter.current = none →
    ∃ t a, exec c s = .next t ∧ t.blockResult = some a ∧
      exec .requestFrame s = .next { t with
        receiver := ⟨.hunt, false, [], none, none⟩
        transmitter := ⟨some (replyFrame (kind ||| 0x80) tag a), t.transmitter.busy, 0, none⟩ }) ∧
  ∀ (s : State) (kind tag : Byte) (payload : List Byte), payload.length ≤ 248 →
    s.receiver.mode = .hunt → s.receiver.quietWait = false →
    (requestBytes kind tag payload).foldl State.hear s = { s.later with
      receiver := ⟨.taken, false, requestBytes kind tag payload, some (payload.length + 2), none⟩ }

/-! ### What every step keeps -/

/-- Every step keeps the law of the Notice Set: at most 48 notices in order of priority, one for a kind and subject,
counts 1 to 255, no kind of priority 1 masked, ALERT active exactly while a notice is held (R155, R157, R160, R163). -/
def Obligations.NoticeLawKept : Prop :=
  ∀ s t : State, s.noticeSet.Law → step s = .next t → t.noticeSet.Law

/-- Every step keeps the supply: on every trunk the free units and those held add up to the budget, URGENT entries stand
ahead of ROUTINE ones, and an empty queue has run count 0 (R83, R86, R87). -/
def Obligations.SupplyLawKept : Prop :=
  ∀ s t : State, s.SupplyLaw → step s = .next t → t.SupplyLaw

/-- Every step keeps the laws of the tables: holds with distinct ids, timed ones with 1 to 1439 minutes, and an input's
own hold among them (R121, R133), a BUSY only behind a reply and the place on LTXD inside what is sent (R174, R175), the
place on a trunk line inside its time (R103, R118), dates and times in range (R144, R153), leaders that lead themselves
(R38), addresses single (R8), OFF trunks without doors (R111), misses below the limit of a door that is not SILENT
(R107), each door timer in its own state and range (R1, R17, R21, R23), and one warn entry for a door, on its own trunk
(R117). -/
def Obligations.TableLawsKept : Prop :=
  ∀ s t : State, step s = .next t →
    (s.HoldLaw → t.HoldLaw) ∧ (s.clock.Law → t.clock.Law) ∧ (s.LeaderLaw → t.LeaderLaw) ∧
    (s.AddressLaw → t.AddressLaw) ∧ (s.OffLaw → t.OffLaw) ∧ (s.HealthLaw → t.HealthLaw) ∧
    (s.TimerLaw → t.TimerLaw) ∧ (s.WarnLaw → t.WarnLaw) ∧ (s.transmitter.Law → t.transmitter.Law) ∧
    ((∀ u, (s.trunk u).line.Law) → ∀ u, (t.trunk u).line.Law)

/-- Every step keeps the law of work: a door has one queue entry exactly while WAITING and one in-flight record exactly
while ACTING, on its own trunk (R4); and no queue holds a LOCK entry of a fire door while the fire state is not NORMAL
(R88). -/
def Obligations.WorkLawKept : Prop :=
  ∀ s t : State, s.WorkLaw → s.FireLaw → step s = .next t → t.WorkLaw ∧ t.FireLaw

/-- Every step keeps every zone state derived (R48, R49). -/
def Obligations.ZoneLawKept : Prop :=
  ∀ s t : State, s.ZoneLaw → step s = .next t → t.ZoneLaw

/-- Every step keeps the sweeps of different zones, without markers, and their counts equal to their linked doors (R52,
R54, R56). -/
def Obligations.SweepLawKept : Prop :=
  ∀ s t : State, s.SweepLaw → s.CountLaw → step s = .next t → t.SweepLaw ∧ t.CountLaw

/-- Every step keeps the sweeps at work: no sweep stays in ACTIVE without a pending door, and no zone waits while a slot
is free (R56, R59, R73). -/
def Obligations.NoSweepIdles : Prop :=
  ∀ s t : State, s.BusyLaw → step s = .next t → t.BusyLaw

/-- Every law holds at reset. -/
def Obligations.LawsHoldAtReset : Prop := State.reset.Laws
end

