-- ==== Sys2Proof/Laws/State.lean ====
section
/-! SUPPORT. Laws/State.lean: one lemma per field per update of State, and what each read of one record gives after a
write. Later proofs cite these and do not unfold a record update. -/

namespace Sys2Proof.Machine

/-! ### A record after a write -/

@[simp] theorem State.door_setDoor (s : State) (d e : DoorNo) (x : Door) :
    (s.setDoor d x).door e = if e = d then x else s.door e := by
  simp [State.setDoor, State.door, Vector.getElem_set, Fin.ext_iff, eq_comm]

@[simp] theorem State.zone_setZone (s : State) (z y : ZoneNo) (x : Zone) :
    (s.setZone z x).zone y = if y = z then x else s.zone y := by
  simp [State.setZone, State.zone, Vector.getElem_set, Fin.ext_iff, eq_comm]

@[simp] theorem State.slot_setSlot (s : State) (k j : SlotNo) (x : Option Sweep) :
    (s.setSlot k x).slot j = if j = k then x else s.slot j := by
  simp [State.setSlot, State.slot, Vector.getElem_set, Fin.ext_iff, eq_comm]

@[simp] theorem State.input_setInput (s : State) (i n : InputNo) (x : Input) :
    (s.setInput i x).input n = if n = i then x else s.input n := by
  simp [State.setInput, State.input, Vector.getElem_set, Fin.ext_iff, eq_comm]

@[simp] theorem trunkIdx_inj (t u : Trunk) : trunkIdx t = trunkIdx u ↔ t = u := by
  cases t <;> cases u <;> decide

@[simp] theorem State.trunk_setTrunk (s : State) (t u : Trunk) (x : TrunkState) :
    (s.setTrunk t x).trunk u = if u = t then x else s.trunk u := by
  have h : ((trunkIdx t).val = (trunkIdx u).val) ↔ u = t := by
    rw [← Fin.ext_iff, trunkIdx_inj, eq_comm]
  simp [State.setTrunk, State.trunk, Vector.getElem_set, h]

@[simp] theorem State.door_updDoor (s : State) (d e : DoorNo) (f : Door → Door) :
    (s.updDoor d f).door e = if e = d then f (s.door d) else s.door e := by simp [State.updDoor]

@[simp] theorem State.zone_updZone (s : State) (z y : ZoneNo) (f : Zone → Zone) :
    (s.updZone z f).zone y = if y = z then f (s.zone z) else s.zone y := by simp [State.updZone]

@[simp] theorem State.slot_updSlot (s : State) (k j : SlotNo) (f : Sweep → Sweep) :
    (s.updSlot k f).slot j = if j = k then (s.slot k).map f else s.slot j := by simp [State.updSlot]

@[simp] theorem State.trunk_updTrunk (s : State) (t u : Trunk) (f : TrunkState → TrunkState) :
    (s.updTrunk t f).trunk u = if u = t then f (s.trunk t) else s.trunk u := by simp [State.updTrunk]

@[simp] theorem State.input_updInput (s : State) (i n : InputNo) (f : Input → Input) :
    (s.updInput i f).input n = if n = i then f (s.input i) else s.input n := by simp [State.updInput]

/-! ### What `setDoor` leaves alone -/

@[simp] theorem State.zones_setDoor (s : State) (d : DoorNo) (x : Door) : (s.setDoor d x).zones = s.zones := rfl
@[simp] theorem State.slots_setDoor (s : State) (d : DoorNo) (x : Door) : (s.setDoor d x).slots = s.slots := rfl
@[simp] theorem State.classes_setDoor (s : State) (d : DoorNo) (x : Door) : (s.setDoor d x).classes = s.classes := rfl
@[simp] theorem State.trunks_setDoor (s : State) (d : DoorNo) (x : Door) : (s.setDoor d x).trunks = s.trunks := rfl
@[simp] theorem State.holds_setDoor (s : State) (d : DoorNo) (x : Door) : (s.setDoor d x).holds = s.holds := rfl
@[simp] theorem State.lastHoldId_setDoor (s : State) (d : DoorNo) (x : Door) : (s.setDoor d x).lastHoldId = s.lastHoldId := rfl
@[simp] theorem State.inputs_setDoor (s : State) (d : DoorNo) (x : Door) : (s.setDoor d x).inputs = s.inputs := rfl
@[simp] theorem State.fire_setDoor (s : State) (d : DoorNo) (x : Door) : (s.setDoor d x).fire = s.fire := rfl
@[simp] theorem State.clock_setDoor (s : State) (d : DoorNo) (x : Door) : (s.setDoor d x).clock = s.clock := rfl
@[simp] theorem State.noticeSet_setDoor (s : State) (d : DoorNo) (x : Door) : (s.setDoor d x).noticeSet = s.noticeSet := rfl
@[simp] theorem State.receiver_setDoor (s : State) (d : DoorNo) (x : Door) : (s.setDoor d x).receiver = s.receiver := rfl
@[simp] theorem State.transmitter_setDoor (s : State) (d : DoorNo) (x : Door) : (s.setDoor d x).transmitter = s.transmitter := rfl
@[simp] theorem State.rate_setDoor (s : State) (d : DoorNo) (x : Door) : (s.setDoor d x).rate = s.rate := rfl
@[simp] theorem State.blockResult_setDoor (s : State) (d : DoorNo) (x : Door) : (s.setDoor d x).blockResult = s.blockResult := rfl
@[simp] theorem State.pending_setDoor (s : State) (d : DoorNo) (x : Door) : (s.setDoor d x).pending = s.pending := rfl
@[simp] theorem State.zone_setDoor (s : State) (d : DoorNo) (x : Door) (y : ZoneNo) : (s.setDoor d x).zone y = s.zone y := rfl
@[simp] theorem State.slot_setDoor (s : State) (d : DoorNo) (x : Door) (j : SlotNo) : (s.setDoor d x).slot j = s.slot j := rfl
@[simp] theorem State.trunk_setDoor (s : State) (d : DoorNo) (x : Door) (w : Trunk) : (s.setDoor d x).trunk w = s.trunk w := rfl
@[simp] theorem State.input_setDoor (s : State) (d : DoorNo) (x : Door) (n : InputNo) : (s.setDoor d x).input n = s.input n := rfl
@[simp] theorem State.lockClass_setDoor (s : State) (d : DoorNo) (x : Door) (c : ClassNo) : (s.setDoor d x).lockClass c = s.lockClass c := rfl

/-! ### What `updDoor` leaves alone -/

@[simp] theorem State.zones_updDoor (s : State) (d : DoorNo) (f : Door → Door) : (s.updDoor d f).zones = s.zones := rfl
@[simp] theorem State.slots_updDoor (s : State) (d : DoorNo) (f : Door → Door) : (s.updDoor d f).slots = s.slots := rfl
@[simp] theorem State.classes_updDoor (s : State) (d : DoorNo) (f : Door → Door) : (s.updDoor d f).classes = s.classes := rfl
@[simp] theorem State.trunks_updDoor (s : State) (d : DoorNo) (f : Door → Door) : (s.updDoor d f).trunks = s.trunks := rfl
@[simp] theorem State.holds_updDoor (s : State) (d : DoorNo) (f : Door → Door) : (s.updDoor d f).holds = s.holds := rfl
@[simp] theorem State.lastHoldId_updDoor (s : State) (d : DoorNo) (f : Door → Door) : (s.updDoor d f).lastHoldId = s.lastHoldId := rfl
@[simp] theorem State.inputs_updDoor (s : State) (d : DoorNo) (f : Door → Door) : (s.updDoor d f).inputs = s.inputs := rfl
@[simp] theorem State.fire_updDoor (s : State) (d : DoorNo) (f : Door → Door) : (s.updDoor d f).fire = s.fire := rfl
@[simp] theorem State.clock_updDoor (s : State) (d : DoorNo) (f : Door → Door) : (s.updDoor d f).clock = s.clock := rfl
@[simp] theorem State.noticeSet_updDoor (s : State) (d : DoorNo) (f : Door → Door) : (s.updDoor d f).noticeSet = s.noticeSet := rfl
@[simp] theorem State.receiver_updDoor (s : State) (d : DoorNo) (f : Door → Door) : (s.updDoor d f).receiver = s.receiver := rfl
@[simp] theorem State.transmitter_updDoor (s : State) (d : DoorNo) (f : Door → Door) : (s.updDoor d f).transmitter = s.transmitter := rfl
@[simp] theorem State.rate_updDoor (s : State) (d : DoorNo) (f : Door → Door) : (s.updDoor d f).rate = s.rate := rfl
@[simp] theorem State.blockResult_updDoor (s : State) (d : DoorNo) (f : Door → Door) : (s.updDoor d f).blockResult = s.blockResult := rfl
@[simp] theorem State.pending_updDoor (s : State) (d : DoorNo) (f : Door → Door) : (s.updDoor d f).pending = s.pending := rfl
@[simp] theorem State.zone_updDoor (s : State) (d : DoorNo) (f : Door → Door) (y : ZoneNo) : (s.updDoor d f).zone y = s.zone y := rfl
@[simp] theorem State.slot_updDoor (s : State) (d : DoorNo) (f : Door → Door) (j : SlotNo) : (s.updDoor d f).slot j = s.slot j := rfl
@[simp] theorem State.trunk_updDoor (s : State) (d : DoorNo) (f : Door → Door) (w : Trunk) : (s.updDoor d f).trunk w = s.trunk w := rfl
@[simp] theorem State.input_updDoor (s : State) (d : DoorNo) (f : Door → Door) (n : InputNo) : (s.updDoor d f).input n = s.input n := rfl
@[simp] theorem State.lockClass_updDoor (s : State) (d : DoorNo) (f : Door → Door) (c : ClassNo) : (s.updDoor d f).lockClass c = s.lockClass c := rfl

/-! ### What `setZone` leaves alone -/

@[simp] theorem State.doors_setZone (s : State) (z : ZoneNo) (x : Zone) : (s.setZone z x).doors = s.doors := rfl
@[simp] theorem State.slots_setZone (s : State) (z : ZoneNo) (x : Zone) : (s.setZone z x).slots = s.slots := rfl
@[simp] theorem State.classes_setZone (s : State) (z : ZoneNo) (x : Zone) : (s.setZone z x).classes = s.classes := rfl
@[simp] theorem State.trunks_setZone (s : State) (z : ZoneNo) (x : Zone) : (s.setZone z x).trunks = s.trunks := rfl
@[simp] theorem State.holds_setZone (s : State) (z : ZoneNo) (x : Zone) : (s.setZone z x).holds = s.holds := rfl
@[simp] theorem State.lastHoldId_setZone (s : State) (z : ZoneNo) (x : Zone) : (s.setZone z x).lastHoldId = s.lastHoldId := rfl
@[simp] theorem State.inputs_setZone (s : State) (z : ZoneNo) (x : Zone) : (s.setZone z x).inputs = s.inputs := rfl
@[simp] theorem State.fire_setZone (s : State) (z : ZoneNo) (x : Zone) : (s.setZone z x).fire = s.fire := rfl
@[simp] theorem State.clock_setZone (s : State) (z : ZoneNo) (x : Zone) : (s.setZone z x).clock = s.clock := rfl
@[simp] theorem State.noticeSet_setZone (s : State) (z : ZoneNo) (x : Zone) : (s.setZone z x).noticeSet = s.noticeSet := rfl
@[simp] theorem State.receiver_setZone (s : State) (z : ZoneNo) (x : Zone) : (s.setZone z x).receiver = s.receiver := rfl
@[simp] theorem State.transmitter_setZone (s : State) (z : ZoneNo) (x : Zone) : (s.setZone z x).transmitter = s.transmitter := rfl
@[simp] theorem State.rate_setZone (s : State) (z : ZoneNo) (x : Zone) : (s.setZone z x).rate = s.rate := rfl
@[simp] theorem State.blockResult_setZone (s : State) (z : ZoneNo) (x : Zone) : (s.setZone z x).blockResult = s.blockResult := rfl
@[simp] theorem State.pending_setZone (s : State) (z : ZoneNo) (x : Zone) : (s.setZone z x).pending = s.pending := rfl
@[simp] theorem State.door_setZone (s : State) (z : ZoneNo) (x : Zone) (e : DoorNo) : (s.setZone z x).door e = s.door e := rfl
@[simp] theorem State.slot_setZone (s : State) (z : ZoneNo) (x : Zone) (j : SlotNo) : (s.setZone z x).slot j = s.slot j := rfl
@[simp] theorem State.trunk_setZone (s : State) (z : ZoneNo) (x : Zone) (w : Trunk) : (s.setZone z x).trunk w = s.trunk w := rfl
@[simp] theorem State.input_setZone (s : State) (z : ZoneNo) (x : Zone) (n : InputNo) : (s.setZone z x).input n = s.input n := rfl
@[simp] theorem State.lockClass_setZone (s : State) (z : ZoneNo) (x : Zone) (c : ClassNo) : (s.setZone z x).lockClass c = s.lockClass c := rfl

/-! ### What `updZone` leaves alone -/

@[simp] theorem State.doors_updZone (s : State) (z : ZoneNo) (f : Zone → Zone) : (s.updZone z f).doors = s.doors := rfl
@[simp] theorem State.slots_updZone (s : State) (z : ZoneNo) (f : Zone → Zone) : (s.updZone z f).slots = s.slots := rfl
@[simp] theorem State.classes_updZone (s : State) (z : ZoneNo) (f : Zone → Zone) : (s.updZone z f).classes = s.classes := rfl
@[simp] theorem State.trunks_updZone (s : State) (z : ZoneNo) (f : Zone → Zone) : (s.updZone z f).trunks = s.trunks := rfl
@[simp] theorem State.holds_updZone (s : State) (z : ZoneNo) (f : Zone → Zone) : (s.updZone z f).holds = s.holds := rfl
@[simp] theorem State.lastHoldId_updZone (s : State) (z : ZoneNo) (f : Zone → Zone) : (s.updZone z f).lastHoldId = s.lastHoldId := rfl
@[simp] theorem State.inputs_updZone (s : State) (z : ZoneNo) (f : Zone → Zone) : (s.updZone z f).inputs = s.inputs := rfl
@[simp] theorem State.fire_updZone (s : State) (z : ZoneNo) (f : Zone → Zone) : (s.updZone z f).fire = s.fire := rfl
@[simp] theorem State.clock_updZone (s : State) (z : ZoneNo) (f : Zone → Zone) : (s.updZone z f).clock = s.clock := rfl
@[simp] theorem State.noticeSet_updZone (s : State) (z : ZoneNo) (f : Zone → Zone) : (s.updZone z f).noticeSet = s.noticeSet := rfl
@[simp] theorem State.receiver_updZone (s : State) (z : ZoneNo) (f : Zone → Zone) : (s.updZone z f).receiver = s.receiver := rfl
@[simp] theorem State.transmitter_updZone (s : State) (z : ZoneNo) (f : Zone → Zone) : (s.updZone z f).transmitter = s.transmitter := rfl
@[simp] theorem State.rate_updZone (s : State) (z : ZoneNo) (f : Zone → Zone) : (s.updZone z f).rate = s.rate := rfl
@[simp] theorem State.blockResult_updZone (s : State) (z : ZoneNo) (f : Zone → Zone) : (s.updZone z f).blockResult = s.blockResult := rfl
@[simp] theorem State.pending_updZone (s : State) (z : ZoneNo) (f : Zone → Zone) : (s.updZone z f).pending = s.pending := rfl
@[simp] theorem State.door_updZone (s : State) (z : ZoneNo) (f : Zone → Zone) (e : DoorNo) : (s.updZone z f).door e = s.door e := rfl
@[simp] theorem State.slot_updZone (s : State) (z : ZoneNo) (f : Zone → Zone) (j : SlotNo) : (s.updZone z f).slot j = s.slot j := rfl
@[simp] theorem State.trunk_updZone (s : State) (z : ZoneNo) (f : Zone → Zone) (w : Trunk) : (s.updZone z f).trunk w = s.trunk w := rfl
@[simp] theorem State.input_updZone (s : State) (z : ZoneNo) (f : Zone → Zone) (n : InputNo) : (s.updZone z f).input n = s.input n := rfl
@[simp] theorem State.lockClass_updZone (s : State) (z : ZoneNo) (f : Zone → Zone) (c : ClassNo) : (s.updZone z f).lockClass c = s.lockClass c := rfl

/-! ### What `setSlot` leaves alone -/

@[simp] theorem State.doors_setSlot (s : State) (k : SlotNo) (x : Option Sweep) : (s.setSlot k x).doors = s.doors := rfl
@[simp] theorem State.zones_setSlot (s : State) (k : SlotNo) (x : Option Sweep) : (s.setSlot k x).zones = s.zones := rfl
@[simp] theorem State.classes_setSlot (s : State) (k : SlotNo) (x : Option Sweep) : (s.setSlot k x).classes = s.classes := rfl
@[simp] theorem State.trunks_setSlot (s : State) (k : SlotNo) (x : Option Sweep) : (s.setSlot k x).trunks = s.trunks := rfl
@[simp] theorem State.holds_setSlot (s : State) (k : SlotNo) (x : Option Sweep) : (s.setSlot k x).holds = s.holds := rfl
@[simp] theorem State.lastHoldId_setSlot (s : State) (k : SlotNo) (x : Option Sweep) : (s.setSlot k x).lastHoldId = s.lastHoldId := rfl
@[simp] theorem State.inputs_setSlot (s : State) (k : SlotNo) (x : Option Sweep) : (s.setSlot k x).inputs = s.inputs := rfl
@[simp] theorem State.fire_setSlot (s : State) (k : SlotNo) (x : Option Sweep) : (s.setSlot k x).fire = s.fire := rfl
@[simp] theorem State.clock_setSlot (s : State) (k : SlotNo) (x : Option Sweep) : (s.setSlot k x).clock = s.clock := rfl
@[simp] theorem State.noticeSet_setSlot (s : State) (k : SlotNo) (x : Option Sweep) : (s.setSlot k x).noticeSet = s.noticeSet := rfl
@[simp] theorem State.receiver_setSlot (s : State) (k : SlotNo) (x : Option Sweep) : (s.setSlot k x).receiver = s.receiver := rfl
@[simp] theorem State.transmitter_setSlot (s : State) (k : SlotNo) (x : Option Sweep) : (s.setSlot k x).transmitter = s.transmitter := rfl
@[simp] theorem State.rate_setSlot (s : State) (k : SlotNo) (x : Option Sweep) : (s.setSlot k x).rate = s.rate := rfl
@[simp] theorem State.blockResult_setSlot (s : State) (k : SlotNo) (x : Option Sweep) : (s.setSlot k x).blockResult = s.blockResult := rfl
@[simp] theorem State.pending_setSlot (s : State) (k : SlotNo) (x : Option Sweep) : (s.setSlot k x).pending = s.pending := rfl
@[simp] theorem State.door_setSlot (s : State) (k : SlotNo) (x : Option Sweep) (e : DoorNo) : (s.setSlot k x).door e = s.door e := rfl
@[simp] theorem State.zone_setSlot (s : State) (k : SlotNo) (x : Option Sweep) (y : ZoneNo) : (s.setSlot k x).zone y = s.zone y := rfl
@[simp] theorem State.trunk_setSlot (s : State) (k : SlotNo) (x : Option Sweep) (w : Trunk) : (s.setSlot k x).trunk w = s.trunk w := rfl
@[simp] theorem State.input_setSlot (s : State) (k : SlotNo) (x : Option Sweep) (n : InputNo) : (s.setSlot k x).input n = s.input n := rfl
@[simp] theorem State.lockClass_setSlot (s : State) (k : SlotNo) (x : Option Sweep) (c : ClassNo) : (s.setSlot k x).lockClass c = s.lockClass c := rfl

/-! ### What `updSlot` leaves alone -/

@[simp] theorem State.doors_updSlot (s : State) (k : SlotNo) (f : Sweep → Sweep) : (s.updSlot k f).doors = s.doors := rfl
@[simp] theorem State.zones_updSlot (s : State) (k : SlotNo) (f : Sweep → Sweep) : (s.updSlot k f).zones = s.zones := rfl
@[simp] theorem State.classes_updSlot (s : State) (k : SlotNo) (f : Sweep → Sweep) : (s.updSlot k f).classes = s.classes := rfl
@[simp] theorem State.trunks_updSlot (s : State) (k : SlotNo) (f : Sweep → Sweep) : (s.updSlot k f).trunks = s.trunks := rfl
@[simp] theorem State.holds_updSlot (s : State) (k : SlotNo) (f : Sweep → Sweep) : (s.updSlot k f).holds = s.holds := rfl
@[simp] theorem State.lastHoldId_updSlot (s : State) (k : SlotNo) (f : Sweep → Sweep) : (s.updSlot k f).lastHoldId = s.lastHoldId := rfl
@[simp] theorem State.inputs_updSlot (s : State) (k : SlotNo) (f : Sweep → Sweep) : (s.updSlot k f).inputs = s.inputs := rfl
@[simp] theorem State.fire_updSlot (s : State) (k : SlotNo) (f : Sweep → Sweep) : (s.updSlot k f).fire = s.fire := rfl
@[simp] theorem State.clock_updSlot (s : State) (k : SlotNo) (f : Sweep → Sweep) : (s.updSlot k f).clock = s.clock := rfl
@[simp] theorem State.noticeSet_updSlot (s : State) (k : SlotNo) (f : Sweep → Sweep) : (s.updSlot k f).noticeSet = s.noticeSet := rfl
@[simp] theorem State.receiver_updSlot (s : State) (k : SlotNo) (f : Sweep → Sweep) : (s.updSlot k f).receiver = s.receiver := rfl
@[simp] theorem State.transmitter_updSlot (s : State) (k : SlotNo) (f : Sweep → Sweep) : (s.updSlot k f).transmitter = s.transmitter := rfl
@[simp] theorem State.rate_updSlot (s : State) (k : SlotNo) (f : Sweep → Sweep) : (s.updSlot k f).rate = s.rate := rfl
@[simp] theorem State.blockResult_updSlot (s : State) (k : SlotNo) (f : Sweep → Sweep) : (s.updSlot k f).blockResult = s.blockResult := rfl
@[simp] theorem State.pending_updSlot (s : State) (k : SlotNo) (f : Sweep → Sweep) : (s.updSlot k f).pending = s.pending := rfl
@[simp] theorem State.door_updSlot (s : State) (k : SlotNo) (f : Sweep → Sweep) (e : DoorNo) : (s.updSlot k f).door e = s.door e := rfl
@[simp] theorem State.zone_updSlot (s : State) (k : SlotNo) (f : Sweep → Sweep) (y : ZoneNo) : (s.updSlot k f).zone y = s.zone y := rfl
@[simp] theorem State.trunk_updSlot (s : State) (k : SlotNo) (f : Sweep → Sweep) (w : Trunk) : (s.updSlot k f).trunk w = s.trunk w := rfl
@[simp] theorem State.input_updSlot (s : State) (k : SlotNo) (f : Sweep → Sweep) (n : InputNo) : (s.updSlot k f).input n = s.input n := rfl
@[simp] theorem State.lockClass_updSlot (s : State) (k : SlotNo) (f : Sweep → Sweep) (c : ClassNo) : (s.updSlot k f).lockClass c = s.lockClass c := rfl

/-! ### What `setTrunk` leaves alone -/

@[simp] theorem State.doors_setTrunk (s : State) (t : Trunk) (x : TrunkState) : (s.setTrunk t x).doors = s.doors := rfl
@[simp] theorem State.zones_setTrunk (s : State) (t : Trunk) (x : TrunkState) : (s.setTrunk t x).zones = s.zones := rfl
@[simp] theorem State.slots_setTrunk (s : State) (t : Trunk) (x : TrunkState) : (s.setTrunk t x).slots = s.slots := rfl
@[simp] theorem State.classes_setTrunk (s : State) (t : Trunk) (x : TrunkState) : (s.setTrunk t x).classes = s.classes := rfl
@[simp] theorem State.holds_setTrunk (s : State) (t : Trunk) (x : TrunkState) : (s.setTrunk t x).holds = s.holds := rfl
@[simp] theorem State.lastHoldId_setTrunk (s : State) (t : Trunk) (x : TrunkState) : (s.setTrunk t x).lastHoldId = s.lastHoldId := rfl
@[simp] theorem State.inputs_setTrunk (s : State) (t : Trunk) (x : TrunkState) : (s.setTrunk t x).inputs = s.inputs := rfl
@[simp] theorem State.fire_setTrunk (s : State) (t : Trunk) (x : TrunkState) : (s.setTrunk t x).fire = s.fire := rfl
@[simp] theorem State.clock_setTrunk (s : State) (t : Trunk) (x : TrunkState) : (s.setTrunk t x).clock = s.clock := rfl
@[simp] theorem State.noticeSet_setTrunk (s : State) (t : Trunk) (x : TrunkState) : (s.setTrunk t x).noticeSet = s.noticeSet := rfl
@[simp] theorem State.receiver_setTrunk (s : State) (t : Trunk) (x : TrunkState) : (s.setTrunk t x).receiver = s.receiver := rfl
@[simp] theorem State.transmitter_setTrunk (s : State) (t : Trunk) (x : TrunkState) : (s.setTrunk t x).transmitter = s.transmitter := rfl
@[simp] theorem State.rate_setTrunk (s : State) (t : Trunk) (x : TrunkState) : (s.setTrunk t x).rate = s.rate := rfl
@[simp] theorem State.blockResult_setTrunk (s : State) (t : Trunk) (x : TrunkState) : (s.setTrunk t x).blockResult = s.blockResult := rfl
@[simp] theorem State.pending_setTrunk (s : State) (t : Trunk) (x : TrunkState) : (s.setTrunk t x).pending = s.pending := rfl
@[simp] theorem State.door_setTrunk (s : State) (t : Trunk) (x : TrunkState) (e : DoorNo) : (s.setTrunk t x).door e = s.door e := rfl
@[simp] theorem State.zone_setTrunk (s : State) (t : Trunk) (x : TrunkState) (y : ZoneNo) : (s.setTrunk t x).zone y = s.zone y := rfl
@[simp] theorem State.slot_setTrunk (s : State) (t : Trunk) (x : TrunkState) (j : SlotNo) : (s.setTrunk t x).slot j = s.slot j := rfl
@[simp] theorem State.input_setTrunk (s : State) (t : Trunk) (x : TrunkState) (n : InputNo) : (s.setTrunk t x).input n = s.input n := rfl
@[simp] theorem State.lockClass_setTrunk (s : State) (t : Trunk) (x : TrunkState) (c : ClassNo) : (s.setTrunk t x).lockClass c = s.lockClass c := rfl

/-! ### What `updTrunk` leaves alone -/

@[simp] theorem State.doors_updTrunk (s : State) (t : Trunk) (f : TrunkState → TrunkState) : (s.updTrunk t f).doors = s.doors := rfl
@[simp] theorem State.zones_updTrunk (s : State) (t : Trunk) (f : TrunkState → TrunkState) : (s.updTrunk t f).zones = s.zones := rfl
@[simp] theorem State.slots_updTrunk (s : State) (t : Trunk) (f : TrunkState → TrunkState) : (s.updTrunk t f).slots = s.slots := rfl
@[simp] theorem State.classes_updTrunk (s : State) (t : Trunk) (f : TrunkState → TrunkState) : (s.updTrunk t f).classes = s.classes := rfl
@[simp] theorem State.holds_updTrunk (s : State) (t : Trunk) (f : TrunkState → TrunkState) : (s.updTrunk t f).holds = s.holds := rfl
@[simp] theorem State.lastHoldId_updTrunk (s : State) (t : Trunk) (f : TrunkState → TrunkState) : (s.updTrunk t f).lastHoldId = s.lastHoldId := rfl
@[simp] theorem State.inputs_updTrunk (s : State) (t : Trunk) (f : TrunkState → TrunkState) : (s.updTrunk t f).inputs = s.inputs := rfl
@[simp] theorem State.fire_updTrunk (s : State) (t : Trunk) (f : TrunkState → TrunkState) : (s.updTrunk t f).fire = s.fire := rfl
@[simp] theorem State.clock_updTrunk (s : State) (t : Trunk) (f : TrunkState → TrunkState) : (s.updTrunk t f).clock = s.clock := rfl
@[simp] theorem State.noticeSet_updTrunk (s : State) (t : Trunk) (f : TrunkState → TrunkState) : (s.updTrunk t f).noticeSet = s.noticeSet := rfl
@[simp] theorem State.receiver_updTrunk (s : State) (t : Trunk) (f : TrunkState → TrunkState) : (s.updTrunk t f).receiver = s.receiver := rfl
@[simp] theorem State.transmitter_updTrunk (s : State) (t : Trunk) (f : TrunkState → TrunkState) : (s.updTrunk t f).transmitter = s.transmitter := rfl
@[simp] theorem State.rate_updTrunk (s : State) (t : Trunk) (f : TrunkState → TrunkState) : (s.updTrunk t f).rate = s.rate := rfl
@[simp] theorem State.blockResult_updTrunk (s : State) (t : Trunk) (f : TrunkState → TrunkState) : (s.updTrunk t f).blockResult = s.blockResult := rfl
@[simp] theorem State.pending_updTrunk (s : State) (t : Trunk) (f : TrunkState → TrunkState) : (s.updTrunk t f).pending = s.pending := rfl
@[simp] theorem State.door_updTrunk (s : State) (t : Trunk) (f : TrunkState → TrunkState) (e : DoorNo) : (s.updTrunk t f).door e = s.door e := rfl
@[simp] theorem State.zone_updTrunk (s : State) (t : Trunk) (f : TrunkState → TrunkState) (y : ZoneNo) : (s.updTrunk t f).zone y = s.zone y := rfl
@[simp] theorem State.slot_updTrunk (s : State) (t : Trunk) (f : TrunkState → TrunkState) (j : SlotNo) : (s.updTrunk t f).slot j = s.slot j := rfl
@[simp] theorem State.input_updTrunk (s : State) (t : Trunk) (f : TrunkState → TrunkState) (n : InputNo) : (s.updTrunk t f).input n = s.input n := rfl
@[simp] theorem State.lockClass_updTrunk (s : State) (t : Trunk) (f : TrunkState → TrunkState) (c : ClassNo) : (s.updTrunk t f).lockClass c = s.lockClass c := rfl

/-! ### What `setInput` leaves alone -/

@[simp] theorem State.doors_setInput (s : State) (i : InputNo) (x : Input) : (s.setInput i x).doors = s.doors := rfl
@[simp] theorem State.zones_setInput (s : State) (i : InputNo) (x : Input) : (s.setInput i x).zones = s.zones := rfl
@[simp] theorem State.slots_setInput (s : State) (i : InputNo) (x : Input) : (s.setInput i x).slots = s.slots := rfl
@[simp] theorem State.classes_setInput (s : State) (i : InputNo) (x : Input) : (s.setInput i x).classes = s.classes := rfl
@[simp] theorem State.trunks_setInput (s : State) (i : InputNo) (x : Input) : (s.setInput i x).trunks = s.trunks := rfl
@[simp] theorem State.holds_setInput (s : State) (i : InputNo) (x : Input) : (s.setInput i x).holds = s.holds := rfl
@[simp] theorem State.lastHoldId_setInput (s : State) (i : InputNo) (x : Input) : (s.setInput i x).lastHoldId = s.lastHoldId := rfl
@[simp] theorem State.fire_setInput (s : State) (i : InputNo) (x : Input) : (s.setInput i x).fire = s.fire := rfl
@[simp] theorem State.clock_setInput (s : State) (i : InputNo) (x : Input) : (s.setInput i x).clock = s.clock := rfl
@[simp] theorem State.noticeSet_setInput (s : State) (i : InputNo) (x : Input) : (s.setInput i x).noticeSet = s.noticeSet := rfl
@[simp] theorem State.receiver_setInput (s : State) (i : InputNo) (x : Input) : (s.setInput i x).receiver = s.receiver := rfl
@[simp] theorem State.transmitter_setInput (s : State) (i : InputNo) (x : Input) : (s.setInput i x).transmitter = s.transmitter := rfl
@[simp] theorem State.rate_setInput (s : State) (i : InputNo) (x : Input) : (s.setInput i x).rate = s.rate := rfl
@[simp] theorem State.blockResult_setInput (s : State) (i : InputNo) (x : Input) : (s.setInput i x).blockResult = s.blockResult := rfl
@[simp] theorem State.pending_setInput (s : State) (i : InputNo) (x : Input) : (s.setInput i x).pending = s.pending := rfl
@[simp] theorem State.door_setInput (s : State) (i : InputNo) (x : Input) (e : DoorNo) : (s.setInput i x).door e = s.door e := rfl
@[simp] theorem State.zone_setInput (s : State) (i : InputNo) (x : Input) (y : ZoneNo) : (s.setInput i x).zone y = s.zone y := rfl
@[simp] theorem State.slot_setInput (s : State) (i : InputNo) (x : Input) (j : SlotNo) : (s.setInput i x).slot j = s.slot j := rfl
@[simp] theorem State.trunk_setInput (s : State) (i : InputNo) (x : Input) (w : Trunk) : (s.setInput i x).trunk w = s.trunk w := rfl
@[simp] theorem State.lockClass_setInput (s : State) (i : InputNo) (x : Input) (c : ClassNo) : (s.setInput i x).lockClass c = s.lockClass c := rfl

/-! ### What `updInput` leaves alone -/

@[simp] theorem State.doors_updInput (s : State) (i : InputNo) (f : Input → Input) : (s.updInput i f).doors = s.doors := rfl
@[simp] theorem State.zones_updInput (s : State) (i : InputNo) (f : Input → Input) : (s.updInput i f).zones = s.zones := rfl
@[simp] theorem State.slots_updInput (s : State) (i : InputNo) (f : Input → Input) : (s.updInput i f).slots = s.slots := rfl
@[simp] theorem State.classes_updInput (s : State) (i : InputNo) (f : Input → Input) : (s.updInput i f).classes = s.classes := rfl
@[simp] theorem State.trunks_updInput (s : State) (i : InputNo) (f : Input → Input) : (s.updInput i f).trunks = s.trunks := rfl
@[simp] theorem State.holds_updInput (s : State) (i : InputNo) (f : Input → Input) : (s.updInput i f).holds = s.holds := rfl
@[simp] theorem State.lastHoldId_updInput (s : State) (i : InputNo) (f : Input → Input) : (s.updInput i f).lastHoldId = s.lastHoldId := rfl
@[simp] theorem State.fire_updInput (s : State) (i : InputNo) (f : Input → Input) : (s.updInput i f).fire = s.fire := rfl
@[simp] theorem State.clock_updInput (s : State) (i : InputNo) (f : Input → Input) : (s.updInput i f).clock = s.clock := rfl
@[simp] theorem State.noticeSet_updInput (s : State) (i : InputNo) (f : Input → Input) : (s.updInput i f).noticeSet = s.noticeSet := rfl
@[simp] theorem State.receiver_updInput (s : State) (i : InputNo) (f : Input → Input) : (s.updInput i f).receiver = s.receiver := rfl
@[simp] theorem State.transmitter_updInput (s : State) (i : InputNo) (f : Input → Input) : (s.updInput i f).transmitter = s.transmitter := rfl
@[simp] theorem State.rate_updInput (s : State) (i : InputNo) (f : Input → Input) : (s.updInput i f).rate = s.rate := rfl
@[simp] theorem State.blockResult_updInput (s : State) (i : InputNo) (f : Input → Input) : (s.updInput i f).blockResult = s.blockResult := rfl
@[simp] theorem State.pending_updInput (s : State) (i : InputNo) (f : Input → Input) : (s.updInput i f).pending = s.pending := rfl
@[simp] theorem State.door_updInput (s : State) (i : InputNo) (f : Input → Input) (e : DoorNo) : (s.updInput i f).door e = s.door e := rfl
@[simp] theorem State.zone_updInput (s : State) (i : InputNo) (f : Input → Input) (y : ZoneNo) : (s.updInput i f).zone y = s.zone y := rfl
@[simp] theorem State.slot_updInput (s : State) (i : InputNo) (f : Input → Input) (j : SlotNo) : (s.updInput i f).slot j = s.slot j := rfl
@[simp] theorem State.trunk_updInput (s : State) (i : InputNo) (f : Input → Input) (w : Trunk) : (s.updInput i f).trunk w = s.trunk w := rfl
@[simp] theorem State.lockClass_updInput (s : State) (i : InputNo) (f : Input → Input) (c : ClassNo) : (s.updInput i f).lockClass c = s.lockClass c := rfl

/-! ### What `raise` leaves alone -/

@[simp] theorem State.doors_raise (s : State) (k : NoticeKind) (u : Subject) (v : Detail) : (s.raise k u v).doors = s.doors := rfl
@[simp] theorem State.zones_raise (s : State) (k : NoticeKind) (u : Subject) (v : Detail) : (s.raise k u v).zones = s.zones := rfl
@[simp] theorem State.slots_raise (s : State) (k : NoticeKind) (u : Subject) (v : Detail) : (s.raise k u v).slots = s.slots := rfl
@[simp] theorem State.classes_raise (s : State) (k : NoticeKind) (u : Subject) (v : Detail) : (s.raise k u v).classes = s.classes := rfl
@[simp] theorem State.trunks_raise (s : State) (k : NoticeKind) (u : Subject) (v : Detail) : (s.raise k u v).trunks = s.trunks := rfl
@[simp] theorem State.holds_raise (s : State) (k : NoticeKind) (u : Subject) (v : Detail) : (s.raise k u v).holds = s.holds := rfl
@[simp] theorem State.lastHoldId_raise (s : State) (k : NoticeKind) (u : Subject) (v : Detail) : (s.raise k u v).lastHoldId = s.lastHoldId := rfl
@[simp] theorem State.inputs_raise (s : State) (k : NoticeKind) (u : Subject) (v : Detail) : (s.raise k u v).inputs = s.inputs := rfl
@[simp] theorem State.fire_raise (s : State) (k : NoticeKind) (u : Subject) (v : Detail) : (s.raise k u v).fire = s.fire := rfl
@[simp] theorem State.clock_raise (s : State) (k : NoticeKind) (u : Subject) (v : Detail) : (s.raise k u v).clock = s.clock := rfl
@[simp] theorem State.receiver_raise (s : State) (k : NoticeKind) (u : Subject) (v : Detail) : (s.raise k u v).receiver = s.receiver := rfl
@[simp] theorem State.transmitter_raise (s : State) (k : NoticeKind) (u : Subject) (v : Detail) : (s.raise k u v).transmitter = s.transmitter := rfl
@[simp] theorem State.rate_raise (s : State) (k : NoticeKind) (u : Subject) (v : Detail) : (s.raise k u v).rate = s.rate := rfl
@[simp] theorem State.blockResult_raise (s : State) (k : NoticeKind) (u : Subject) (v : Detail) : (s.raise k u v).blockResult = s.blockResult := rfl
@[simp] theorem State.pending_raise (s : State) (k : NoticeKind) (u : Subject) (v : Detail) : (s.raise k u v).pending = s.pending := rfl
@[simp] theorem State.door_raise (s : State) (k : NoticeKind) (u : Subject) (v : Detail) (e : DoorNo) : (s.raise k u v).door e = s.door e := rfl
@[simp] theorem State.zone_raise (s : State) (k : NoticeKind) (u : Subject) (v : Detail) (y : ZoneNo) : (s.raise k u v).zone y = s.zone y := rfl
@[simp] theorem State.slot_raise (s : State) (k : NoticeKind) (u : Subject) (v : Detail) (j : SlotNo) : (s.raise k u v).slot j = s.slot j := rfl
@[simp] theorem State.trunk_raise (s : State) (k : NoticeKind) (u : Subject) (v : Detail) (w : Trunk) : (s.raise k u v).trunk w = s.trunk w := rfl
@[simp] theorem State.input_raise (s : State) (k : NoticeKind) (u : Subject) (v : Detail) (n : InputNo) : (s.raise k u v).input n = s.input n := rfl
@[simp] theorem State.lockClass_raise (s : State) (k : NoticeKind) (u : Subject) (v : Detail) (c : ClassNo) : (s.raise k u v).lockClass c = s.lockClass c := rfl

/-! ### What `raiseDoor` leaves alone -/

@[simp] theorem State.doors_raiseDoor (s : State) (k : NoticeKind) (d : DoorNo) : (s.raiseDoor k d).doors = s.doors := rfl
@[simp] theorem State.zones_raiseDoor (s : State) (k : NoticeKind) (d : DoorNo) : (s.raiseDoor k d).zones = s.zones := rfl
@[simp] theorem State.slots_raiseDoor (s : State) (k : NoticeKind) (d : DoorNo) : (s.raiseDoor k d).slots = s.slots := rfl
@[simp] theorem State.classes_raiseDoor (s : State) (k : NoticeKind) (d : DoorNo) : (s.raiseDoor k d).classes = s.classes := rfl
@[simp] theorem State.trunks_raiseDoor (s : State) (k : NoticeKind) (d : DoorNo) : (s.raiseDoor k d).trunks = s.trunks := rfl
@[simp] theorem State.holds_raiseDoor (s : State) (k : NoticeKind) (d : DoorNo) : (s.raiseDoor k d).holds = s.holds := rfl
@[simp] theorem State.lastHoldId_raiseDoor (s : State) (k : NoticeKind) (d : DoorNo) : (s.raiseDoor k d).lastHoldId = s.lastHoldId := rfl
@[simp] theorem State.inputs_raiseDoor (s : State) (k : NoticeKind) (d : DoorNo) : (s.raiseDoor k d).inputs = s.inputs := rfl
@[simp] theorem State.fire_raiseDoor (s : State) (k : NoticeKind) (d : DoorNo) : (s.raiseDoor k d).fire = s.fire := rfl
@[simp] theorem State.clock_raiseDoor (s : State) (k : NoticeKind) (d : DoorNo) : (s.raiseDoor k d).clock = s.clock := rfl
@[simp] theorem State.receiver_raiseDoor (s : State) (k : NoticeKind) (d : DoorNo) : (s.raiseDoor k d).receiver = s.receiver := rfl
@[simp] theorem State.transmitter_raiseDoor (s : State) (k : NoticeKind) (d : DoorNo) : (s.raiseDoor k d).transmitter = s.transmitter := rfl
@[simp] theorem State.rate_raiseDoor (s : State) (k : NoticeKind) (d : DoorNo) : (s.raiseDoor k d).rate = s.rate := rfl
@[simp] theorem State.blockResult_raiseDoor (s : State) (k : NoticeKind) (d : DoorNo) : (s.raiseDoor k d).blockResult = s.blockResult := rfl
@[simp] theorem State.pending_raiseDoor (s : State) (k : NoticeKind) (d : DoorNo) : (s.raiseDoor k d).pending = s.pending := rfl
@[simp] theorem State.door_raiseDoor (s : State) (k : NoticeKind) (d : DoorNo) (e : DoorNo) : (s.raiseDoor k d).door e = s.door e := rfl
@[simp] theorem State.zone_raiseDoor (s : State) (k : NoticeKind) (d : DoorNo) (y : ZoneNo) : (s.raiseDoor k d).zone y = s.zone y := rfl
@[simp] theorem State.slot_raiseDoor (s : State) (k : NoticeKind) (d : DoorNo) (j : SlotNo) : (s.raiseDoor k d).slot j = s.slot j := rfl
@[simp] theorem State.trunk_raiseDoor (s : State) (k : NoticeKind) (d : DoorNo) (w : Trunk) : (s.raiseDoor k d).trunk w = s.trunk w := rfl
@[simp] theorem State.input_raiseDoor (s : State) (k : NoticeKind) (d : DoorNo) (n : InputNo) : (s.raiseDoor k d).input n = s.input n := rfl
@[simp] theorem State.lockClass_raiseDoor (s : State) (k : NoticeKind) (d : DoorNo) (c : ClassNo) : (s.raiseDoor k d).lockClass c = s.lockClass c := rfl

/-! ### Raising -/

@[simp] theorem State.noticeSet_raise (s : State) (k : NoticeKind) (u : Subject) (v : Detail) :
    (s.raise k u v).noticeSet = s.noticeSet.raise s.clock.stamp k u v := rfl

@[simp] theorem State.noticeSet_raiseDoor (s : State) (k : NoticeKind) (d : DoorNo) :
    (s.raiseDoor k d).noticeSet = s.noticeSet.raise s.clock.stamp k (.door d) (s.doorDetail d) := rfl

/-! ### A read of one record after a change of another field -/

@[simp] theorem State.door_with_fire (s : State) (q : FireState) (e : DoorNo) : State.door { s with fire := q } e = s.door e := rfl
@[simp] theorem State.zone_with_fire (s : State) (q : FireState) (y : ZoneNo) : State.zone { s with fire := q } y = s.zone y := rfl
@[simp] theorem State.slot_with_fire (s : State) (q : FireState) (j : SlotNo) : State.slot { s with fire := q } j = s.slot j := rfl
@[simp] theorem State.trunk_with_fire (s : State) (q : FireState) (w : Trunk) : State.trunk { s with fire := q } w = s.trunk w := rfl
@[simp] theorem State.input_with_fire (s : State) (q : FireState) (n : InputNo) : State.input { s with fire := q } n = s.input n := rfl
@[simp] theorem State.lockClass_with_fire (s : State) (q : FireState) (c : ClassNo) : State.lockClass { s with fire := q } c = s.lockClass c := rfl
@[simp] theorem State.door_with_clock (s : State) (q : Clock) (e : DoorNo) : State.door { s with clock := q } e = s.door e := rfl
@[simp] theorem State.zone_with_clock (s : State) (q : Clock) (y : ZoneNo) : State.zone { s with clock := q } y = s.zone y := rfl
@[simp] theorem State.slot_with_clock (s : State) (q : Clock) (j : SlotNo) : State.slot { s with clock := q } j = s.slot j := rfl
@[simp] theorem State.trunk_with_clock (s : State) (q : Clock) (w : Trunk) : State.trunk { s with clock := q } w = s.trunk w := rfl
@[simp] theorem State.input_with_clock (s : State) (q : Clock) (n : InputNo) : State.input { s with clock := q } n = s.input n := rfl
@[simp] theorem State.lockClass_with_clock (s : State) (q : Clock) (c : ClassNo) : State.lockClass { s with clock := q } c = s.lockClass c := rfl
@[simp] theorem State.door_with_noticeSet (s : State) (q : NoticeSet) (e : DoorNo) : State.door { s with noticeSet := q } e = s.door e := rfl
@[simp] theorem State.zone_with_noticeSet (s : State) (q : NoticeSet) (y : ZoneNo) : State.zone { s with noticeSet := q } y = s.zone y := rfl
@[simp] theorem State.slot_with_noticeSet (s : State) (q : NoticeSet) (j : SlotNo) : State.slot { s with noticeSet := q } j = s.slot j := rfl
@[simp] theorem State.trunk_with_noticeSet (s : State) (q : NoticeSet) (w : Trunk) : State.trunk { s with noticeSet := q } w = s.trunk w := rfl
@[simp] theorem State.input_with_noticeSet (s : State) (q : NoticeSet) (n : InputNo) : State.input { s with noticeSet := q } n = s.input n := rfl
@[simp] theorem State.lockClass_with_noticeSet (s : State) (q : NoticeSet) (c : ClassNo) : State.lockClass { s with noticeSet := q } c = s.lockClass c := rfl
@[simp] theorem State.door_with_holds (s : State) (q : List Hold) (e : DoorNo) : State.door { s with holds := q } e = s.door e := rfl
@[simp] theorem State.zone_with_holds (s : State) (q : List Hold) (y : ZoneNo) : State.zone { s with holds := q } y = s.zone y := rfl
@[simp] theorem State.slot_with_holds (s : State) (q : List Hold) (j : SlotNo) : State.slot { s with holds := q } j = s.slot j := rfl
@[simp] theorem State.trunk_with_holds (s : State) (q : List Hold) (w : Trunk) : State.trunk { s with holds := q } w = s.trunk w := rfl
@[simp] theorem State.input_with_holds (s : State) (q : List Hold) (n : InputNo) : State.input { s with holds := q } n = s.input n := rfl
@[simp] theorem State.lockClass_with_holds (s : State) (q : List Hold) (c : ClassNo) : State.lockClass { s with holds := q } c = s.lockClass c := rfl
@[simp] theorem State.door_with_lastHoldId (s : State) (q : Nat) (e : DoorNo) : State.door { s with lastHoldId := q } e = s.door e := rfl
@[simp] theorem State.zone_with_lastHoldId (s : State) (q : Nat) (y : ZoneNo) : State.zone { s with lastHoldId := q } y = s.zone y := rfl
@[simp] theorem State.slot_with_lastHoldId (s : State) (q : Nat) (j : SlotNo) : State.slot { s with lastHoldId := q } j = s.slot j := rfl
@[simp] theorem State.trunk_with_lastHoldId (s : State) (q : Nat) (w : Trunk) : State.trunk { s with lastHoldId := q } w = s.trunk w := rfl
@[simp] theorem State.input_with_lastHoldId (s : State) (q : Nat) (n : InputNo) : State.input { s with lastHoldId := q } n = s.input n := rfl
@[simp] theorem State.lockClass_with_lastHoldId (s : State) (q : Nat) (c : ClassNo) : State.lockClass { s with lastHoldId := q } c = s.lockClass c := rfl
@[simp] theorem State.door_with_receiver (s : State) (q : Receiver) (e : DoorNo) : State.door { s with receiver := q } e = s.door e := rfl
@[simp] theorem State.zone_with_receiver (s : State) (q : Receiver) (y : ZoneNo) : State.zone { s with receiver := q } y = s.zone y := rfl
@[simp] theorem State.slot_with_receiver (s : State) (q : Receiver) (j : SlotNo) : State.slot { s with receiver := q } j = s.slot j := rfl
@[simp] theorem State.trunk_with_receiver (s : State) (q : Receiver) (w : Trunk) : State.trunk { s with receiver := q } w = s.trunk w := rfl
@[simp] theorem State.input_with_receiver (s : State) (q : Receiver) (n : InputNo) : State.input { s with receiver := q } n = s.input n := rfl
@[simp] theorem State.lockClass_with_receiver (s : State) (q : Receiver) (c : ClassNo) : State.lockClass { s with receiver := q } c = s.lockClass c := rfl
@[simp] theorem State.door_with_transmitter (s : State) (q : Transmitter) (e : DoorNo) : State.door { s with transmitter := q } e = s.door e := rfl
@[simp] theorem State.zone_with_transmitter (s : State) (q : Transmitter) (y : ZoneNo) : State.zone { s with transmitter := q } y = s.zone y := rfl
@[simp] theorem State.slot_with_transmitter (s : State) (q : Transmitter) (j : SlotNo) : State.slot { s with transmitter := q } j = s.slot j := rfl
@[simp] theorem State.trunk_with_transmitter (s : State) (q : Transmitter) (w : Trunk) : State.trunk { s with transmitter := q } w = s.trunk w := rfl
@[simp] theorem State.input_with_transmitter (s : State) (q : Transmitter) (n : InputNo) : State.input { s with transmitter := q } n = s.input n := rfl
@[simp] theorem State.lockClass_with_transmitter (s : State) (q : Transmitter) (c : ClassNo) : State.lockClass { s with transmitter := q } c = s.lockClass c := rfl
@[simp] theorem State.door_with_blockResult (s : State) (q : Option Answer) (e : DoorNo) : State.door { s with blockResult := q } e = s.door e := rfl
@[simp] theorem State.zone_with_blockResult (s : State) (q : Option Answer) (y : ZoneNo) : State.zone { s with blockResult := q } y = s.zone y := rfl
@[simp] theorem State.slot_with_blockResult (s : State) (q : Option Answer) (j : SlotNo) : State.slot { s with blockResult := q } j = s.slot j := rfl
@[simp] theorem State.trunk_with_blockResult (s : State) (q : Option Answer) (w : Trunk) : State.trunk { s with blockResult := q } w = s.trunk w := rfl
@[simp] theorem State.input_with_blockResult (s : State) (q : Option Answer) (n : InputNo) : State.input { s with blockResult := q } n = s.input n := rfl
@[simp] theorem State.lockClass_with_blockResult (s : State) (q : Option Answer) (c : ClassNo) : State.lockClass { s with blockResult := q } c = s.lockClass c := rfl
@[simp] theorem State.door_with_pending (s : State) (q : List Instr) (e : DoorNo) : State.door { s with pending := q } e = s.door e := rfl
@[simp] theorem State.zone_with_pending (s : State) (q : List Instr) (y : ZoneNo) : State.zone { s with pending := q } y = s.zone y := rfl
@[simp] theorem State.slot_with_pending (s : State) (q : List Instr) (j : SlotNo) : State.slot { s with pending := q } j = s.slot j := rfl
@[simp] theorem State.trunk_with_pending (s : State) (q : List Instr) (w : Trunk) : State.trunk { s with pending := q } w = s.trunk w := rfl
@[simp] theorem State.input_with_pending (s : State) (q : List Instr) (n : InputNo) : State.input { s with pending := q } n = s.input n := rfl
@[simp] theorem State.lockClass_with_pending (s : State) (q : List Instr) (c : ClassNo) : State.lockClass { s with pending := q } c = s.lockClass c := rfl
@[simp] theorem State.door_with_classes (s : State) (q : Vector LockClass 8) (e : DoorNo) : State.door { s with classes := q } e = s.door e := rfl
@[simp] theorem State.zone_with_classes (s : State) (q : Vector LockClass 8) (y : ZoneNo) : State.zone { s with classes := q } y = s.zone y := rfl
@[simp] theorem State.slot_with_classes (s : State) (q : Vector LockClass 8) (j : SlotNo) : State.slot { s with classes := q } j = s.slot j := rfl
@[simp] theorem State.trunk_with_classes (s : State) (q : Vector LockClass 8) (w : Trunk) : State.trunk { s with classes := q } w = s.trunk w := rfl
@[simp] theorem State.input_with_classes (s : State) (q : Vector LockClass 8) (n : InputNo) : State.input { s with classes := q } n = s.input n := rfl

@[simp] theorem State.door_with_doors (s : State) (q : Vector Door 256) (e : DoorNo) :
    State.door { s with doors := q } e = q[e.val] := rfl

/-- `mapAll` is the library's map. -/
theorem mapAll_eq_map {α β : Type} {n : Nat} (f : α → β) (v : Vector α n) : mapAll f v = v.map f := by
  ext i h
  simp [mapAll]

@[simp] theorem getElem_mapAll {α β : Type} {n : Nat} (f : α → β) (v : Vector α n) (i : Nat) (h : i < n) :
    (mapAll f v)[i] = f v[i] := by simp [mapAll_eq_map]

/-- A map over the Door Table changes each record by itself. -/
theorem State.door_mapDoors (s : State) (f : Door → Door) (e : DoorNo) :
    State.door { s with doors := mapAll f s.doors } e = f (s.door e) := by simp [State.door]

@[simp] theorem State.zone_with_doors (s : State) (q : Vector Door 256) (y : ZoneNo) : State.zone { s with doors := q } y = s.zone y := rfl
@[simp] theorem State.slot_with_doors (s : State) (q : Vector Door 256) (j : SlotNo) : State.slot { s with doors := q } j = s.slot j := rfl
@[simp] theorem State.trunk_with_doors (s : State) (q : Vector Door 256) (w : Trunk) : State.trunk { s with doors := q } w = s.trunk w := rfl
@[simp] theorem State.input_with_doors (s : State) (q : Vector Door 256) (n : InputNo) : State.input { s with doors := q } n = s.input n := rfl
@[simp] theorem State.lockClass_with_doors (s : State) (q : Vector Door 256) (c : ClassNo) : State.lockClass { s with doors := q } c = s.lockClass c := rfl

/-! ### Counts and the restarted second -/

/-- A unit of a count lowers what is left, but never to 0: the last one is left to the command of its end (log 4). -/
theorem Countdown.tick_left (c : Countdown) : c.tick.left = if c.left ≤ 1 then c.left else c.left - 1 := by
  unfold Countdown.tick; split <;> rfl

/-- A count begins to end with its last unit, and stays so. -/
theorem Countdown.tick_ending (c : Countdown) : c.tick.ending = (c.ending || decide (c.left ≤ 1)) := by
  unfold Countdown.tick; split <;> simp [*]

/-- A count that stands at 1 or more does so after a unit. -/
theorem Countdown.tick_pos {c : Countdown} (h : 1 ≤ c.left) : 1 ≤ c.tick.left := by
  rw [Countdown.tick_left]; split <;> omega

@[simp] theorem Countdown.start_left (n : Nat) : (Countdown.start n).left = n := rfl
@[simp] theorem Countdown.start_ending (n : Nat) : (Countdown.start n).ending = false := rfl

@[simp] theorem State.secondRuns_restarted (s : State) : s.secondRuns.clock.restarted = false := rfl
@[simp] theorem State.secondRuns_door (s : State) (d : DoorNo) : s.secondRuns.door d = s.door d := rfl
@[simp] theorem State.secondRuns_zone (s : State) (z : ZoneNo) : s.secondRuns.zone z = s.zone z := rfl
@[simp] theorem State.secondRuns_slot (s : State) (k : SlotNo) : s.secondRuns.slot k = s.slot k := rfl
@[simp] theorem State.secondRuns_trunk (s : State) (t : Trunk) : s.secondRuns.trunk t = s.trunk t := rfl
@[simp] theorem State.secondRuns_input (s : State) (i : InputNo) : s.secondRuns.input i = s.input i := rfl
@[simp] theorem State.secondRuns_lockClass (s : State) (c : ClassNo) : s.secondRuns.lockClass c = s.lockClass c := rfl
@[simp] theorem State.secondRuns_fire (s : State) : s.secondRuns.fire = s.fire := rfl
@[simp] theorem State.secondRuns_pending (s : State) : s.secondRuns.pending = s.pending := rfl
@[simp] theorem State.secondRuns_secondRuns (s : State) : s.secondRuns.secondRuns = s.secondRuns := rfl
@[simp] theorem State.secondRuns_holds (s : State) : s.secondRuns.holds = s.holds := rfl
@[simp] theorem State.secondRuns_noticeSet (s : State) : s.secondRuns.noticeSet = s.noticeSet := rfl
@[simp] theorem State.secondRuns_receiver (s : State) : s.secondRuns.receiver = s.receiver := rfl
@[simp] theorem State.secondRuns_transmitter (s : State) : s.secondRuns.transmitter = s.transmitter := rfl
/-- A request answers the next state that its block gives, its answer being the block result (log 1). -/
@[simp] theorem answered_eq (take : State → State × Answer) (s : State) :
    answered take s = .next { (take s.secondRuns).1 with blockResult := some (take s.secondRuns).2 } := rfl

@[simp] theorem State.freeLine_clock (s : State) (t : Trunk) : (s.freeLine t).clock = s.secondRuns.clock := rfl

/-- ALERT is LOW exactly while it is active (R163). -/
theorem NoticeSet.alertLevel_eq_low (n : NoticeSet) : n.alertLevel = .low ↔ n.alert = true := by
  cases h : n.alert <;> simp [NoticeSet.alertLevel, bitLevel, h]

/-- A second that no setting has restarted is taken whole; a restarted one is only past (R151). -/
theorem State.completeSecond_eq (s : State) :
    s.completeSecond = if s.clock.restarted then s.secondRuns else s.secondEvent := rfl

/-! ### The lengths of characters, and LTXD at rest -/

/-- A transmitter with nothing on the line leaves LTXD HIGH (R165). -/
theorem Transmitter.ltxd_idle {x : Transmitter} (h : x.current = none) (ht : x.tail = none) : x.ltxd = .high := by
  simp [Transmitter.ltxd, Transmitter.onLine, h, ht]

@[simp] theorem dataLevels_length (b : Byte) : (dataLevels b).length = 8 := by simp [dataLevels]

/-- A character of a trunk line takes 11 bits (R98). -/
@[simp] theorem LineChar.levels_length (c : LineChar) : (LineChar.levels c).length = 11 := by simp [LineChar.levels]

@[simp] theorem characterLevels_length (b : Byte) : (characterLevels b).length = 10 := by simp [characterLevels]

/-! ### The lines of the trunks -/

@[simp] theorem Line.wait_free (ms : Nat) : Line.wait ms .free = .free := rfl
@[simp] theorem Line.de_free : Line.de .free = .low := rfl
@[simp] theorem Line.tx_free : Line.tx .free = .high := rfl

/-- Waiting changes neither the characters nor the time of what is on a line. -/
@[simp] theorem Line.chars_wait (ms : Nat) (l : Line) : (l.wait ms).chars = l.chars := by cases l <;> rfl
@[simp] theorem Line.time_wait (ms : Nat) (l : Line) : (l.wait ms).time = l.time := by cases l <;> rfl

/-- Waiting moves the place on, to no further than the last tenth of a bit before the end of the line (log 17). -/
theorem Line.place_wait (ms : Nat) (l : Line) : (l.wait ms).place = min (l.time - 1) (l.place + 625 * ms) := by
  cases l <;> simp [Line.wait, Line.place, Line.time, Config.tenthsPerMs]

/-- The time since a frame stands no further than the most that is told apart. -/
theorem timeSince_le (waited most : Nat) (n : Int) : timeSince waited most n ≤ most := by
  unfold timeSince; omega

/-- Waiting never takes the time since a frame back, but to the most that is told apart. -/
theorem le_timeSince (waited : Nat) {most : Nat} {n : Int} (h : n ≤ most) : n ≤ timeSince waited most n := by
  unfold timeSince; omega

/-- A frame of `k` characters is not yet sent by the time they take when its sending begins (R98, R116). -/
theorem State.send_sinceFrame (t : Trunk) (o : LineOrder) (s : State) :
    ((s.send t o).door o.door).sinceFrame = -(110 * (frameFor o.kind o.door (s.door o.door).address).chars.length : Nat) := by
  simp [State.send, Line.sendTime, Line.chars]

/-- The sending of a frame changes the one door it is for, if that stands where the frame went. -/
@[simp] theorem State.frameSent_door (t : Trunk) (f : LineFrame) (e : DoorNo) (s : State) :
    (s.frameSent t f).door e =
      if e = f.door ∧ s.frameStands t f = true then { s.door e with sinceFrame := max 0 (s.door e).sinceFrame }
      else s.door e := by
  by_cases he : e = f.door <;> by_cases hs : s.frameStands t f = true <;> simp [State.frameSent, he, hs]

/-- After the sending of a frame the time since it is not below 0 (R116). -/
theorem State.frameSent_sinceFrame {t : Trunk} {f : LineFrame} {s : State} (h : s.frameStands t f = true) :
    0 ≤ ((s.frameSent t f).door f.door).sinceFrame := by
  simp [h]

/-- The sending of a frame on a door's old trunk leaves the door alone (R105, R115). -/
theorem State.frameSent_moved {t : Trunk} {f : LineFrame} {s : State} (h : s.frameStands t f = false) (e : DoorNo) :
    (s.frameSent t f).door e = s.door e := by
  simp [h]

section
variable (t : Trunk) (f : LineFrame) (s : State)

@[simp] theorem State.frameSent_clock : (s.frameSent t f).clock = s.clock := rfl
@[simp] theorem State.frameSent_slot (k : SlotNo) : (s.frameSent t f).slot k = s.slot k := rfl
@[simp] theorem State.frameSent_zone (z : ZoneNo) : (s.frameSent t f).zone z = s.zone z := rfl

end

@[simp] theorem State.waitTrunk_clock (s : State) (t : Trunk) (n : Nat) : (s.waitTrunk t n).clock = s.clock.wait n := rfl

/-! ### LTXD -/

/-- In a list laid out in pieces of one length, the place n lies in piece n / k at n % k. -/
theorem getElem?_flatMap_of_length {α β : Type} {f : α → List β} {k : Nat} (hk : 0 < k) (hf : ∀ a, (f a).length = k)
    (l : List α) (n : Nat) : (l.flatMap f)[n]? = l[n / k]?.bind (fun a => (f a)[n % k]?) := by
  induction l generalizing n with
  | nil => simp
  | cons a l ih =>
    rw [List.flatMap_cons]
    by_cases h : n < k
    · rw [List.getElem?_append_left (by rw [hf]; exact h), Nat.div_eq_of_lt h, Nat.mod_eq_of_lt h]
      rfl
    · obtain ⟨m, rfl⟩ : ∃ m, n = m + k := ⟨n - k, by omega⟩
      rw [List.getElem?_append_right (by rw [hf]; omega), hf, Nat.add_sub_cancel, ih, Nat.add_div_right m hk,
        Nat.add_mod_right, List.getElem?_cons_succ]

/-- The bit times of a run of characters are ten to a character. -/
theorem getElem?_flatMap_characterLevels (bytes : List Byte) (n : Nat) :
    (bytes.flatMap characterLevels)[n]? = bytes[n / 10]?.bind (fun b => (characterLevels b)[n % 10]?) :=
  getElem?_flatMap_of_length (by decide) characterLevels_length bytes n

/-- TX carries the bit of the character whose place it is, and is at the idle level beyond the last one (R98). -/
theorem Line.tx_eq (l : Line) :
    l.tx = (l.chars[l.place / 110]?.bind (fun c => (LineChar.levels c)[l.place / 10 % 11]?)).getD .high := by
  rw [Line.tx, getElem?_flatMap_of_length (by decide) LineChar.levels_length, Nat.div_div_eq_div_mul]

/-- LTXD carries the bit of the character whose place it is, and is HIGH beyond the last one (R165). -/
theorem Transmitter.ltxd_eq (x : Transmitter) :
    x.ltxd = (x.onLine[x.place / 100]?.bind (fun b => (characterLevels b)[x.place / 10 % 10]?)).getD .high := by
  rw [Transmitter.ltxd, getElem?_flatMap_characterLevels, Nat.div_div_eq_div_mul]

@[simp] theorem Transmitter.reset_current (x : Transmitter) : x.reset.current = none := by
  unfold Transmitter.reset Transmitter.cold; repeat' split
  all_goals first | assumption | rfl

@[simp] theorem Transmitter.reset_busy (x : Transmitter) : x.reset.busy = none := by
  unfold Transmitter.reset Transmitter.cold; repeat' split
  all_goals rfl

/-- A link reset leaves the character that is being sent on the line, at its place (R175). -/
theorem Transmitter.reset_sending {x : Transmitter} {bytes : List Byte} {b : Byte} (h : x.current = some bytes)
    (hb : bytes[x.place / 100]? = some b) : x.reset = ⟨none, none, x.place % 100, some b⟩ := by
  simp only [Transmitter.reset, h, hb]

/-- A link reset leaves the level of LTXD as it is while a character is being sent (R175). -/
theorem Transmitter.ltxd_reset {x : Transmitter} {bytes : List Byte} {b : Byte} (h : x.current = some bytes)
    (hb : bytes[x.place / 100]? = some b) : x.reset.ltxd = x.ltxd := by
  have hp : x.place % 100 / 100 = 0 := by omega
  have hq : x.place % 100 / 10 % 10 = x.place / 10 % 10 := by omega
  simp [Transmitter.ltxd_eq, Transmitter.reset_sending h hb, Transmitter.onLine, h, hb, hp, hq]

end Sys2Proof.Machine
end

