-- ==== Sys2Proof/Laws/Work.lean ====
section
/-! SUPPORT. Laws/Work.lean: what the shared operations on a door's work, on sweeps and on zones can do. `Work s s'`
says it once: everything outside the dynamic fields they own is the same, notices change only by raises, the supply
law and the queue laws carry over. Each operation has one lemma here; later proofs cite it and do not unfold the
operation. -/

namespace Sys2Proof.Machine

/-- A line that stands inside its time does so after any wait (R98, R103, R118). -/
theorem Line.wait_law {l : Line} (h : l.Law) (ms : Nat) : (l.wait ms).Law := by
  rcases h with rfl | h
  · exact .inl rfl
  · right
    rw [Line.place_wait, Line.time_wait]
    omega

/-! ### What is outside an operation's reach -/

/-- A door record with the fields that work changes blanked. -/
def Door.fixed (x : Door) : Door :=
  { x with
    state := .unknown, intent := .none, keepOpen := false, attempts := 0, sweep := none, passage := none
    allowance := none, reminder := none, unreached := false }

/-- A zone record with the fields that work changes blanked. -/
def Zone.fixed (x : Zone) : Zone :=
  { x with live := Plan.empty, loadPending := false, state := .opened, marker := none, last := none }

/-- A trunk with the fields that work changes blanked. -/
def TrunkState.fixed (x : TrunkState) : TrunkState :=
  { x with queue := [], inFlight := [], freeUnits := 0, runCount := 0, restRemaining := none, warnList := [] }

/-- A state with everything that work changes blanked. -/
def State.outside (s : State) : State :=
  { s with
    doors := s.doors.map Door.fixed
    zones := s.zones.map Zone.fixed
    slots := Vector.replicate 8 none
    trunks := s.trunks.map TrunkState.fixed
    noticeSet := NoticeSet.cold }

/-- One Notice Set follows from another by raises with one stamp. -/
inductive Raised (stamp : Option Nat) : NoticeSet → NoticeSet → Prop where
  | refl (n : NoticeSet) : Raised stamp n n
  | raise {n m : NoticeSet} (h : Raised stamp n m) (k : NoticeKind) (u : Subject) (v : Detail) :
      Raised stamp n (m.raise stamp k u v)

theorem Raised.trans {st : Option Nat} {a b c : NoticeSet} (h : Raised st a b) (g : Raised st b c) : Raised st a c := by
  induction g with
  | refl => exact h
  | raise _ k u v ih => exact ih.raise k u v

/-- What an operation on work can do. -/
structure Work (s s' : State) : Prop where
  same : s'.outside = s.outside
  notices : Raised s.clock.stamp s.noticeSet s'.noticeSet
  supply : ∀ t, (s'.trunk t).supply = (s.trunk t).supply
  queues : ∀ t, (s.trunk t).QueueLaw → (s'.trunk t).QueueLaw

namespace Work

variable {s s' : State}

theorem refl (s : State) : Work s s := ⟨rfl, .refl _, fun _ => rfl, fun _ h => h⟩

theorem clock_eq (h : Work s s') : s'.clock = s.clock := by have := congrArg State.clock h.same; exact this
theorem pending_eq (h : Work s s') : s'.pending = s.pending := by have := congrArg State.pending h.same; exact this
theorem blockResult_eq (h : Work s s') : s'.blockResult = s.blockResult := by have := congrArg State.blockResult h.same; exact this
theorem classes_eq (h : Work s s') : s'.classes = s.classes := by have := congrArg State.classes h.same; exact this
theorem holds_eq (h : Work s s') : s'.holds = s.holds := by have := congrArg State.holds h.same; exact this
theorem lastHoldId_eq (h : Work s s') : s'.lastHoldId = s.lastHoldId := by have := congrArg State.lastHoldId h.same; exact this
theorem inputs_eq (h : Work s s') : s'.inputs = s.inputs := by have := congrArg State.inputs h.same; exact this
theorem fire_eq (h : Work s s') : s'.fire = s.fire := by have := congrArg State.fire h.same; exact this
theorem receiver_eq (h : Work s s') : s'.receiver = s.receiver := by have := congrArg State.receiver h.same; exact this
theorem transmitter_eq (h : Work s s') : s'.transmitter = s.transmitter := by have := congrArg State.transmitter h.same; exact this
theorem rate_eq (h : Work s s') : s'.rate = s.rate := by have := congrArg State.rate h.same; exact this
theorem input_eq (h : Work s s') (i : InputNo) : s'.input i = s.input i := by simp [State.input, h.inputs_eq]
theorem lockClass_eq (h : Work s s') (c : ClassNo) : s'.lockClass c = s.lockClass c := by
  simp [State.lockClass, h.classes_eq]

theorem door_eq (h : Work s s') (d : DoorNo) : (s'.door d).fixed = (s.door d).fixed := by
  have := congrArg (fun q => q.doors[d.val]) h.same
  simpa [State.outside, State.door] using this

theorem zone_eq (h : Work s s') (z : ZoneNo) : (s'.zone z).fixed = (s.zone z).fixed := by
  have := congrArg (fun q => q.zones[z.val]) h.same
  simpa [State.outside, State.zone] using this

theorem trunk_eq (h : Work s s') (t : Trunk) : (s'.trunk t).fixed = (s.trunk t).fixed := by
  have := congrArg (fun q => q.trunks[(trunkIdx t).val]) h.same
  simpa [State.outside, State.trunk] using this

theorem trans {s'' : State} (h : Work s s') (g : Work s' s'') : Work s s'' where
  same := g.same.trans h.same
  notices := h.notices.trans (by have := g.notices; rwa [h.clock_eq] at this)
  supply t := (g.supply t).trans (h.supply t)
  queues t q := g.queues t (h.queues t q)

/-! ### The writes -/

theorem updDoor {f : Door → Door} (d : DoorNo) (hf : ∀ x, (f x).fixed = x.fixed := by intro x; rfl) : Work s (s.updDoor d f) where
  same := by
    have : (s.doors.set d.val (f s.doors[d.val])).map Door.fixed = s.doors.map Door.fixed := by
      ext i hi
      simp only [Vector.getElem_map, Vector.getElem_set]
      split
      · rename_i h; subst h; exact hf _
      · rfl
    simp only [State.updDoor, State.setDoor, State.outside, State.door, this]
  notices := .refl _
  supply _ := rfl
  queues _ h := h

theorem mapDoors {f : Door → Door} (hf : ∀ x, (f x).fixed = x.fixed) : Work s { s with doors := mapAll f s.doors } where
  same := by
    have : (mapAll f s.doors).map Door.fixed = s.doors.map Door.fixed := by
      ext i hi
      simp only [Vector.getElem_map, getElem_mapAll]
      exact hf _
    simp only [State.outside, this]
  notices := .refl _
  supply _ := rfl
  queues _ h := h

theorem updZone {f : Zone → Zone} (z : ZoneNo) (hf : ∀ x, (f x).fixed = x.fixed := by intro x; rfl) : Work s (s.updZone z f) where
  same := by
    have : (s.zones.set z.val (f s.zones[z.val])).map Zone.fixed = s.zones.map Zone.fixed := by
      ext i hi
      simp only [Vector.getElem_map, Vector.getElem_set]
      split
      · rename_i h; subst h; exact hf _
      · rfl
    simp only [State.updZone, State.setZone, State.outside, State.zone, this]
  notices := .refl _
  supply _ := rfl
  queues _ h := h

theorem setSlot (k : SlotNo) (x : Option Sweep) : Work s (s.setSlot k x) :=
  ⟨rfl, .refl _, fun _ => rfl, fun _ h => h⟩

theorem updSlot (k : SlotNo) (f : Sweep → Sweep) : Work s (s.updSlot k f) := setSlot k _

theorem updTrunk {f : TrunkState → TrunkState} (t : Trunk) (hf : (f (s.trunk t)).fixed = (s.trunk t).fixed)
    (hs : (f (s.trunk t)).supply = (s.trunk t).supply) (hq : (s.trunk t).QueueLaw → (f (s.trunk t)).QueueLaw) :
    Work s (s.updTrunk t f) where
  same := by
    have : (s.trunks.set (trunkIdx t).val (f s.trunks[(trunkIdx t).val])).map TrunkState.fixed
        = s.trunks.map TrunkState.fixed := by
      ext i hi
      simp only [Vector.getElem_map, Vector.getElem_set]
      split
      · rename_i h; subst h; exact hf
      · rfl
    simp only [State.updTrunk, State.setTrunk, State.outside, State.trunk, this]
  notices := .refl _
  supply u := by
    rw [State.trunk_updTrunk]
    split
    · rename_i h; subst h; exact hs
    · rfl
  queues u h := by
    rw [State.trunk_updTrunk]
    split
    · rename_i g; subst g; exact hq h
    · exact h

theorem raise (k : NoticeKind) (u : Subject) (v : Detail) : Work s (s.raise k u v) :=
  ⟨rfl, (Raised.refl _).raise k u v, fun _ => rfl, fun _ h => h⟩

theorem raiseDoor (k : NoticeKind) (d : DoorNo) : Work s (s.raiseDoor k d) := raise _ _ _

theorem forEach {α : Type} {f : α → State → State} (l : List α) (hf : ∀ a s, Work s (f a s)) :
    Work s (Machine.forEach l f s) := by
  induction l generalizing s with
  | nil => exact refl s
  | cons a l ih => exact (hf a s).trans ih

/-! ### Zones -/

theorem rederive (z : ZoneNo) : Work s (s.rederive z) := updZone z

theorem rederiveAll : Work s s.rederiveAll := forEach _ (fun z _ => rederive z)

theorem groupLoad (l : ZoneNo) : Work s (s.groupLoad l) := by
  refine forEach _ (fun z s => ?_)
  split
  · refine updZone z (f := Zone.load) (fun x => ?_)
    unfold Zone.load
    split <;> rfl
  · exact refl _

theorem loadUnder (r : LoadRule) (z : ZoneNo) : Work s (s.loadUnder r z) := by
  unfold State.loadUnder
  split
  · exact groupLoad z
  · exact refl _

/-! ### Changes of state -/

theorem moveCount (d : DoorNo) (c : Count) : Work s (s.moveCount d c) := by
  unfold State.moveCount
  split
  · exact refl _
  · exact (updSlot _ _).trans (updDoor d)

theorem handOffCount (d : DoorNo) (f : Direction → Count → Option Count) : Work s (s.handOffCount d f) := by
  unfold State.handOffCount
  split
  · exact refl _
  · split
    · exact refl _
    · exact moveCount d _

theorem changeState (d : DoorNo) (st : DoorState) : Work s (s.changeState d st) := by
  unfold State.changeState
  split
  · exact refl _
  · exact ((updDoor d).trans (handOffCount d _)).trans (rederive _)

/-! ### The queue as a list -/

theorem urgent_append (a b : List Entry) : urgentPart (a ++ b) = urgentPart a ++ urgentPart b := by
  simp [urgentPart]

theorem routine_append (a b : List Entry) : routinePart (a ++ b) = routinePart a ++ routinePart b := by
  simp [routinePart]

/-- A list of URGENT entries then ROUTINE ones is in order. -/
theorem ordered_of {a b q : List Entry} (hq : q = a ++ b) (ha : ∀ e ∈ a, e.isUrgent = true)
    (hb : ∀ e ∈ b, e.isUrgent = false) : q = urgentPart q ++ routinePart q := by
  subst hq
  have h1 : urgentPart (a ++ b) = a := by
    rw [urgent_append]
    have : urgentPart b = [] := by
      simp only [urgentPart, List.filter_eq_nil_iff]
      intro e he; simp [hb e he]
    rw [this, List.append_nil]
    exact List.filter_eq_self.mpr ha
  have h2 : routinePart (a ++ b) = b := by
    rw [routine_append]
    have : routinePart a = [] := by
      simp only [routinePart, List.filter_eq_nil_iff]
      intro e he; simp [ha e he]
    rw [this, List.nil_append]
    exact List.filter_eq_self.mpr (fun e he => by simp [hb e he])
  rw [h1, h2]

theorem mem_urgentPart {e : Entry} {q : List Entry} (h : e ∈ urgentPart q) : e.isUrgent = true :=
  (List.mem_filter.mp h).2

theorem mem_routinePart {e : Entry} {q : List Entry} (h : e ∈ routinePart q) : e.isUrgent = false := by
  simpa using (List.mem_filter.mp h).2

theorem joinTail_ordered (e : Entry) (q : List Entry) :
    joinTail e q = urgentPart (joinTail e q) ++ routinePart (joinTail e q) := by
  unfold joinTail
  split
  · rename_i h
    refine ordered_of (a := urgentPart q ++ [e]) (b := routinePart q) (by simp) ?_ (fun _ h => mem_routinePart h)
    intro x hx
    rcases List.mem_append.mp hx with hx | hx
    · exact mem_urgentPart hx
    · rw [List.mem_singleton.mp hx]; exact h
  · rename_i h
    refine ordered_of rfl (fun _ h => mem_urgentPart h) ?_
    intro x hx
    rcases List.mem_append.mp hx with hx | hx
    · exact mem_routinePart hx
    · rw [List.mem_singleton.mp hx]; simpa using h

theorem joinTail_ne_nil (e : Entry) (q : List Entry) : joinTail e q ≠ [] := by
  unfold joinTail; split <;> simp

theorem mem_joinAfter {b : List (DoorNo × QueueClass)} {e x : Entry} {p : List Entry} (h : x ∈ joinAfter b e p) : x = e ∨ x ∈ p := by
  unfold joinAfter at h
  rcases List.mem_append.mp h with h | h
  · exact .inr (List.takeWhile_subset _ h)
  · rcases List.mem_cons.mp h with h | h
    · exact .inl h
    · exact .inr (List.dropWhile_subset _ h)

theorem joinHead_ordered (b : List (DoorNo × QueueClass)) (e : Entry) (q : List Entry) :
    joinHead b e q = urgentPart (joinHead b e q) ++ routinePart (joinHead b e q) := by
  unfold joinHead
  split
  · rename_i h
    refine ordered_of rfl ?_ (fun _ h => mem_routinePart h)
    intro x hx
    rcases mem_joinAfter hx with hx | hx
    · rw [hx]; exact h
    · exact mem_urgentPart hx
  · rename_i h
    refine ordered_of rfl (fun _ h => mem_urgentPart h) ?_
    intro x hx
    rcases mem_joinAfter hx with hx | hx
    · rw [hx]; simpa using h
    · exact mem_routinePart hx

theorem joinHead_ne_nil (b : List (DoorNo × QueueClass)) (e : Entry) (q : List Entry) : joinHead b e q ≠ [] := by
  unfold joinHead joinAfter; split <;> simp

theorem tail_ordered {q : List Entry} (h : q = urgentPart q ++ routinePart q) :
    q.tail = urgentPart q.tail ++ routinePart q.tail := by
  cases hu : urgentPart q with
  | nil =>
    rw [hu, List.nil_append] at h
    refine ordered_of (a := []) rfl (by simp) ?_
    intro e he
    rw [h] at he
    exact mem_routinePart (List.mem_of_mem_tail he)
  | cons a l =>
    rw [hu] at h
    refine ordered_of (a := l) (b := routinePart q) ?_ ?_ (fun _ h => mem_routinePart h)
    · conv_lhs => rw [h]
      rfl
    · intro e he
      exact mem_urgentPart (q := q) (hu ▸ List.mem_cons_of_mem a he)

theorem filter_ordered (p : Entry → Bool) {q : List Entry} (h : q = urgentPart q ++ routinePart q) :
    q.filter p = urgentPart (q.filter p) ++ routinePart (q.filter p) := by
  refine ordered_of (a := (urgentPart q).filter p) (b := (routinePart q).filter p) ?_ ?_ ?_
  · conv_lhs => rw [h]
    rw [List.filter_append]
  · intro e he; exact mem_urgentPart (List.mem_filter.mp he).1
  · intro e he; exact mem_routinePart (List.mem_filter.mp he).1

theorem map_ordered {f : Entry → Entry} (hf : ∀ e, (f e).isUrgent = e.isUrgent) {q : List Entry}
    (h : q = urgentPart q ++ routinePart q) : q.map f = urgentPart (q.map f) ++ routinePart (q.map f) := by
  refine ordered_of (a := (urgentPart q).map f) (b := (routinePart q).map f) ?_ ?_ ?_
  · conv_lhs => rw [h]
    rw [List.map_append]
  · intro e he
    obtain ⟨x, hx, rfl⟩ := List.mem_map.mp he
    rw [hf]; exact mem_urgentPart hx
  · intro e he
    obtain ⟨x, hx, rfl⟩ := List.mem_map.mp he
    rw [hf]; exact mem_routinePart hx

theorem replaceEntry_ordered (d : DoorNo) (dir : Direction) (c : QueueClass) {q : List Entry}
    (h : q = urgentPart q ++ routinePart q) :
    replaceEntry d dir c q = urgentPart (replaceEntry d dir c q) ++ routinePart (replaceEntry d dir c q) := by
  unfold replaceEntry
  split
  · exact h
  · split
    · exact joinTail_ordered _ _
    · refine map_ordered (fun e => ?_) h
      split <;> rfl

theorem replaceEntry_eq_nil {d : DoorNo} {dir : Direction} {c : QueueClass} {q : List Entry}
    (h : replaceEntry d dir c q = []) : q = [] := by
  unfold replaceEntry at h
  split at h
  · exact h
  · split at h
    · exact absurd h (joinTail_ne_nil _ _)
    · exact List.map_eq_nil_iff.mp h

/-! ### The arbiter -/

theorem unitsHeld_cons (r : Record) (l : List Record) : unitsHeld (r :: l) = r.units + unitsHeld l := rfl

theorem unitsHeld_append (a b : List Record) : unitsHeld (a ++ b) = unitsHeld a + unitsHeld b := by
  simp [unitsHeld]

theorem settleRun_fixed (x : TrunkState) : x.settleRun.fixed = x.fixed := by
  unfold TrunkState.settleRun; split <;> rfl

theorem settleRun_supply (x : TrunkState) : x.settleRun.supply = x.supply := by
  unfold TrunkState.settleRun; split <;> rfl

theorem settleRun_queue (x : TrunkState) : x.settleRun.queue = x.queue := by
  unfold TrunkState.settleRun; split <;> rfl

theorem settleRun_law {x : TrunkState} (h : x.queue = urgentPart x.queue ++ routinePart x.queue) :
    x.settleRun.QueueLaw := by
  refine ⟨by rw [settleRun_queue]; exact h, fun hq => ?_⟩
  rw [settleRun_queue] at hq
  simp [TrunkState.settleRun, hq]

theorem countRun_fixed (x : TrunkState) : x.countRun.fixed = x.fixed := by
  unfold TrunkState.countRun; split <;> rfl

theorem countRun_supply (x : TrunkState) : x.countRun.supply = x.supply := by
  unfold TrunkState.countRun; split <;> rfl

theorem countRun_queue (x : TrunkState) : x.countRun.queue = x.queue := by
  unfold TrunkState.countRun; split <;> rfl

/-- A grant of the head entry, made when its charge is free (R89). The queue law needs the second half of the grant,
so the two trunk updates are taken together. -/
theorem grant {t : Trunk} {e : Entry} {q : List Entry} (hq : (s.trunk t).queue = e :: q)
    (hg : s.grantable t e = true) : Work s (s.grant t e) := by
  have hc : s.charge t e ≤ (s.trunk t).freeUnits := by
    simp only [State.grantable, Bool.and_eq_true, decide_eq_true_eq] at hg
    exact hg.1.2
  -- the state between the two trunk updates
  have hmid := changeState (s := s.updTrunk t (TrunkState.toFlight e (s.charge t e))) e.door .acting
  have htr : ∀ x : TrunkState, x.fixed = (s.trunk t).fixed → True := fun _ _ => trivial
  have key : ∀ u, (((s.updTrunk t (TrunkState.toFlight e (s.charge t e))).changeState e.door .acting).trunk u)
      = (s.updTrunk t (TrunkState.toFlight e (s.charge t e))).trunk u := by
    intro u
    unfold State.changeState
    split
    · rfl
    · simp only [State.rederive, State.trunk_updZone]
      unfold State.handOffCount
      split
      · rfl
      · split
        · rfl
        · unfold State.moveCount
          split <;> rfl
  have hsup : ∀ x : TrunkState, (if e.isUrgent then x else x.countRun).settleRun.supply = x.supply := by
    intro x; rw [settleRun_supply]; split
    · rfl
    · exact countRun_supply x
  have hfix : ∀ x : TrunkState, (if e.isUrgent then x else x.countRun).settleRun.fixed = x.fixed := by
    intro x; rw [settleRun_fixed]; split
    · rfl
    · exact countRun_fixed x
  have hqu : ∀ x : TrunkState, (if e.isUrgent then x else x.countRun).queue = x.queue := by
    intro x; split
    · rfl
    · exact countRun_queue x
  have hflight : (TrunkState.toFlight e (s.charge t e) (s.trunk t)).supply = (s.trunk t).supply := by
    simp only [TrunkState.supply, TrunkState.toFlight, unitsHeld_append, unitsHeld_cons]
    simp only [unitsHeld, List.map_nil, List.sum_nil]
    omega
  have houtside : ∀ (a : State) (f : TrunkState → TrunkState), (f (a.trunk t)).fixed = (a.trunk t).fixed →
      (a.updTrunk t f).outside = a.outside := by
    intro a f hf
    have : (a.trunks.set (trunkIdx t).val (f a.trunks[(trunkIdx t).val])).map TrunkState.fixed
        = a.trunks.map TrunkState.fixed := by
      ext i hi
      simp only [Vector.getElem_map, Vector.getElem_set]
      split
      · rename_i h; subst h; exact hf
      · rfl
    simp only [State.updTrunk, State.setTrunk, State.outside, State.trunk, this]
  refine ⟨?_, ?_, ?_, ?_⟩
  · unfold State.grant
    rw [houtside _ _ (hfix _), hmid.same, houtside _ _ rfl]
  · exact hmid.notices
  · intro u
    unfold State.grant
    rw [State.trunk_updTrunk]
    split
    · rename_i h; subst h
      rw [hsup, key, State.trunk_updTrunk, if_pos rfl, hflight]
    · rename_i h
      rw [key, State.trunk_updTrunk, if_neg h]
  · intro u hl
    unfold State.grant
    rw [State.trunk_updTrunk]
    split
    · rename_i h; subst h
      refine settleRun_law ?_
      rw [hqu, key, State.trunk_updTrunk, if_pos rfl]
      exact tail_ordered hl.1
    · rename_i h
      rw [key, State.trunk_updTrunk, if_neg h]
      exact hl

theorem grantLoop (n : Nat) (t : Trunk) : Work s (State.grantLoop n t s) := by
  induction n generalizing s with
  | zero => exact refl s
  | succ n ih =>
    unfold State.grantLoop
    split
    · exact refl s
    · rename_i e q hq
      split
      · rename_i hg
        exact (grant hq hg).trans ih
      · exact refl s

theorem consider (t : Trunk) : Work s (s.consider t) := grantLoop _ t

theorem considerAll : Work s s.considerAll := forEach _ (fun t _ => consider t)

theorem considerUnless (w : Bool) (t : Trunk) : Work s (s.considerUnless w t) := by
  unfold State.considerUnless
  split
  · exact refl _
  · exact consider t

theorem considerDoor (d : DoorNo) : Work s (s.considerDoor d) := consider _

/-! ### Placement -/

theorem joinQueue (t : Trunk) (e : Entry) :
    Work s (s.updTrunk t (fun x => { x with queue := joinTail e x.queue })) :=
  updTrunk t rfl rfl (fun _ => ⟨joinTail_ordered _ _, fun h => absurd h (joinTail_ne_nil _ _)⟩)

theorem addEntry (d : DoorNo) (dir : Direction) (c : QueueClass) : Work s (s.addEntry d dir c) :=
  ((joinQueue _ _).trans (updDoor d)).trans (changeState d _)

theorem replacePlacement (d : DoorNo) (dir : Direction) (c : QueueClass) : Work s (s.replacePlacement d dir c) := by
  refine trans (updTrunk (s.door d).trunk rfl rfl ?_) (updDoor d)
  intro h
  exact ⟨replaceEntry_ordered d dir c h.1, fun hq => h.2 (replaceEntry_eq_nil hq)⟩

theorem updRecord_supply (d : DoorNo) (f : QueueClass → QueueClass) (g : DrivePhase → DrivePhase) (x : TrunkState) :
    (x.updRecord d f g).supply = x.supply := by
  have : ∀ l : List Record, unitsHeld (l.map (fun r =>
      if r.door = d then { r with cls := f r.cls, phase := g r.phase } else r)) = unitsHeld l := by
    intro l
    induction l with
    | nil => rfl
    | cons r l ih =>
      rw [List.map_cons, unitsHeld_cons, unitsHeld_cons, ih]
      split <;> rfl
  simp only [TrunkState.supply, TrunkState.updRecord, this]

theorem updRecord (t : Trunk) (d : DoorNo) (f : QueueClass → QueueClass) (g : DrivePhase → DrivePhase) :
    Work s (s.updTrunk t (TrunkState.updRecord d f g)) :=
  updTrunk t rfl (updRecord_supply d f g _) (fun h => h)

theorem raiseRecord (d : DoorNo) (dir : Direction) (c : QueueClass) : Work s (s.raiseRecord d dir c) := by
  unfold State.raiseRecord
  refine updTrunk (s.door d).trunk ?_ ?_ ?_
  · split
    · rfl
    · split <;> rfl
  · split
    · rfl
    · split
      · exact updRecord_supply _ _ _ _
      · rfl
  · intro h
    split
    · exact h
    · split
      · exact h
      · exact h

theorem place (w : Bool) (d : DoorNo) (dir : Direction) (c : QueueClass) : Work s (s.place w d dir c) := by
  unfold State.place
  split
  · exact refl _
  · split
    · exact (replacePlacement d dir c).trans (considerUnless w _)
    · exact raiseRecord d dir c
    all_goals exact (addEntry d dir c).trans (considerUnless w _)

theorem placeLock (d : DoorNo) : Work s (s.placeLock d) := place _ _ _ _

theorem placeRelease (d : DoorNo) : Work s (s.placeRelease d) := place _ _ _ _

/-! ### Re-statement, AJAR, restoration, removal -/

theorem restate (d : DoorNo) : Work s (s.restate d) := (changeState d _).trans (updDoor d)

theorem setReminder (d : DoorNo) : Work s (s.setReminder d) := by
  unfold State.setReminder
  exact updDoor d

theorem enterAjar (d : DoorNo) : Work s (s.enterAjar d) :=
  ((changeState d _).trans (setReminder d)).trans (raiseDoor _ d)

theorem restoreIntent (d : DoorNo) : Work s (s.restoreIntent d) := by
  unfold State.restoreIntent
  split
  · exact placeLock d
  · exact placeRelease d
  · exact refl _

theorem dropEntry (d : DoorNo) : Work s (s.dropEntry d) := by
  refine updTrunk (s.door d).trunk ?_ ?_ ?_
  · exact settleRun_fixed _
  · exact settleRun_supply _
  · intro h
    exact settleRun_law (filter_ordered _ h.1)

theorem unitsHeld_split (p : Record → Bool) (l : List Record) :
    unitsHeld (l.filter p) + unitsHeld (l.filter (fun r => !p r)) = unitsHeld l := by
  induction l with
  | nil => rfl
  | cons r l ih =>
    by_cases h : p r = true <;> simp [h, unitsHeld_cons] <;> omega

theorem dropRecord (d : DoorNo) : Work s (s.dropRecord d) := by
  refine updTrunk (s.door d).trunk rfl ?_ (fun h => h)
  have := unitsHeld_split (fun r => r.door == d) (s.trunk (s.door d).trunk).inFlight
  simp only [TrunkState.supply, TrunkState.dropRecord]
  omega

/-! ### Sweeps -/

theorem placeWarn (m : Nat) (d : DoorNo) : Work s (s.placeWarn m d) := updTrunk _ rfl rfl (fun h => h)

theorem placeWarns (z : ZoneNo) (m : Nat) : Work s (s.placeWarns z m) := forEach _ (fun d _ => placeWarn m d)

theorem sweepIntent (dir : Direction) (d : DoorNo) : Work s (s.sweepIntent dir d) := by
  unfold State.sweepIntent
  split
  · split
    · exact refl _
    · exact updDoor d
  · exact updDoor d

theorem sweepAct (w : Bool) (dir : Direction) (d : DoorNo) (a : SweepAction) : Work s (s.sweepAct w dir d a) := by
  unfold State.sweepAct
  split
  · exact refl _
  · exact place _ _ _ _
  · exact changeState _ _

theorem linkDoor (k : SlotNo) (d : DoorNo) (c : Count) : Work s (s.linkDoor k d c) :=
  (updDoor d).trans (updSlot _ _)

theorem walkDoor (k : SlotNo) (dir : Direction) (d : DoorNo) : Work s (s.walkDoor k dir d) :=
  ((sweepIntent dir d).trans (linkDoor k d _)).trans (sweepAct _ _ _ _)

theorem enterActive (k : SlotNo) : Work s (s.enterActive k) := by
  unfold State.enterActive
  split
  · exact refl _
  · exact ((((setSlot k _).trans (forEach _ (fun d _ => walkDoor k _ d))).trans (updSlot k _)).trans
      (rederive _)).trans considerAll

theorem startIn (k : SlotNo) (z : ZoneNo) (dir : Direction) (o : Origin) : Work s (s.startIn k z dir o) := by
  have h : Work s (s.updZone z (fun x => { x with marker := none })) := updZone z
  unfold State.startIn
  refine trans h ?_
  generalize s.updZone z (fun x => { x with marker := none }) = q
  dsimp only
  split
  · exact ((setSlot k _).trans (placeWarns z _)).trans (rederive z)
  · exact ((setSlot k _).trans (rederive z)).trans (enterActive k)

theorem unlinkAll (k : SlotNo) : Work s (s.unlinkAll k) := by
  refine mapDoors (fun x => ?_)
  split <;> rfl

theorem leaveDoors (k : SlotNo) : Work s (s.leaveDoors k) := by
  refine mapDoors (fun x => ?_)
  unfold Door.leaveSweep
  split <;> rfl

theorem closeSweep (k : SlotNo) (w : Sweep) (c : Bool) : Work s (s.closeSweep k w c) :=
  (((updZone w.zone).trans (setSlot k _)).trans (rederive _)).trans (raise _ _ _)

theorem takeWaiting (l : List ZoneNo) : Work s (State.takeWaiting l s).1 := by
  induction l generalizing s with
  | nil => exact refl s
  | cons z l ih =>
    unfold State.takeWaiting
    split
    · exact ih
    · split
      · exact (updZone z).trans ih
      · exact refl s

theorem offerLoop (n : Nat) (k : SlotNo) : Work s (State.offerLoop n k s) := by
  induction n generalizing s with
  | zero => exact refl s
  | succ n ih =>
    unfold State.offerLoop
    have hw := takeWaiting (s := s) (s.zonesInRankOrder s.waitingZones)
    split
    · rename_i s' heq
      rw [heq] at hw
      exact hw
    · rename_i s' z m heq
      rw [heq] at hw
      have hs := hw.trans (startIn (s := s') k z m.direction m.origin)
      dsimp only
      split
      · split
        · exact hs
        · exact ((hs.trans ((leaveDoors k).trans (closeSweep k _ _))).trans ih).trans (loadUnder _ _)
      · exact hs

theorem offer (k : SlotNo) : Work s (s.offer k) := by
  unfold State.offer
  split
  · exact refl _
  · exact offerLoop _ k

theorem finish (k : SlotNo) : Work s (s.finish k) := by
  unfold State.finish
  split
  · exact refl _
  · exact (((leaveDoors k).trans (closeSweep k _ _)).trans (offer k)).trans (loadUnder _ _)

theorem finishIfDone (k : SlotNo) : Work s (s.finishIfDone k) := by
  unfold State.finishIfDone
  split
  · exact finish k
  · exact refl _

theorem finishOf (d : DoorNo) : Work s (s.finishOf d) := by
  unfold State.finishOf
  split
  · exact refl _
  · exact finishIfDone _

theorem startSweep (k : SlotNo) (z : ZoneNo) (dir : Direction) (o : Origin) : Work s (s.startSweep k z dir o) :=
  (startIn k z dir o).trans (finishIfDone k)

theorem reclassify (d : DoorNo) : Work s (s.reclassify d) := by
  unfold State.reclassify
  split
  · exact refl _
  · split
    · exact (((sweepIntent _ d).trans (moveCount d _)).trans (sweepAct _ _ d _)).trans (finishOf d)
    · exact refl _

theorem moveToHeld (d : DoorNo) : Work s (s.moveToHeld d) := by
  unfold State.moveToHeld
  split
  · exact refl _
  · split
    · exact moveCount d _
    · exact refl _

theorem trunkBack (t : Trunk) (l : List DoorNo) : Work s (s.trunkBack t l) := by
  refine forEach _ (fun d s => ?_)
  unfold State.reclassifyUnreachable
  split
  · exact refl _
  · split
    · exact reclassify d
    · exact refl _

theorem withdrawEntry (d : DoorNo) : Work s (s.withdrawEntry d) :=
  (((dropEntry d).trans (restate d)).trans (updDoor d)).trans (considerDoor d)

theorem cancelDoor (e : DoorNo × Count) : Work s (s.cancelDoor e) := by
  unfold State.cancelDoor
  dsimp only
  split
  · exact refl _
  · split
    · exact withdrawEntry _
    · exact (changeState _ _).trans (updDoor _)
    all_goals exact updDoor _

theorem cancelSweep (k : SlotNo) : Work s (s.cancelSweep k) := by
  unfold State.cancelSweep
  split
  · exact refl _
  · refine trans ?_ (loadUnder _ _)
    refine trans ?_ (closeSweep _ _ _)
    split
    · exact placeWarns _ _
    · exact (unlinkAll k).trans (forEach _ (fun e _ => cancelDoor e))

theorem offerSlots (l : List SlotNo) : Work s (s.offerSlots l) := forEach _ (fun k _ => offer k)

theorem recordMarker (z : ZoneNo) (dir : Direction) (o : Origin) : Work s (s.recordMarker z dir o) :=
  (updZone z).trans (raise _ _ _)

theorem give (z : ZoneNo) (dir : Direction) (o : Origin) : Work s (s.give z dir o).1 := by
  unfold State.give
  split
  · exact refl _
  · split
    · split
      · exact refl _
      · exact (cancelSweep _).trans (startSweep _ _ _ _)
    · split
      · exact startSweep _ _ _ _
      · exact recordMarker z dir o

theorem giveList (o : Origin) (l : List (ZoneNo × Direction)) : Work s (State.giveList o l s).1 := by
  induction l generalizing s with
  | nil => exact refl s
  | cons a l ih =>
    obtain ⟨z, dir⟩ := a
    exact (give z dir o).trans ih

theorem giveSet (o : Origin) (l : List (ZoneNo × Direction)) : Work s (s.giveSet o l).1 := giveList o _

theorem endWarning (k : SlotNo) : Work s (s.endWarning k) := by
  unfold State.endWarning
  split
  · exact refl _
  · split
    · split
      · exact (cancelSweep k).trans (offer k)
      · exact (enterActive k).trans (finishIfDone k)
    · exact refl _

/-! ### Drives -/

theorem rejoin (r : Record) (b : Option (List (DoorNo × QueueClass))) : Work s (s.rejoin r b) := by
  unfold State.rejoin
  split
  · exact restate _
  · refine trans (updTrunk _ rfl rfl (fun _ => ?_)) (changeState _ _)
    cases b with
    | none => exact ⟨joinTail_ordered _ _, fun h => absurd h (joinTail_ne_nil _ _)⟩
    | some l => exact ⟨joinHead_ordered _ _ _, fun h => absurd h (joinHead_ne_nil _ _ _)⟩

theorem jam (r : Record) : Work s (s.jam r) := (changeState _ _).trans (raise _ _ _)

theorem failedAttempt (r : Record) : Work s (s.failedAttempt r) := by
  have h : Work s (s.updDoor r.door (fun x => { x with attempts := x.attempts + 1 })) := updDoor r.door
  unfold State.failedAttempt
  refine trans h ?_
  generalize s.updDoor r.door (fun x => { x with attempts := x.attempts + 1 }) = q
  dsimp only
  split
  · exact rejoin r none
  · exact jam r

theorem takeOutcome (r : Record) (e : DriveEnd) : Work s (s.takeOutcome r e) := by
  unfold State.takeOutcome
  split
  · exact (updDoor _).trans (changeState _ _)
  · exact enterAjar _
  · exact failedAttempt r
  · exact rejoin r _

theorem intentCheck (d : DoorNo) : Work s (s.intentCheck d) := by
  unfold State.intentCheck
  split
  · split
    · exact refl _
    · exact placeLock d
  · split
    · exact refl _
    · exact placeRelease d
  · exact refl _

theorem endReversed (d : DoorNo) : Work s (s.endReversed d) :=
  ((updDoor d).trans (restate d)).trans (intentCheck d)

theorem endDrive (r : Record) (e : DriveEnd) : Work s (s.endDrive r e) := by
  unfold State.endDrive
  refine trans (dropRecord r.door) ?_
  refine trans ?_ ((finishOf r.door).trans (considerDoor r.door))
  split
  · exact takeOutcome r e
  · exact endReversed r.door

theorem settle (r : Record) : Work s (s.settle r) := by
  unfold State.settle
  split
  · exact refl _
  · exact endDrive r _

theorem acceptDrive (r : Record) : Work s (s.acceptDrive r) := by
  unfold State.acceptDrive
  dsimp only
  generalize (s.lockClass (s.door r.door).cls).limit * 1000 = n
  have h : Work s (s.updTrunk (s.door r.door).trunk (TrunkState.updRecord r.door id (fun _ => .driving n))) :=
    updRecord _ _ _ _
  refine trans h ?_
  generalize s.updTrunk (s.door r.door).trunk (TrunkState.updRecord r.door id (fun _ => .driving n)) = q
  split
  · exact refl _
  · exact settle _

theorem reportToRecord (r : Record) (d a : Bool) : Work s (s.reportToRecord r d a) := by
  unfold State.reportToRecord
  split
  · exact settle r
  · split
    · split
      · exact acceptDrive r
      · exact endDrive r _
    · split
      · exact endDrive r _
      · exact refl _

theorem driveFailed (r : Record) : Work s (s.driveFailed r) := by
  unfold State.driveFailed
  split
  · exact endDrive r _
  · exact endDrive r _

theorem returnGranted (l : List DoorNo) (b : List (DoorNo × QueueClass)) : Work s (State.returnGranted l b s) := by
  induction l generalizing s b with
  | nil => exact refl s
  | cons d l ih =>
    unfold State.returnGranted
    split
    · exact ih _
    · exact (endDrive _ _).trans (ih _)

/-! ### Reports by state -/

theorem wantLockUnlessBlocked (d : DoorNo) : Work s (s.wantLockUnlessBlocked d) := by
  unfold State.wantLockUnlessBlocked
  split
  · exact refl _
  · exact updDoor d

theorem classifyUnknown (d : DoorNo) : Work s (s.classifyUnknown d) := by
  unfold State.classifyUnknown
  split
  · exact (wantLockUnlessBlocked d).trans (enterAjar d)
  · exact changeState d _

theorem afterClassified (d : DoorNo) : Work s (s.afterClassified d) := by
  unfold State.afterClassified
  split
  · exact reclassify d
  · exact (restoreIntent d).trans (finishOf d)

theorem reportUnknown (d : DoorNo) : Work s (s.reportUnknown d) := (classifyUnknown d).trans (afterClassified d)

theorem reportReleased (d : DoorNo) : Work s (s.reportReleased d) := by
  unfold State.reportReleased
  split
  · exact ((changeState d _).trans (raiseDoor _ d)).trans (finishOf d)
  · exact refl _

theorem openedSecured (d : DoorNo) (rex : Bool) : Work s (s.openedSecured d rex) := by
  unfold State.openedSecured
  dsimp only
  split
  · exact ((changeState d _).trans (updDoor d)).trans (finishOf d)
  · exact (((wantLockUnlessBlocked d).trans (changeState d _)).trans (raiseDoor _ d)).trans (finishOf d)

theorem reportSecured (d : DoorNo) (rex : Bool) : Work s (s.reportSecured d rex) := by
  unfold State.reportSecured
  dsimp only
  split
  · exact openedSecured d rex
  · split
    · exact ((changeState d _).trans (raiseDoor _ d)).trans (finishOf d)
    · split
      · exact updDoor d
      · exact refl _

theorem reportPassage (d : DoorNo) : Work s (s.reportPassage d) := by
  unfold State.reportPassage
  dsimp only
  split
  · split
    · exact (changeState d _).trans (finishOf d)
    · split
      · exact (changeState d _).trans (finishOf d)
      · exact ((updDoor d).trans (placeLock d)).trans (finishOf d)
    · exact refl _
    · exact refl _
  · exact refl _

theorem reportAjarForced (d : DoorNo) : Work s (s.reportAjarForced d) := by
  unfold State.reportAjarForced
  split
  · split
    · split
      · exact (restate d).trans (finishOf d)
      · exact (placeLock d).trans (finishOf d)
    · refine trans (restate d) ?_
      dsimp only
      split
      · exact finishOf d
      · exact (placeRelease d).trans (finishOf d)
    · exact (restate d).trans (finishOf d)
  · exact refl _

theorem reportWaiting (d : DoorNo) : Work s (s.reportWaiting d) := by
  unfold State.reportWaiting
  split
  · exact refl _
  · split
    · exact (((dropEntry d).trans (enterAjar d)).trans (finishOf d)).trans (considerDoor d)
    · exact refl _

theorem reportActing (d : DoorNo) (a b : Bool) : Work s (s.reportActing d a b) := by
  unfold State.reportActing
  split
  · exact refl _
  · exact reportToRecord _ _ _

/-! ### DOOR_ACT, holds, inputs -/

theorem reportState (d : DoorNo) (drive : Bool) (rep : Report) : Work s (s.reportState d drive rep) := by
  unfold State.reportState
  split
  · exact reportUnknown d
  · exact reportReleased d
  · exact reportSecured d _
  · exact reportPassage d
  · exact reportAjarForced d
  · exact reportAjarForced d
  · exact refl _
  · exact reportWaiting d
  · exact reportActing d _ _

theorem restoreUnreached (d : DoorNo) (x : Door) : Work s (s.restoreUnreached d x) := by
  unfold State.restoreUnreached
  split
  · exact restoreIntent d
  · exact refl _

theorem actOn (d : DoorNo) (dir : Direction) : Work s (s.actOn d dir) := by
  refine trans (updDoor d (f := fun x => { x with intent := dir.intent, keepOpen := false })) ?_
  cases dir with
  | lock =>
    show Work _ (State.actLock d _)
    unfold State.actLock
    split
    · exact refl _
    · exact refl _
    · exact refl _
    · split
      · exact refl _
      · exact placeLock d
    · split
      · exact placeLock d
      · exact refl _
    all_goals exact placeLock d
  | release =>
    show Work _ (State.actRelease d _)
    unfold State.actRelease
    split
    · exact refl _
    · split
      · exact changeState d _
      · exact place _ _ _ _
    · split
      · exact place _ _ _ _
      · exact refl _
    all_goals exact place _ _ _ _

theorem turnToRelease (d : DoorNo) : Work s (s.turnToRelease d) := by
  unfold State.turnToRelease
  split
  · exact refl _
  · split
    · exact changeState d _
    · exact placeRelease d
  · split
    · exact placeRelease d
    · exact refl _
  all_goals exact placeRelease d

theorem deferOn (d : DoorNo) : Work s (s.deferOn d) := by
  unfold State.deferOn
  split
  · split
    · exact refl _
    · split
      · exact withdrawEntry d
      · exact refl _
  · split
    · exact refl _
    · split
      · exact updDoor d
      · exact refl _
  all_goals first
    | exact refl _
    | (refine trans (updDoor d (f := Door.noIntent)) ?_
       dsimp only
       split
       · exact changeState d _
       · exact updDoor d)

theorem keepOpenOn (d : DoorNo) : Work s (s.keepOpenOn d) := (updDoor d).trans (turnToRelease d)

theorem beginOn (k : HoldKind) (d : DoorNo) : Work s (s.beginOn k d) := by
  unfold State.beginOn
  refine trans (moveToHeld d) (trans ?_ (finishOf d))
  split
  · exact deferOn d
  · exact keepOpenOn d

theorem beginHold (h : Hold) : Work s (s.beginHold h) := forEach _ (fun d _ => beginOn _ d)

theorem freeDoor (d : DoorNo) : Work s (s.freeDoor d) := by
  have hu : ∀ s : State, Work s (s.freeUnlinked d) := by
    intro s
    unfold State.freeUnlinked
    split
    · exact updDoor d
    · exact restoreIntent d
  unfold State.freeDoor
  split
  · exact hu s
  · split
    · exact reclassify d
    · split
      · exact updDoor d
      · exact hu s

theorem giveTrailing (sc : Scope) : Work s (s.giveTrailing sc) := giveSet _ _

theorem releaseFireDoor (d : DoorNo) : Work s (s.releaseFireDoor d) :=
  ((updDoor d).trans (turnToRelease d)).trans (finishOf d)

theorem withdrawLock (z : ZoneNo) : Work s (s.withdrawLock z) := by
  have h : Work s (if (s.zone z).hasLockMarker then s.updZone z (fun x => { x with marker := none }) else s) := by
    split
    · exact updZone z
    · exact refl _
  unfold State.withdrawLock
  refine trans h ?_
  generalize (if (s.zone z).hasLockMarker then s.updZone z (fun x => { x with marker := none }) else s) = q
  dsimp only
  split
  · exact refl _
  · exact cancelSweep _

theorem giveInput (i : InputNo) (dir : Direction) : Work s (s.giveInput i dir) := giveSet _ _

theorem raiseInput (i : InputNo) (r : Bool) : Work s (s.raiseInput i r) := raise _ _ _

/-! ### The ends of timers, and a minute's schedule -/

theorem endAllowance (d : DoorNo) : Work s (s.endAllowance d) := by
  unfold State.endAllowance
  split
  · exact updDoor d
  · exact refl _

theorem endPassage (d : DoorNo) : Work s (s.endPassage d) := by
  unfold State.endPassage
  split
  · exact (raiseDoor _ d).trans (updDoor d)
  · exact refl _

theorem endReminder (d : DoorNo) : Work s (s.endReminder d) := by
  unfold State.endReminder
  split
  · exact (raiseDoor _ d).trans (setReminder d)
  · exact refl _

theorem giveSchedule : Work s s.giveSchedule := by
  unfold State.giveSchedule
  split
  · exact giveSet _ _
  · exact refl _

end Work

/-! ### The law of work -/

/-- A change of a trunk that leaves its queue and its records keeps the law of work (R4). -/
theorem State.WorkLaw.updTrunk {s : State} {u : Trunk} {f : TrunkState → TrunkState} (h : s.WorkLaw)
    (hq : (f (s.trunk u)).queue = (s.trunk u).queue := by rfl)
    (hi : (f (s.trunk u)).inFlight = (s.trunk u).inFlight := by rfl) : (s.updTrunk u f).WorkLaw := by
  intro d t
  have he : (s.updTrunk u f).entriesOf t d = s.entriesOf t d := by
    by_cases e : t = u <;> simp [State.entriesOf, e, hq]
  have hr : (s.updTrunk u f).recordsOf t d = s.recordsOf t d := by
    by_cases e : t = u <;> simp [State.recordsOf, e, hi]
  rw [he, hr]
  exact h d t

/-! ### The count of a linked door -/

/-- The words of the statements and the operation name one table (R68, R69). -/
theorem countTable_eq (dir : Direction) (c : Count) (st : DoorState) :
    countTable dir c st = (countAfterState dir c st).getD c := by
  cases dir <;> cases c <;> cases st <;> rfl

/-- A move to the same count moves nothing (R70). -/
@[simp] theorem Counts.move_self (c : Counts) (k : Count) : c.move k k = c := by simp [Counts.move]

/-- A door without a sweep has no count to move. -/
theorem State.countedAs_unlinked {s : State} {d : DoorNo} (h : (s.door d).sweep = none) (st : DoorState) :
    s.countedAs d st = s := by simp [State.countedAs, h]

/-- No sweep ends with a door that none links. -/
theorem State.SweepGoesOn.of_unlinked {s : State} {d : DoorNo} (h : (s.door d).sweep = none) : s.SweepGoesOn d := by
  intro l hl; rw [h] at hl; cases hl

/-- The sweep of a linked door goes on with a pending door beside it. -/
theorem State.SweepGoesOn.of_linked {s : State} {d : DoorNo} {l : SweepLink} {w : Sweep} (h : (s.door d).sweep = some l)
    (hw : s.slot l.slot = some w) (hp : (if l.count = .pending then 1 else 0) < w.counts.pending) : s.SweepGoesOn d := by
  intro m hm; rw [h] at hm; cases hm; exact ⟨w, hw, hp⟩

/-- What a change of a door's state does to the Sweep Table, and to the door's link, is to move its count (R68, R69). -/
theorem State.changeState_follows {s : State} {d : DoorNo} {st : DoorState} (h : (s.door d).state ≠ st) :
    s.SweepFollows (s.changeState d st) d st := by
  unfold State.SweepFollows State.changeState State.handOffCount State.linkedSweep State.countedAs
  rw [if_neg h]
  cases hl : (s.door d).sweep with
  | none => simp [State.rederive, Door.enter, Door.clearTimers, hl]
  | some l =>
    cases hw : s.slot l.slot with
    | none => simp [State.rederive, Door.enter, Door.clearTimers, hl, hw]
    | some w =>
      cases hc : countAfterState w.direction l.count st with
      | none =>
        have hv : s.slots.set l.slot.val (some w) = s.slots := by
          rw [show some w = s.slots[l.slot.val] from hw.symm]; simp
        constructor
        · simpa [State.rederive, Door.enter, Door.clearTimers, hl, hw, hc, countTable_eq, State.setSlot] using hv.symm
        · simp [State.rederive, Door.enter, Door.clearTimers, hl, hw, hc, countTable_eq]
      | some c =>
        constructor
        · simp [State.rederive, Door.enter, Door.clearTimers, hl, hw, hc, countTable_eq, State.moveCount, State.updSlot,
            State.setSlot]
        · simp [State.rederive, Door.enter, Door.clearTimers, hl, hw, hc, countTable_eq, State.moveCount]

end Sys2Proof.Machine
end

