-- ==== Sys2Proof/WellFormed.lean ====
section
/-! DEFINITION. WellFormed.lean: which command terms a sender can present. Request operands are payload fields and
every value of them can be sent (R176); a value out of range is answered by the owning rule. The checks are of the
line's physics (R98, R103, R104). -/

namespace Sys2Proof

/-- The most characters a reply window of 6 ms can hold in full, 176 µs each (R98, R103). -/
def maxReplyChars : Nat := 34

/-- A reply that did not begin in time brought no characters the judgement reads, and no window holds more
characters than fit in it (R103, R104). -/
def LineReply.wellFormed (r : LineReply) : Bool :=
  (r.inTime || r.chars.isEmpty) && decide (r.chars.length ≤ maxReplyChars)

/-- The commands a sender can present. -/
def Instr.wellFormed : Instr → Bool
  | .frameOutcome _ reply => reply.wellFormed
  | .coldReset _ _ | .status | .fetch | .doorRead _ | .zoneRead _ | .sweepRead _ | .holdRead | .planRead _
  | .clockSet _ _ _ _ | .weekSet _ _ _ _ _ _ _ | .dateAdd _ _ _ _ | .dateRemove _ _ _ | .classSet _ _ _ _ _
  | .trunkSet _ _ _ _ _ _ | .doorSet _ _ _ _ _ _ _ | .doorClear _ | .zoneSet _ _ _ _ _ _ _ _ | .planStage _ _ _ _
  | .planLoad _ | .inputSet _ _ _ _ _ | .noticeMask _ | .sweep _ _ | .cancel _ | .doorAct _ _ | .holdAdd _ _ _ _
  | .holdEnd _ | .fireRestore | .restart | .linkCharacter _ _ | .requestFrame | .receiveGap | .quietWaitEnd
  | .replySent | .linkReset | .secondEvent | .exitAllowanceEnd _ | .longPassage _ | .ajarReminder _ | .warningEnd _
  | .holdCountdownEnd _ | .restEnd _ | .driveTimeout _ | .sendFrame _ _ | .windowEnd _ _ | .inputLevelChange _ _
  | .levelAccepted _ => true

end Sys2Proof
end

