-- ==== Sys2Proof/Tests/Slice0.lean ====
section
/-! SUPPORT. Tests/Slice0.lean: small tests of the model. Ill-formed terms that the check refuses, the examples of the
spec, boundary values of the requests, and, for each statement with hypotheses, states that meet them. -/

namespace Sys2Proof.Tests

open Sys2Proof Sys2Proof.Machine

set_option Elab.async false

/-! ### Helpers -/

/-- The state after a command. -/
def after (c : Instr) (s : State) : State :=
  match exec c s with
  | .next t => t
  | .fault _ | .refused _ => s

/-- The state after commands in order. -/
def afterAll (l : List Instr) (s : State) : State := l.foldl (fun s c => after c s) s

/-- The result of a request. -/
def answerOf (c : Instr) (s : State) : Option Answer := (after c s).blockResult

/-- The result code of a request. -/
def resultOf (c : Instr) (s : State) : Option Result := (answerOf c s).map Answer.result

/-- A reply of five sound characters. -/
def statusReply (pos bolt flags : Byte) : LineReply :=
  ⟨true, [0x21, pos, bolt, flags, 0 - (0x21 + pos + bolt + flags)].map (fun b => ⟨b, false, false⟩)⟩

/-- A reply window in which nothing came. -/
def noReply : LineReply := ⟨false, []⟩

/-- Doors 3 (address 5, exit and chime) and 4 (address 64, fire) on trunk A in zone 2. -/
def campus : State := afterAll [.doorSet 3 0 5 2 9 0 6, .doorSet 4 0 64 2 1 7 1] State.reset

/-- Door 3 has been polled and answered: heard, closed and thrown, or as given. -/
def heard (pos bolt flags : Byte) : State :=
  afterAll [.sendFrame .A 0, .frameOutcome .A (statusReply pos bolt flags)] campus

/-- Door 3 RELEASED. -/
def released : State := heard 0 1 0

/-- Door 3 ACTING in a LOCK drive whose DRIVE frame is on the line. -/
def driven : State := afterAll [.doorAct 3 1, .sendFrame .A 20] released

/-- The same drive, accepted: DRIVING. -/
def driving : State := after (.frameOutcome .A (statusReply 0 2 8)) driven

/-- Trunk A's line carries a poll of door 3 or of a door that is not there. -/
def polling (d : DoorNo) (s : State) : State := s.updTrunk .A (fun x => { x with line := .frame (frameFor .poll d 5) false })

/-- Zone 2 with warning lead 15 and chime pattern 7. -/
def warned : State := after (.zoneSet 2 0 15 7 5 60 2 0) released

/-- Every slot is taken by a warning of a zone from 20 to 27. -/
def crowded (s : State) : State :=
  { s with slots := Vector.ofFn (fun i => some ⟨⟨20 + i.val, by omega⟩, .lock, .link, .warning ⟨15, false⟩, 0, Counts.zero⟩) }

/-- Two timed holds with their last minute behind them, their ends not taken. The first second event is the one that the
setting of the clock takes away. -/
def spent : State :=
  afterAll [.holdAdd 1 0 4 1, .holdAdd 0 0 4 1, .clockSet 20 1 1 59, .secondEvent, .secondEvent] released

/-- A LOCK sweep of zone 2 is ACTIVE in slot 0: door 3 is granted and counted pending, door 4 unreachable. -/
def sweeping : State := after (.sweep 4 1) released

theorem allTrunksOf {P : Trunk → Prop} (a : P .A) (b : P .B) (c : P .C) (d : P .D) : ∀ t, P t
  | .A => a
  | .B => b
  | .C => c
  | .D => d

/-- What one pass over the Door Table finds of every pair holds of every door. -/
theorem ofDoorList (s : State) (p : DoorNo → Door → Bool) (h : s.doorList.all (fun e => p e.1 e.2) = true) (d : DoorNo) :
    p d (s.door d) = true := by
  refine List.all_eq_true.mp h (d, s.door d) (List.mem_iff_getElem.mpr ⟨d.val, ?_, ?_⟩)
  · simp [State.doorList]
  · simp [State.doorList, State.door]

/-- The law of work of one door, from its record. -/
def workOf (s : State) (d : DoorNo) (x : Door) : Bool :=
  allTrunks.all (fun t =>
    decide (s.entriesOf t d = if x.trunk = t ∧ x.state = .waiting then 1 else 0) &&
      decide (s.recordsOf t d = if x.trunk = t ∧ x.state = .acting then 1 else 0))

/-- The law of the counts of one door, from its record. -/
def linkOf (s : State) (_ : DoorNo) (x : Door) : Bool :=
  match x.sweep with
  | none => true
  | some l => x.configured && !x.unreached && (s.slot l.slot).any (fun w => decide (w.phase = .active ∧ w.zone = x.zone))

/-- The law of the counts of one slot. -/
def countsOf (s : State) (k : SlotNo) : Bool :=
  (s.slot k).all (fun w => [Count.done, .pending, .ajar, .jammed, .held, .unreachable].all
    (fun c => w.counts.get c == s.linkedWith k c) && w.total == w.counts.sum)

theorem countLaw_of (s : State) (hd : s.doorList.all (fun e => linkOf s e.1 e.2) = true)
    (hk : (List.finRange 8).all (countsOf s) = true) : s.CountLaw := by
  refine ⟨fun d l hl => ?_, fun k w hw => ?_⟩
  · have h := ofDoorList s (linkOf s) hd d
    rw [Option.mem_def] at hl
    simp only [linkOf, hl, Bool.and_eq_true, Bool.not_eq_true', Option.any_eq_true, decide_eq_true_eq, and_assoc] at h
    exact h
  · have h := List.all_eq_true.mp hk k (List.mem_finRange k)
    rw [Option.mem_def] at hw
    simp only [countsOf, hw, Option.all_some, Bool.and_eq_true, List.all_eq_true, beq_iff_eq] at h
    exact ⟨fun c => h.1 c (by cases c <;> decide), h.2⟩

theorem workLaw_of (s : State) (h : s.doorList.all (fun e => workOf s e.1 e.2) = true) : s.WorkLaw := by
  intro d t
  have := List.all_eq_true.mp (ofDoorList s (workOf s) h d) t (by cases t <;> decide)
  simpa using this

/-! ### Ill-formed terms -/

theorem test_wf_lateCharacters : Instr.wellFormed (.frameOutcome .A ⟨false, [⟨0x21, false, false⟩]⟩) = false := by decide

theorem test_wf_tooManyCharacters :
    Instr.wellFormed (.frameOutcome .A ⟨true, List.replicate 35 ⟨0, false, false⟩⟩) = false := by decide

theorem test_wf_fullWindow :
    Instr.wellFormed (.frameOutcome .A ⟨true, List.replicate 34 ⟨0, false, false⟩⟩) = true := by decide

theorem test_decode_none : decodeTableWord 8 0 = none := rfl

/-! ### Examples of the spec -/

theorem test_crc_check : crc16 [0x31, 0x32, 0x33, 0x34, 0x35, 0x36, 0x37, 0x38, 0x39] = 0x29B1 := by decide +kernel

theorem test_downFrame_poll : (frameFor .poll 3 5).chars =
    [⟨5, true, false⟩, ⟨0x11, false, false⟩, ⟨0xEA, false, false⟩] := by decide +kernel

/-- Zones 2, 9, 14 and 20 at 05:00 (after R47). -/
theorem test_lockedPeriods : (DayPlan.locked ⟨some 1260, some 390⟩ 300, DayPlan.locked ⟨some 480, some 1020⟩ 300,
    DayPlan.locked ⟨some 1320, none⟩ 300, DayPlan.locked ⟨none, some 420⟩ 300) = (true, false, false, true) := by decide

/-- 2026-10-26 is a Monday; the two ends of the calendar are a Saturday and a Thursday (R149). -/
theorem test_weekdays : ((Date.weekday ⟨26, 10, 26⟩).val, (Date.weekday ⟨0, 1, 1⟩).val, (Date.weekday ⟨99, 12, 31⟩).val) =
    (0, 5, 3) := by decide +kernel

theorem test_nextDates : (Date.next ⟨24, 2, 28⟩, Date.next ⟨23, 2, 28⟩, Date.next ⟨23, 12, 31⟩, Date.next ⟨99, 12, 31⟩) =
    (⟨24, 2, 29⟩, ⟨23, 3, 1⟩, ⟨24, 1, 1⟩, ⟨0, 1, 1⟩) := by decide +kernel

/-! ### Boundaries of the requests -/

theorem test_clockSet : [resultOf (.clockSet 99 12 31 86399) campus, resultOf (.clockSet 0 1 1 0) campus,
    resultOf (.clockSet 24 2 29 0) campus, resultOf (.clockSet 23 2 29 0) campus, resultOf (.clockSet 20 4 31 0) campus,
    resultOf (.clockSet 100 1 1 0) campus, resultOf (.clockSet 20 13 1 0) campus, resultOf (.clockSet 20 1 0 0) campus,
    resultOf (.clockSet 20 1 1 86400) campus] =
    [some .ok, some .ok, some .ok, some .range, some .range, some .range, some .range, some .range, some .range] := by
  decide +kernel

theorem test_weekSet : [resultOf (.weekSet 3 0 0 0 0 0 0) campus, resultOf (.weekSet 0 0 0 0 0 0 4) campus] =
    [some .ok, some .range] := by decide +kernel

theorem test_dates : [answerOf (.dateAdd 20 2 29 3) campus, answerOf (.dateAdd 21 2 29 3) campus,
    answerOf (.dateAdd 20 1 1 4) campus, answerOf (.dateRemove 20 1 1) campus,
    answerOf (.dateAdd 20 2 29 0) (after (.dateAdd 20 2 29 3) campus),
    answerOf (.dateRemove 20 2 29) (after (.dateAdd 20 2 29 3) campus)] =
    [some ⟨.ok, [1, 0]⟩, some ⟨.range, []⟩, some ⟨.range, []⟩, some ⟨.range, []⟩, some ⟨.ok, [1, 1]⟩,
      some ⟨.ok, [0]⟩] := by decide +kernel

/-- A campus whose exception list is full. -/
def fullList : State := campus.withExceptions ((List.range 24).map (fun n => ⟨⟨20, 1, n + 1⟩, .term⟩))

theorem test_dateAdd_full : (resultOf (.dateAdd 20 2 1 0) fullList, resultOf (.dateAdd 20 1 24 0) fullList) =
    (some .full, some .ok) := by decide +kernel

/-- Dates added out of order stand in order, as a list in order stays. -/
theorem test_dateOrder :
    let s := afterAll [.dateAdd 20 5 1 0, .dateAdd 21 1 1 1, .dateAdd 20 4 30 2, .dateAdd 20 5 1 3] campus
    s.clock.exceptions = [⟨⟨20, 4, 30⟩, .weekend⟩, ⟨⟨20, 5, 1⟩, .closed⟩, ⟨⟨21, 1, 1⟩, .short⟩] ∧ s.clock.Law := by
  unfold Clock.Law; decide +kernel

theorem test_zoneSet : [resultOf (.zoneSet 31 255 15 7 5 60 31 2) campus, resultOf (.zoneSet 32 0 0 0 5 0 0 0) campus,
    resultOf (.zoneSet 0 0 16 0 5 0 0 0) campus, resultOf (.zoneSet 0 0 0 8 5 0 0 0) campus,
    resultOf (.zoneSet 0 0 0 0 4 0 0 0) campus, resultOf (.zoneSet 0 0 0 0 5 61 0 0) campus,
    resultOf (.zoneSet 0 0 0 0 5 0 0 3) campus,
    resultOf (.zoneSet 1 0 0 0 5 0 2 0) (after (.zoneSet 2 0 0 0 5 0 3 0) campus),
    resultOf (.zoneSet 3 0 0 0 5 0 1 0) (after (.zoneSet 2 0 0 0 5 0 3 0) campus)] =
    [some .ok, some .range, some .range, some .range, some .range, some .range, some .range, some .conflict,
      some .conflict] := by decide +kernel

theorem test_planStage : [resultOf (.planStage 31 3 1439 0) campus, resultOf (.planStage 0 0 0xFFFF 0xFFFF) campus,
    resultOf (.planStage 0 0 0 0) campus, resultOf (.planStage 0 0 1440 0) campus, resultOf (.planStage 0 4 0 1) campus,
    resultOf (.planStage 32 0 0 1) campus, resultOf (.planLoad 31) campus, resultOf (.planLoad 32) campus] =
    [some .ok, some .ok, some .range, some .range, some .range, some .range, some .ok, some .range] := by decide +kernel

/-- A staged plan is loaded at once under IMMEDIATE, and by PLAN_LOAD under another rule. -/
theorem test_planLoads :
    (((afterAll [.zoneSet 2 0 0 0 5 0 2 0, .planStage 2 0 60 120] campus).zone 2).live.term,
      ((after (.planStage 2 0 60 120) campus).zone 2).live.term,
      ((afterAll [.planStage 2 0 60 120, .planLoad 2] campus).zone 2).live.term) =
    (⟨some 60, some 120⟩, ⟨none, none⟩, ⟨some 60, some 120⟩) := by decide +kernel

theorem test_classSet : [resultOf (.classSet 7 16 16 30 3) campus, resultOf (.classSet 0 0 0 1 0) campus,
    resultOf (.classSet 8 0 0 1 0) campus, resultOf (.classSet 0 17 0 1 0) campus, resultOf (.classSet 0 0 17 1 0) campus,
    resultOf (.classSet 0 0 0 0 0) campus, resultOf (.classSet 0 0 0 31 0) campus, resultOf (.classSet 0 0 0 1 4) campus,
    resultOf (.classSet 0 0 0 1 0) driven, resultOf (.classSet 7 0 0 1 0) driven] =
    [some .ok, some .ok, some .range, some .range, some .range, some .range, some .range, some .range, some .state,
      some .ok] := by decide +kernel

theorem test_trunkSet : [resultOf (.trunkSet 3 32 15 5000 255 15) campus, resultOf (.trunkSet 0 1 1 0 0 1) campus,
    resultOf (.trunkSet 4 1 1 0 0 1) campus, resultOf (.trunkSet 0 0 1 0 0 1) campus, resultOf (.trunkSet 0 33 1 0 0 1) campus,
    resultOf (.trunkSet 0 1 16 0 0 1) campus, resultOf (.trunkSet 0 1 1 5050 0 1) campus,
    resultOf (.trunkSet 0 1 1 49 0 1) campus, resultOf (.trunkSet 0 1 1 0 0 0) campus,
    resultOf (.trunkSet 0 1 1 0 0 16) campus, resultOf (.trunkSet 0 1 1 0 0 1) driven] =
    [some .ok, some .ok, some .range, some .range, some .range, some .range, some .range, some .range, some .range,
      some .range, some .state] := by decide +kernel

theorem test_doorSet : [resultOf (.doorSet 255 3 64 31 255 7 255) campus, resultOf (.doorSet 5 0 1 0 0 0 0) campus,
    resultOf (.doorSet 5 4 1 0 0 0 0) campus, resultOf (.doorSet 5 0 0 0 0 0 0) campus,
    resultOf (.doorSet 5 0 65 0 0 0 0) campus, resultOf (.doorSet 5 0 1 32 0 0 0) campus,
    resultOf (.doorSet 5 0 1 0 0 8 0) campus, resultOf (.doorSet 5 0 64 0 0 0 0) campus,
    resultOf (.doorSet 4 0 64 0 0 0 0) campus, resultOf (.doorSet 3 0 5 0 0 0 0) driven] =
    [some .ok, some .ok, some .range, some .range, some .range, some .range, some .range, some .conflict, some .ok,
      some .state] := by decide +kernel

/-- The last door of a trunk takes the trunk OFF. -/
theorem test_doorClear : (resultOf (.doorClear 3) driven, ((after (.doorClear 3) campus).trunk .A).mode,
    ((afterAll [.doorClear 3, .doorClear 4] campus).trunk .A).mode, resultOf (.doorClear 9) campus) =
    (some .state, .running, .off, some .ok) := by decide +kernel

theorem test_doorAct_refusals : [resultOf (.doorAct 3 0) released, resultOf (.doorAct 3 3) released,
    resultOf (.doorAct 9 1) released, resultOf (.doorAct 3 1) (after (.holdAdd 1 1 3 0) released),
    resultOf (.doorAct 3 2) (after (.holdAdd 1 1 3 0) released),
    resultOf (.doorAct 4 1) { released with fire := .cleared }, resultOf (.doorAct 3 1) (after (.sweep 4 1) released)] =
    [some .range, some .range, some .range, some .held, some .ok, some .fire, some .sweep] := by decide +kernel

theorem test_sweep_refusals : [resultOf (.sweep 0 1) released, resultOf (.sweep 4 3) released,
    resultOf (.sweep 4 1) { released with fire := .active }, resultOf (.sweep 4 2) { released with fire := .active }] =
    [some .range, some .range, some .fire, some .ok] := by decide +kernel

theorem test_holdAdd : [resultOf (.holdAdd 0 0 4 1439) released, resultOf (.holdAdd 2 0 4 0) released,
    resultOf (.holdAdd 0 2 4 0) released, resultOf (.holdAdd 0 0 0 0) released, resultOf (.holdAdd 0 1 9 0) released,
    resultOf (.holdAdd 0 1 256 0) released, resultOf (.holdAdd 0 0 4 1440) released,
    resultOf (.holdAdd 0 0 1 0) (afterAll (List.replicate 16 (.holdAdd 1 0 1 0)) released)] =
    [some .ok, some .range, some .range, some .range, some .range, some .range, some .range, some .full] := by
  decide +kernel

/-- The id after 255 is 1. -/
theorem test_holdId_wraps : answerOf (.holdAdd 1 0 1 0) { campus with lastHoldId := 255 } = some ⟨.ok, [1]⟩ := by
  decide +kernel

theorem test_inputSet : [resultOf (.inputSet 7 1 4 0 1) campus, resultOf (.inputSet 8 0 0 0 0) campus,
    resultOf (.inputSet 1 2 0 0 0) campus, resultOf (.inputSet 1 0 5 0 0) campus, resultOf (.inputSet 1 0 0 0 2) campus,
    resultOf (.inputSet 1 0 1 0 0) campus, resultOf (.inputSet 1 0 3 0 0) campus, resultOf (.inputSet 0 0 9 0 9) campus] =
    [some .ok, some .range, some .range, some .range, some .range, some .range, some .range, some .ok] := by
  decide +kernel

theorem test_noticeMask : (answerOf (.noticeMask 0xFFF8) campus, resultOf (.noticeMask 4) campus,
    answerOf (.noticeMask 0) (after (.noticeMask 0x8000) campus)) =
    (some ⟨.ok, [0, 0]⟩, some .range, some ⟨.ok, [0x80, 0]⟩) := by decide +kernel

theorem test_reads_range : [resultOf (.zoneRead 31) campus, resultOf (.zoneRead 32) campus, resultOf (.planRead 32) campus,
    resultOf (.sweepRead 7) campus, resultOf (.sweepRead 8) campus] =
    [some .ok, some .range, some .range, some .ok, some .range] := by decide +kernel

theorem test_fireRestore : (resultOf .fireRestore campus, resultOf .fireRestore { campus with fire := .active },
    answerOf .fireRestore { campus with fire := .cleared }) =
    (some .state, some .fire, some ⟨.ok, [0, 0, 0, 4, 0, 0, 0, 0]⟩) := by decide +kernel

/-- The 11 bits of an address character: start, 5 from its least significant bit, the mark and the stop (R98). -/
theorem test_levels : LineChar.levels ⟨5, true, false⟩ =
    [.low, .high, .low, .high, .low, .low, .low, .low, .low, .high, .high] ∧
    LineChar.levels ⟨0x80, false, true⟩ = [.low, .low, .low, .low, .low, .low, .low, .low, .high, .low, .low] := by decide

/-! ### One step each -/

/-- FETCH gives RESTARTED, its stamps absent, and ALERT falls. -/
theorem test_fetch : ((answerOf .fetch campus).map Answer.payload, (after .fetch campus).noticeSet.alert) =
    (some [0, 0, 1, 16, 0xFF, 4, 0xFF, 0xFF, 0xFF, 0xFF, 0xFF, 0xFF, 1, 1, 0], false) := by decide +kernel

/-- ALERT is LOW while a notice is held and HIGH when the last one is taken; both sets meet their law (R163). -/
theorem test_alertLevel : (campus.noticeSet.alertLevel, (after .fetch campus).noticeSet.alertLevel) = (.low, .high) ∧
    campus.noticeSet.Law ∧ (after .fetch campus).noticeSet.Law := by
  unfold NoticeSet.Law
  decide +kernel

/-- The rates of the straps. -/
theorem test_coldReset : ((after (.coldReset .low .high) campus).rate, (after (.coldReset .high .low) campus).rate,
    (after (.coldReset .high .high) campus).rate) = (.bps19200, .bps38400, .bps115200) := by decide +kernel

theorem test_restart : (((after .restart driven).door 3).state, ((after .restart driven).trunk .A).queue,
    ((after .restart driven).trunk .A).freeUnits) = (.unknown, [], 12) := by decide +kernel

/-- An idle step adds a millisecond, 625 tenths of a bit on a trunk. -/
theorem test_idle : (match step released with
    | .next t => ((t.trunk .A).sincePatrol, (t.door 3).sinceFrame)
    | _ => (none, 0)) = (some 625, 625) := by decide +kernel

/-- A frame is sent at the end of its last character: 3 characters of a poll and 4 of a DRIVE after SEND_FRAME, and before
its outcome at the latest (R116). -/
theorem test_sent :
    (let s := after (.sendFrame .A 20) released
     ((s.trunk .A).sincePatrol, (s.door 4).sinceFrame) = (some (-330), -330)) ∧
    ((driven.door 3).sinceFrame, (driving.door 3).sinceFrame) = (-440, 0) ∧
    (match step driven with
      | .next t => (t.door 3).sinceFrame
      | _ => 0) = 185 := by decide +kernel

/-- The settle interval and the poll gap are counted from there: 200 ms and 20 ms after SEND_FRAME they have not passed. -/
theorem test_sentIntervals :
    ([200, 201].map (fun n => ((driven.door 3).wait n).settleDue),
      [20, 21].map (fun n => (((after (.sendFrame .A 20) released).trunk .A).wait n).gapPassed)) =
    ([false, true], [false, true]) := by decide +kernel

/-- Door 4 is moved to trunk B while trunk A polls it, and trunk B polls it at once: the outcome on trunk A leaves the 200
ms of the poll that is still being sent on trunk B to begin at its end (R105, R115). -/
theorem test_movedDoor :
    let s := afterAll [.sendFrame .A 20, .doorSet 4 1 64 2 1 7 1, .sendFrame .B 0] released
    ((s.door 4).sinceFrame, ((after (.frameOutcome .A noReply) s).door 4).sinceFrame,
      ((after (.frameOutcome .B noReply) s).door 4).sinceFrame) = (-330, -330, 0) := by decide +kernel

/-- A command in front is run on the queue's rest. -/
theorem test_front : (match step { released with pending := [.status, .fetch] } with
    | .next t => (t.pending, t.blockResult.isSome)
    | _ => ([], false)) = ([.fetch], true) := by decide +kernel

/-- A LOCK of one RELEASED door is granted, driven and settles SECURED; the sweep then finishes. -/
theorem test_lockSweep : (((after (.sweep 4 1) released).door 3).state,
    ((afterAll [.sweep 4 1, .sendFrame .A 20, .frameOutcome .A (statusReply 0 2 8), .sendFrame .A 200,
      .frameOutcome .A (statusReply 0 0 0)] released).door 3).state,
    (afterAll [.sweep 4 1, .sendFrame .A 20, .frameOutcome .A (statusReply 0 2 8), .sendFrame .A 200,
      .frameOutcome .A (statusReply 0 0 0)] released).noticeSet.notices.head?.map Notice.detail) =
    (.acting, .secured, some (.sweepDone .lock .link false 2 ⟨1, 0, 0, 0, 0, 1⟩)) := by decide +kernel

/-- The drive of `driven` not accepted is a failed attempt and is granted again. -/
theorem test_driveRefused : (((after (.frameOutcome .A (statusReply 0 1 0)) driven).door 3).attempts,
    ((after (.frameOutcome .A (statusReply 0 1 0)) driven).door 3).state) = (1, .acting) := by decide +kernel

/-- The failed attempt beyond the retries jams the door. -/
theorem test_driveJams : ((after (.driveTimeout 3) (driving.updDoor 3 (fun x => { x with attempts := 2 }))).door 3).state =
    .jammed := by decide +kernel

/-- The miss that reaches the limit of 3. -/
theorem test_silent : ((after (.frameOutcome .A noReply) (polling 3 (released.updDoor 3 (fun x => { x with misses := 2 })))).door 3).health
    = .silent := by decide +kernel

/-- The sixteenth failure takes the trunk DOWN. -/
theorem test_trunkDown : ((after (.frameOutcome .A noReply) (polling 9 (released.updTrunk .A (fun x => { x with failures := 15 })))).trunk .A).mode
    = .down := by decide +kernel

/-- The values of a window: an address with a door, one without, and no alert. -/
theorem test_window : ((after (.windowEnd .A 5) (campus.sendWindow .A)).trunk .A).urgentPoll = some 5 ∧
    ((after (.windowEnd .A 6) (campus.sendWindow .A)).trunk .A).urgentPoll = none ∧
    ((after (.windowEnd .A 127) (campus.sendWindow .A)).trunk .A).urgentPoll = none := by decide +kernel

/-- The eighth frame is followed by the WINDOW. -/
theorem test_windowDue : ((after (.sendFrame .A 20) (released.updTrunk .A (fun x => { x with sinceWindow := 8 }))).trunk .A).line =
    .window windowFrame false := by decide +kernel

/-- A poll drives the line; a millisecond later its reply window is open and the driver released (R98, R103). -/
theorem test_lineOutputs : ((after (.sendFrame .A 20) released).trunk .A).line.de = .high ∧
    ((after (.sendFrame .A 20) released).trunk .A).line.tx = .low ∧
    ((((after (.sendFrame .A 20) released).trunk .A).line.wait 1).de,
      (((after (.sendFrame .A 20) released).trunk .A).line.wait 1).tx) = (.low, .high) := by decide +kernel

/-- A request that is taken after the setting, refused or not, finds the restarted second past; as a frame in TAKEN does
(R151, R172, log 19). -/
theorem test_restartedByRequest :
    let after60 := fun (c : Instr) => (afterAll [.clockSet 20 1 1 59, c, .secondEvent] released).clock.seconds
    [.status, .fetch, .sweep 0 1, .clockSet 20 13 1 0, .doorAct 3 1].map after60 = [60, 60, 60, 60, 60] ∧
    after60 (.clockSet 20 1 1 59) = 59 ∧
    (afterAll [.requestFrame, .secondEvent] { after (.clockSet 20 1 1 59) released with
      receiver := ⟨.taken, false, requestBytes 1 7 [], some 2, none⟩ }).clock.seconds = 60 := by decide +kernel

/-- A setting takes away the second event that comes with it, and not one after a wait (R151). -/
theorem test_restarted : ((afterAll [.clockSet 20 1 1 59, .secondEvent] released).clock.seconds,
    (afterAll [.clockSet 20 1 1 59, .sendFrame .A 1, .secondEvent] released).clock.seconds) = (59, 60) := by decide +kernel

/-- So does every command that ends what has taken time: a second event after it counts (R151, log 19). -/
theorem test_restartedEnds :
    let after60 := fun (c : Instr) (s : State) => (afterAll [.clockSet 20 1 1 59, c, .secondEvent] s).clock.seconds
    after60 .receiveGap (after (.linkCharacter 0xC3 false) released) = 60 ∧
    after60 .quietWaitEnd { released with receiver := ⟨.hunt, true, [], none, some 0⟩ } = 60 ∧
    after60 .replySent { released with transmitter := ⟨some [0xC3], none, 0, none⟩ } = 60 ∧
    after60 (.frameOutcome .A noReply) (polling 3 released) = 60 ∧
    after60 (.windowEnd .A 127) (campus.sendWindow .A) = 60 ∧
    after60 (.linkCharacter 0xC3 false) released = 60 ∧ after60 .linkReset released = 60 := by decide +kernel

/-- One that finds nothing to end asserts no time, and the second event does not occur (R151, logs 3 and 19). -/
theorem test_restartedStays :
    let after59 := fun (c : Instr) => (afterAll [.clockSet 20 1 1 59, c, .secondEvent] released).clock.seconds
    [.receiveGap, .quietWaitEnd, .replySent, .frameOutcome .A noReply, .windowEnd .A 127].map after59 =
      [59, 59, 59, 59, 59] := by decide +kernel

/-- A LOCK sweep on a DOWN trunk leaves the RELEASED door 3 unreached at its finish, and the door is placed when it is
heard again (R75). -/
theorem test_unreached :
    let left := after (.sweep 4 1) (released.updTrunk .A (fun x => { x with mode := .down, failures := 16 }))
    ((left.door 3).state, (left.door 3).intent, (left.door 3).sweep, (left.door 3).unreached) =
      (.released, .lock, none, true) ∧
    (let t := after (.frameOutcome .A (statusReply 0 1 0)) (polling 3 left)
     ((t.door 3).state, (t.door 3).unreached, (t.trunk .A).mode) = (.acting, false, .running)) := by decide +kernel

/-- A SECURED exit door opened after a request to exit is in PASSAGE, without one FORCED. -/
theorem test_opened : (((after (.frameOutcome .A (statusReply 1 0 1)) (polling 3 (heard 0 0 0))).door 3).state,
    ((after (.frameOutcome .A (statusReply 1 0 0)) (polling 3 (heard 0 0 0))).door 3).state) = (.passage, .forced) := by
  decide +kernel

/-- A warning of 15 minutes, its last minute, and its end. -/
theorem test_warning : (((after (.sweep 4 1) warned).slot 0).map Sweep.phase,
    ((after (.warningEnd 0) ((after (.sweep 4 1) warned).updSlot 0 (fun w => { w with phase := .warning ⟨1, true⟩ }))).slot 0).map
      Sweep.phase) = (some (.warning ⟨15, false⟩), some .active) := by decide +kernel

/-- CANCEL of a warning raises SWEEP_DONE and frees the slot. -/
theorem test_cancel : (answerOf (.cancel 4) (after (.sweep 4 1) warned), (after (.cancel 4) (after (.sweep 4 1) warned)).slot 0) =
    (some ⟨.ok, [0, 0, 0, 0, 0, 0, 0, 4]⟩, none) := by decide +kernel

/-- A fire input that becomes active. -/
def alarmed : State := campus.updInput 0 (fun x => { x with candidate := some ⟨.low, 50⟩ })

theorem test_fireOnset : ((after (.levelAccepted 0) alarmed).fire, ((after (.levelAccepted 0) alarmed).door 4).intent,
    ((after (.levelAccepted 0) alarmed).zone 2).state) = (.active, .release, .fire) := by decide +kernel

/-- A level that is not the debounced one starts a candidate at 0 ms. -/
theorem test_inputLevel : ((after (.inputLevelChange 7 .high) campus).input 7).candidate = some ⟨.high, 0⟩ := by
  decide +kernel

/-- Two holds of 1 minute: the minute leaves their last unit to their commands, which end them in the order of the list
whichever comes first; a second that comes before them ends both. -/
theorem test_holdCountdown : (spent.holds.map Hold.remaining, (after (.holdCountdownEnd 2) spent).holds.map Hold.id,
      (after .secondEvent spent).holds.map Hold.id) =
    ([some ⟨1, true⟩, some ⟨1, true⟩], [], []) := by decide +kernel

theorem test_holdEnd : (resultOf (.holdEnd 1) released, (afterAll [.holdAdd 1 0 4 0, .holdEnd 1] released).holds) =
    (some .range, []) := by decide +kernel

/-- The timers of one second and their ends. -/
theorem test_timers :
    (((afterAll [.secondEvent, .longPassage 3] (released.updDoor 3 (fun x => { x with passage := some ⟨1, false⟩ }))).door 3).passage,
      ((afterAll [.secondEvent, .exitAllowanceEnd 3]
        (released.updDoor 3 (fun x => { x with allowance := some ⟨1, false⟩ }))).door 3).allowance,
      ((after (.ajarReminder 3) (released.updDoor 3 (fun x => { x with reminder := some ⟨1, true⟩ }))).door 3).reminder,
      ((after (.ajarReminder 3) (released.updDoor 3 (fun x => { x with reminder := some ⟨1, false⟩ }))).door 3).reminder) =
    (some ⟨30, false⟩, none, some ⟨15, false⟩, some ⟨1, false⟩) := by decide +kernel

/-- A rest that ends. -/
theorem test_restEnd : ((after (.restEnd .A) (released.updTrunk .A (fun x => { x with restRemaining := some 5000 }))).trunk .A).restRemaining
    = none := by decide +kernel

/-- The STATUS request with tag 0x2A, character by character, is taken and answered. -/
theorem test_link : ((requestBytes 1 0x2A []).foldl State.hear campus).receiver.mode = .taken ∧
    ((after .requestFrame ((requestBytes 1 0x2A []).foldl State.hear campus)).transmitter.current.map
      (fun l => (l.take 5, l.length))) = some ([0xC3, 28, 0x81, 0x2A, 0], 32) := by decide +kernel

/-- The ends on the link. -/
theorem test_linkEnds : (after .receiveGap (campus.hear 0xC3)).receiver = ⟨.hunt, false, [], none, none⟩ ∧
    (after .quietWaitEnd ((campus.hear 0xC3).hear 1)).receiver.quietWait = false ∧
    (after .replySent ((campus.hear 0xC3).hear 1)).transmitter = Transmitter.cold ∧
    (after .linkReset ((campus.hear 0xC3).hear 1)).transmitter = ⟨none, none, 0, some 0xC3⟩ := by decide +kernel

/-- LTXD is HIGH at rest; a character is a LOW start bit, its bits from the least significant, and a HIGH stop bit. -/
theorem test_ltxd : ((List.range 12).map (fun n => Transmitter.ltxd ⟨some [0xC3], none, 10 * n, none⟩), Transmitter.cold.ltxd) =
    ([.low, .high, .high, .low, .low, .low, .low, .high, .high, .high, .high, .high], .high) := by decide +kernel

/-- A reply in its third character, with a BUSY behind it. -/
def sending : State := { campus with transmitter := ⟨some [0xC3, 3, 0xFF, 0, 1], some [0xC3], 250, none⟩ }

/-- The character stays alone at its place, LTXD as it was; a millisecond at 9600 bit/s is 9.6 bits, and ends it. -/
theorem test_linkReset : (after .linkReset sending).transmitter = ⟨none, none, 50, some 0xFF⟩ ∧
    (after .linkReset sending).transmitter.ltxd = sending.transmitter.ltxd ∧
    Transmitter.tick .bps9600 ⟨none, none, 3, some 0xFF⟩ = ⟨none, none, 99, some 0xFF⟩ ∧
    Transmitter.tick .bps9600 ⟨none, none, 50, some 0xFF⟩ = Transmitter.cold := by decide +kernel

/-! ### Corners of the rules -/

/-- The second that a setting has restarted does not count, the next one does, and so does one a millisecond later. -/
theorem test_restartedSecond :
    ((afterAll [.clockSet 20 1 1 59, .secondEvent] campus).clock.seconds,
      (afterAll [.clockSet 20 1 1 59, .secondEvent, .secondEvent] campus).clock.seconds,
      (match step (after (.clockSet 20 1 1 59) campus) with
        | .next t => (after .secondEvent t).clock.seconds
        | _ => 0)) = (59, 60, 60) := by decide +kernel

/-- A level held for 49 ms is not taken, one held for 50 ms is. -/
theorem test_debounce : [49, 50].map (fun n => ((after (.levelAccepted 7) (campus.updInput 7 (fun x =>
    { x with candidate := some ⟨.high, n⟩ }))).input 7).level) = [none, some .high] := by decide +kernel

/-- Doors 3 and 4 in granted RELEASE drives whose trunk is about to fall; the drive of door 3 was meant to LOCK. -/
def reversedFirst : State :=
  { campus with fire := .normal }.updDoor 3 (fun x => { x with state := .acting, intent := .release })
    |>.updDoor 4 (fun x => { x with state := .acting, intent := .release })
    |>.updTrunk .A (fun x => { x with
      mode := .down, freeUnits := 10
      inFlight := [⟨3, .lock, .routine, 1, .granted⟩, ⟨4, .release, .routine, 1, .granted⟩] })

/-- The entry that R32 places afresh stands behind the one that returns to the head of its class. -/
theorem test_returnOrder : ((State.returnGranted (reversedFirst.trunk .A).grantedDoors [] reversedFirst).trunk .A).queue =
    [⟨4, .release, .routine⟩, ⟨3, .release, .routine⟩] := by decide +kernel

/-- A DEFER hold on an AJAR door whose bolt is thrown: no intent, no reminder, still AJAR. -/
theorem test_deferAjar : (((after (.holdAdd 1 1 3 0) (heard 1 0 0)).door 3).state,
    ((after (.holdAdd 1 1 3 0) (heard 1 0 0)).door 3).intent, ((after (.holdAdd 1 1 3 0) (heard 1 0 0)).door 3).reminder,
    ((heard 1 0 0).door 3).reminder) = (.ajar, .none, none, some ⟨15, false⟩) := by decide +kernel

/-! ### States that meet the hypotheses of the statements -/

theorem noSlots (s : State) (h : ∀ k, s.slot k = none) : s.SweepLaw ∧ ∀ k, ∀ w ∈ s.slot k, w.warningEnds = false := by
  refine ⟨⟨fun j k v hv => ?_, fun k w hw => ?_⟩, fun k w hw => ?_⟩
  · rw [h j] at hv; cases hv
  · rw [h k] at hw; cases hw
  · rw [h k] at hw; cases hw

theorem noLinks (s : State) (h : ∀ k, s.slot k = none) (hd : ∀ d, (s.door d).sweep = none) : s.CountLaw := by
  refine ⟨fun d l hl => ?_, fun k w hw => ?_⟩
  · rw [hd d] at hl; cases hl
  · rw [h k] at hw; cases hw

/-- None of a door's counts has its end to be taken. -/
def atRest (_ : DoorNo) (x : Door) : Bool := !(isEnding x.allowance || isEnding x.passage || isEnding x.reminder)

/-- A state without sweeps and holds none of whose doors has an end to take. -/
theorem noEnds_of (s : State) (hs : ∀ k, s.slot k = none) (hh : s.holds = [])
    (hd : s.doorList.all (fun e => atRest e.1 e.2) = true) : s.NoEnds := by
  refine ⟨fun d => ?_, (noSlots s hs).2, fun h m => ?_⟩
  · simpa [atRest, and_assoc] using ofDoorList s atRest hd d
  · rw [hh] at m; cases m

theorem sweeping_workLaw : sweeping.WorkLaw := workLaw_of _ (by decide +kernel)

theorem sweeping_sweepLaw : sweeping.SweepLaw := by unfold State.SweepLaw; decide +kernel

theorem sweeping_countLaw : sweeping.CountLaw := countLaw_of _ (by decide +kernel) (by decide +kernel)

theorem silence_is_not_good (rep : Report) : judge noReply ≠ .good rep := by simp [judge, noReply]

theorem witness_noticeMask : ∃ (s : State) (k : NoticeKind), s.noticeSet.mask.getLsbD (k.number - 1) = true :=
  ⟨after (.noticeMask 0x8000) campus, .restarted, by decide +kernel⟩

theorem witness_raise : ∃ (n : NoticeSet) (k : NoticeKind), n.mask.getLsbD (k.number - 1) = false :=
  ⟨NoticeSet.cold, .fireOn, by decide⟩

/-- The last zone and slot, and the first numbers beyond them. -/
theorem witness_reads : (31 : Byte) = byte (31 : ZoneNo).val ∧ 32 ≤ (32 : Byte).toNat ∧ (7 : Byte) = byte (7 : SlotNo).val ∧
    8 ≤ (8 : Byte).toNat := by decide

theorem witness_restartedSecond : (after (.clockSet 20 1 1 0) campus).clock.restarted = true := by decide +kernel

/-- The last second before an ordinary minute with a valid clock. -/
def beforeMinute : State := afterAll [.clockSet 20 1 1 86339, .secondEvent] released

theorem witness_secondEvent : beforeMinute.NoEnds ∧ beforeMinute.clock.restarted = false ∧
    beforeMinute.clock.seconds < 86399 ∧ (beforeMinute.clock.seconds + 1) % 60 = 0 ∧ beforeMinute.clock.valid = true ∧
    ∀ z dir, ¬ beforeMinute.planNames z beforeMinute.clock.dayType ((beforeMinute.clock.seconds + 1) / 60) dir := by
  refine ⟨noEnds_of _ (by decide +kernel) (by decide +kernel) (by decide +kernel), by decide +kernel, by decide +kernel,
    by decide +kernel, by decide +kernel, fun z dir => ?_⟩
  have h : ∀ z, ((beforeMinute.zone z).live.get beforeMinute.clock.dayType) = ⟨none, none⟩ := by decide +kernel
  cases dir <;> simp [State.planNames, h]

/-- One second before a minute at which zone 2's plan names a lockup (`dusk`) or a release (`dawn`). -/
def nearly (lockup release : Word16) : State :=
  afterAll [.planStage 2 2 lockup release, .planLoad 2, .clockSet 0 1 1 59, .secondEvent] warned

def dusk : State := nearly 1 0xFFFF

def dawn : State := nearly 0xFFFF 1

theorem namedAlone_of (s : State) (day : DayType) (m : Nat)
    (h : ∀ y, y ≠ (2 : ZoneNo) → (s.zone y).live.get day = ⟨none, none⟩) : s.namedAlone 2 day m := by
  intro y hy
  simp [State.planNames, h y hy]

theorem witness_schedule : ∀ e ∈ [(dusk, Direction.lock), (dawn, .release)],
    e.1.NoEnds ∧ e.1.planNames 2 e.1.clock.dayType ((e.1.clock.seconds + 1) / 60) e.2 ∧
    e.1.namedAlone 2 e.1.clock.dayType ((e.1.clock.seconds + 1) / 60) ∧ e.1.SweepLaw ∧
    (e.1.clock.restarted = false ∧ e.1.clock.seconds < 86399 ∧ e.1.clock.valid = true ∧
      (e.1.clock.seconds + 1) % 60 = 0 ∧
      ((e.1.zone 2).live.get e.1.clock.dayType).lockup ≠ ((e.1.zone 2).live.get e.1.clock.dayType).release ∧
      ¬ e.1.Barred 2 ∧ { e.1 with fire := .cleared }.Barred 2 ∧ ¬ e.1.HasSweep 2 ∧ (e.1.zone 2).lead ≠ 0 ∧
      e.1.slot 0 = none ∧ (∀ j, j < (0 : SlotNo) → e.1.slot j ≠ none) ∧ ¬ (crowded e.1).HasSweep 2 ∧
      ∀ k, (crowded e.1).slot k ≠ none) := by
  intro e he
  have : e = (dusk, .lock) ∨ e = (dawn, .release) := by simpa using he
  rcases this with rfl | rfl
  all_goals exact ⟨noEnds_of _ (by decide +kernel) (by decide +kernel) (by decide +kernel),
    by unfold State.planNames; decide +kernel, namedAlone_of _ _ _ (by decide +kernel),
    (noSlots _ (by decide +kernel)).1, by decide +kernel⟩

/-- The last second of a day: of the last date, and of one before a day that starts with zone 2's lockup. -/
def midnight (y m d : Byte) : State :=
  afterAll [.planStage 2 0 0 0xFFFF, .planStage 2 2 0 0xFFFF, .planLoad 2, .clockSet y m d 86399, .secondEvent] warned

theorem witness_rollover : ∀ s ∈ [midnight 99 12 31, midnight 23 12 31], s.NoEnds ∧ s.clock.restarted = false ∧
    s.clock.seconds = 86399 ∧ s.clock.date.isCalendar = true ∧ (s.zone (s.zone 2).leader).rule ≠ .afterSweep ∧
    ((after .secondEvent s).clock.valid = true →
      ((s.zone 2).live.get (after .secondEvent s).clock.dayType).lockup = some 0 ∧ (s.zone 2).loadPending = false ∧
      (∀ y, y ≠ (2 : ZoneNo) → (s.zone y).live.get (after .secondEvent s).clock.dayType = ⟨none, none⟩) ∧
      ¬ s.Barred 2 ∧ ¬ s.HasSweep 2 ∧ (s.zone 2).lead ≠ 0 ∧ s.slot 0 = none ∧
      ∀ j, j < (0 : SlotNo) → s.slot j ≠ none) := by
  intro s hs
  have : s = midnight 99 12 31 ∨ s = midnight 23 12 31 := by simpa using hs
  rcases this with rfl | rfl
  all_goals exact ⟨noEnds_of _ (by decide +kernel) (by decide +kernel) (by decide +kernel), by decide +kernel⟩

/-- The second of the two days is valid after its rollover, the first is not. -/
theorem witness_rollover_valid : ((after .secondEvent (midnight 99 12 31)).clock.valid,
    (after .secondEvent (midnight 23 12 31)).clock.valid) = (false, true) := by decide +kernel

theorem witness_untakenEnds : spent.clock.restarted = false ∧ spent.HoldLaw ∧
    spent.untakenEnds = [.holdCountdownEnd 1, .holdCountdownEnd 2] :=
  ⟨by decide +kernel, by unfold State.HoldLaw; decide +kernel, by decide +kernel⟩

/-- Zone states with no door, with an unknown door, and with a sweep. -/
theorem witness_zoneState : released.ZoneLaw ∧ released.SweepLaw ∧
    (¬ released.Barred 2 ∧ ¬ released.HasSweep 2 ∧ (released.zone 2).state = .unknown ∧ (released.zone 5).state = .opened ∧
      (after (.sweep 4 1) warned).HasSweep 2 ∧ { released with fire := .cleared }.Barred 2) :=
  ⟨by unfold State.ZoneLaw; decide +kernel, (noSlots _ (by decide +kernel)).1, by decide +kernel⟩

/-- Door 3 WAITING with a LOCK entry on a resting trunk, and no sweep. -/
def waitingDoor : State := after (.doorAct 3 1) (released.updTrunk .A (fun x => { x with restRemaining := some 9 }))

theorem waitingDoor_workLaw : waitingDoor.WorkLaw := workLaw_of _ (by decide +kernel)

/-- A head entry on a RUNNING trunk that does not rest, with units for the costs that are set. -/
theorem witness_settings : (∀ d, (waitingDoor.door d).state ≠ .acting) ∧
    (let x := (waitingDoor.updTrunk .A (fun x => { x with restRemaining := none })).trunk .A
     x.queue = [⟨3, .lock, .routine⟩] ∧ x.mode = .running ∧ x.restRemaining = none ∧ x.inFlight = [] ∧
      1 ≤ x.freeUnits ∧ x.silenceLimit = 3) := by decide +kernel

theorem campus_offLaw : campus.OffLaw := allTrunksOf (by decide +kernel) (by decide +kernel) (by decide +kernel)
  (by decide +kernel)

theorem witness_doorSet_doorClear : ∃ s : State, s.OffLaw ∧ (∀ u, (s.trunk u).mode = .off → (s.trunk u).queue = []) ∧
    (s.trunk .A).mode = .running ∧ (s.trunk .D).mode = .off :=
  ⟨campus, campus_offLaw, allTrunksOf (by decide +kernel) (by decide +kernel) (by decide +kernel) (by decide +kernel),
    by decide +kernel⟩

/-- A RELEASED door without work, on a trunk that can grant, one that rests, one that is DOWN. -/
theorem witness_placement : ∃ s : State, (s.door 3).configured = true ∧ (s.door 3).sweep = none ∧
    (s.door 3).state ≠ .waiting ∧ (s.door 3).state ≠ .acting ∧ actTable .lock (s.door 3) = .placed ∧
    s.held 3 = false ∧ (s.door 3).fire = false ∧ (s.trunk .A).mode = .running ∧ (s.trunk .A).queue = [] ∧
    (s.trunk .A).restRemaining = none ∧ min (s.lockClass 0).lockCost (s.trunk .A).budget ≤ (s.trunk .A).freeUnits :=
  ⟨released, by decide +kernel⟩

/-- A door that waits, one that is driven, and one that a LOCK sweep counts ajar. -/
theorem witness_replacement : (waitingDoor.entry 3 = some ⟨3, .lock, .routine⟩ ∧ (waitingDoor.door 3).state = .waiting ∧
    waitingDoor.held 3 = false) ∧ ((driven.door 3).state = .acting ∧ driven.recordsOf .A 3 = 1) ∧
    (let s := sweeping.updDoor 3 (fun x => { x with state := .ajar, sweep := some ⟨0, .ajar⟩ })
     (s.door 3).state = .ajar ∧ (s.slot 0).map Sweep.direction = some .lock) := by decide +kernel

theorem witness_sweepOfOneZone : (after (.sweep 4 1) warned).SweepLaw ∧ (crowded released).SweepLaw ∧ warned.SweepLaw ∧
    ((after (.sweep 4 1) warned).HasSweep 2 ∧ ¬ (crowded released).HasSweep 2 ∧
      (∀ k, (crowded released).slot k ≠ none) ∧ ¬ warned.HasSweep 2 ∧ ¬ warned.Barred 2 ∧ warned.slot 0 = none ∧
      (warned.zone 2).lead = 15) :=
  ⟨by unfold State.SweepLaw; decide +kernel, by unfold State.SweepLaw; decide +kernel,
    (noSlots _ (by decide +kernel)).1, by decide +kernel⟩

/-- A RELEASE sweep of zone 2 under a lead of 15: reversing it leads to a warning. -/
def releasing : State :=
  afterAll [.zoneSet 2 0 15 7 5 60 2 0, .sweep 4 2] (heard 0 0 0)

theorem witness_reversal : releasing.SweepLaw ∧ sweeping.SweepLaw ∧
    (releasing.slot 0 = some ⟨2, .release, .link, .active, 2, ⟨0, 1, 0, 0, 0, 1⟩⟩ ∧ ¬ releasing.Barred 2 ∧
      (releasing.zone 2).lead ≠ 0 ∧ (∀ y, (releasing.zone y).marker = none) ∧
      (∀ j, j < (0 : SlotNo) → releasing.slot j ≠ none) ∧ (sweeping.slot 0).map Sweep.direction = some .lock ∧
      ((sweeping.slot 0).map Sweep.phase = some .active)) :=
  ⟨by unfold State.SweepLaw; decide +kernel, sweeping_sweepLaw, by decide +kernel⟩

/-- Door 3 would be pending in a LOCK and done in a RELEASE; door 4, not heard, unreachable in both. -/
theorem witness_sweepWalk : ¬ released.Barred 2 ∧ (released.zone 2).lead = 0 ∧ ¬ released.HasSweep 2 ∧
    released.slot 0 = none ∧ released.tableCount .lock 3 = .pending ∧ released.tableCount .lock 4 = .unreachable ∧
    released.tableCount .release 3 = .done ∧ (released.walkCounts 2 .lock).pending = 1 ∧
    (released.walkCounts 2 .release).pending = 0 := by decide +kernel

/-- Every trunk meets the law of the supply. -/
def supplied (s : State) : Bool :=
  allTrunks.all (fun t => decide ((s.trunk t).supply = (s.trunk t).budget ∧
    (s.trunk t).queue = urgentPart (s.trunk t).queue ++ routinePart (s.trunk t).queue ∧
    ((s.trunk t).queue = [] → (s.trunk t).runCount = 0)))

theorem supplyLaw_of (s : State) (h : supplied s = true) : s.SupplyLaw := by
  intro t
  have := List.all_eq_true.mp h t (by cases t <;> decide)
  simp only [decide_eq_true_eq] at this
  exact this

/-- Door 3 as it is, but a fire door while the alarm is cleared. -/
def fiery (s : State) : State := { s.updDoor 3 (fun x => { x with fire := true }) with fire := .cleared }

/-- A door without work, one that waits toward LOCK and one that is driven toward LOCK, each pending in a walk; the last
two also as fire doors whose placement is URGENT. -/
theorem witness_walkedDoor : ∀ e ∈ [(released, Direction.lock), (waitingDoor, .lock), (waitingDoor, .release),
      (driven, .lock), (driven, .release), (fiery waitingDoor, .release), (fiery driven, .release)],
    e.1.WorkLaw ∧ e.1.SupplyLaw ∧ (e.1.IsDoorOf 2 3 ∧ e.1.tableCount e.2 3 = .pending ∧ e.1.slot 0 = none ∧
      (e.1.zone 2).lead = 0 ∧ (e.2 = .lock → ¬ e.1.Barred 2) ∧ (e.1.walkCounts 2 e.2).pending ≠ 0) := by
  intro e he
  have : e = (released, .lock) ∨ e = (waitingDoor, .lock) ∨ e = (waitingDoor, .release) ∨ e = (driven, .lock) ∨
      e = (driven, .release) ∨ e = (fiery waitingDoor, .release) ∨ e = (fiery driven, .release) := by simpa using he
  rcases this with rfl | rfl | rfl | rfl | rfl | rfl | rfl
  all_goals exact ⟨workLaw_of _ (by decide +kernel), supplyLaw_of _ (by decide +kernel), by decide +kernel⟩

/-- The order of the walk of zone 2, by rank and number: door 4 (rank 1) before door 3 (rank 9). -/
theorem witness_walkOrder : (∀ d, d ∈ [(4 : DoorNo), 3] ↔ released.IsDoorOf 2 d) ∧
    (released.door 4).rank < (released.door 3).rank := by decide +kernel

/-- The trunk after the walk is the one that the placements and the arbiter give (R65, R89). -/
theorem test_walkTrunk : ∀ e ∈ [(released, Direction.lock), (waitingDoor, .lock), (waitingDoor, .release),
      (driven, .lock), (driven, .release), (fiery waitingDoor, .release), (fiery driven, .release)],
    (after (.sweep 4 (directionByte e.2)) e.1).trunk .A =
      (State.consider .A (e.1.setTrunk .A (e.1.walkTrunk 2 e.2 [4, 3] .A))).trunk .A := by decide +kernel

/-- A WAITING entry turns in its place; under fire it is raised, and the URGENT entry passes the rest (R31, R90). -/
theorem test_walkTurns : (after (.sweep 4 2) waitingDoor).entry 3 = some ⟨3, .release, .routine⟩ ∧
    (after (.sweep 4 2) (fiery waitingDoor)).record 3 = some ⟨3, .release, .urgent, 1, .granted⟩ ∧
    (after (.sweep 4 2) driven).record 3 = some ⟨3, .lock, .routine, 1, .granted⟩ := by decide +kernel

theorem witness_stateChange : ∃ (s : State) (l : SweepLink) (w : Sweep), (s.door 3).sweep = some l ∧
    s.slot l.slot = some w ∧ (s.door 3).state ≠ .secured ∧ l.count = .pending ∧ w.direction = .lock :=
  ⟨sweeping, ⟨0, .pending⟩, ⟨2, .lock, .link, .active, 2, ⟨0, 1, 0, 0, 0, 1⟩⟩, by decide +kernel⟩

/-- The drive of the sweep in DRIVING, with a poll of its door on the line. -/
def nearlyDone : State :=
  polling 3 (afterAll [.sendFrame .A 20, .frameOutcome .A (statusReply 0 2 8)] sweeping)

theorem witness_sweepFinishes : nearlyDone.WorkLaw ∧ nearlyDone.CountLaw ∧ nearlyDone.SweepLaw ∧
    ((∀ z, (nearlyDone.zone z).marker = none) ∧ (nearlyDone.trunk .A).line = .frame (frameFor .poll 3 5) false ∧
      judge (statusReply 0 0 0) = .good ⟨.closed, .thrown, false, false, false⟩ ∧
      (nearlyDone.door 3).configured = true ∧ (nearlyDone.door 3).health = .heard ∧
      (nearlyDone.trunk .A).mode = .running ∧ (nearlyDone.door 3).state = .acting ∧
      nearlyDone.record 3 = some ⟨3, .lock, .routine, 1, .driving 4000⟩ ∧ (nearlyDone.door 3).intent = .lock ∧
      (nearlyDone.door 3).sweep = some ⟨0, .pending⟩ ∧
      nearlyDone.slot 0 = some ⟨2, .lock, .link, .active, 2, ⟨0, 1, 0, 0, 0, 1⟩⟩) :=
  ⟨workLaw_of _ (by decide +kernel), countLaw_of _ (by decide +kernel) (by decide +kernel),
    by unfold State.SweepLaw; decide +kernel, by decide +kernel⟩

/-- Zone 2 leads itself and zone 5 under a load rule, and zone 5 has a plan to be loaded. -/
def led (rule : Byte) (s : State) : State :=
  afterAll [.zoneSet 2 0 0 7 5 60 2 rule, .zoneSet 5 0 0 0 5 0 2 0, .planStage 5 0 60 120] s

/-- The finish and the cancel of a sweep, the cancel of a warning and one by fire load the group of a leader under
AFTER_SWEEP, and not under ROLLOVER; the sweep of a follower loads nothing (R43, R74, R79). -/
theorem test_afterSweep :
    let term := fun s : State => ((s.zone 5).live.term, (s.zone 5).loadPending)
    let loaded := (⟨some 60, some 120⟩, false)
    let kept := (⟨none, none⟩, true)
    (led 2 nearlyDone |> after (.frameOutcome .A (statusReply 0 0 0)) |> term) = loaded ∧
    (led 1 nearlyDone |> after (.frameOutcome .A (statusReply 0 0 0)) |> term) = kept ∧
    (led 2 nearlyDone |> after (.frameOutcome .A (statusReply 0 2 0)) |> term) = kept ∧
    (led 2 sweeping |> after (.cancel 4) |> term) = loaded ∧ (led 1 sweeping |> after (.cancel 4) |> term) = kept ∧
    (led 2 (after (.sweep 4 1) warned) |> after (.cancel 4) |> term) = loaded ∧
    (led 2 released |> after (.sweep 4 2) |> term) = loaded ∧
    (led 2 released |> after (.sweep 32 2) |> term) = kept := by decide +kernel

/-- Members with load pending, of a leader under AFTER_SWEEP whose sweep is near its finish, and no marker. -/
theorem witness_afterSweep : (led 2 nearlyDone).WorkLaw ∧ (led 2 nearlyDone).CountLaw ∧ (led 2 nearlyDone).SweepLaw ∧
    (((led 2 nearlyDone).zone 5).leader = 2 ∧ ((led 2 nearlyDone).zone 2).leader = 2 ∧
      ((led 2 nearlyDone).zone 2).rule = .afterSweep ∧ ((led 2 nearlyDone).zone 5).loadPending = true ∧
      (∀ z, ((led 2 nearlyDone).zone z).marker = none) ∧
      ((led 2 nearlyDone).slot 0).map (fun w => w.counts.pending) = some 1 ∧
      ((led 2 released).walkCounts 2 .release).pending = 0 ∧ (led 2 sweeping).HasSweep 2) :=
  ⟨workLaw_of _ (by decide +kernel), countLaw_of _ (by decide +kernel) (by decide +kernel),
    by unfold State.SweepLaw; decide +kernel, by decide +kernel⟩

/-- Zones 2 and 9 have rank 4 and zone 7 rank 3, each with a lead; one slot is free. -/
def oneSlot : State :=
  { crowded (afterAll [.zoneSet 2 4 15 7 5 60 2 0, .zoneSet 9 4 1 0 5 0 9 0, .zoneSet 7 3 1 0 5 0 7 0] released) with
    slots := (crowded released).slots.set 5 none }

/-- The zones of a set are taken by rank, and at one rank by number. -/
theorem witness_sweepOfSeveral : oneSlot.zoneBefore 7 2 ∧ oneSlot.zoneBefore 2 9 ∧ oneSlot.slot 5 = none ∧
    (∀ z ∈ [(2 : ZoneNo), 7, 9], (oneSlot.zone z).lead ≠ 0 ∧ ¬ oneSlot.Barred z ∧ ¬ oneSlot.HasSweep z) ∧
    (oneZone 2 ||| oneZone 9) &&& ~~~oneZone 2 ≠ 0 := by decide +kernel

/-- Of zones 2, 7 and 9 zone 7 takes the slot, of 2 and 9 zone 2; the others wait (R56, R57). -/
theorem test_sweepOfSeveral :
    ((after (.sweep 0x284 1) oneSlot).slot 5).map Sweep.zone = some 7 ∧
    answerOf (.sweep 0x284 1) oneSlot = some ⟨.ok, [0, 0, 0, 0x80, 0, 0, 0, 0, 0, 0, 2, 4, 0, 0, 0, 0]⟩ ∧
    answerOf (.sweep 0x204 1) oneSlot = some ⟨.ok, [0, 0, 0, 4, 0, 0, 0, 0, 0, 0, 2, 0, 0, 0, 0, 0]⟩ ∧
    after (.sweep 0x284 1) oneSlot = { afterAll [.sweep 0x80 1, .sweep 0x204 1] oneSlot with
      blockResult := answerOf (.sweep 0x284 1) oneSlot } := by decide +kernel

/-- Zone 2 waits with a LOCK marker, as the first of two; under a fire state it is barred. -/
def queued : State :=
  (warned.updZone 2 (fun x => { x with marker := some ⟨.lock, .link⟩ })).updZone 5 (fun x =>
    { x with marker := some ⟨.release, .link⟩ })

theorem witness_offer : queued.slot 0 = none ∧ (queued.zone 2).marker = some ⟨.lock, .link⟩ ∧
    (∀ y, (queued.zone y).marker ≠ none →
      (queued.zone 2).rank < (queued.zone y).rank ∨ ((queued.zone 2).rank = (queued.zone y).rank ∧ (2 : ZoneNo) ≤ y)) ∧
    ¬ queued.HasSweep 2 ∧ ¬ queued.Barred 2 ∧ { queued with fire := .active }.Barred 2 ∧
    ∀ z, (warned.zone z).marker = none := by decide +kernel

/-- A sweep to cancel, and a warning to cancel. -/
theorem witness_cancel : sweeping.SweepLaw ∧ sweeping.CountLaw ∧ sweeping.WorkLaw ∧
    ((∀ y, (sweeping.zone y).marker = none) ∧ (sweeping.door 3).sweep = some ⟨0, .pending⟩ ∧
      ((after (.sweep 4 1) warned).slot 0).map Sweep.phase = some (.warning ⟨15, false⟩) ∧
      (sweeping.updSlot 0 id).HasSweep 2 ∧ ¬ warned.HasSweep 2) :=
  ⟨sweeping_sweepLaw, sweeping_countLaw, sweeping_workLaw, by decide +kernel⟩

/-- A warning whose last minute is over. -/
def lastMinute : State :=
  (after (.sweep 4 1) warned).updSlot 0 (fun w => { w with phase := .warning ⟨1, true⟩ })

theorem witness_warningEnd : lastMinute.SweepLaw ∧
    (lastMinute.slot 0 = some ⟨2, .lock, .link, .warning ⟨1, true⟩, 0, Counts.zero⟩ ∧ ¬ lastMinute.Barred 2 ∧
      { lastMinute with fire := .active }.Barred 2 ∧ ∀ y, (lastMinute.zone y).marker = none) :=
  ⟨by unfold State.SweepLaw; decide +kernel, by decide +kernel⟩

theorem witness_holdAdd : waitingDoor.WorkLaw ∧ ((∀ k, waitingDoor.slot k = none) ∧
    (waitingDoor.door 3).state = .waiting ∧
    (waitingDoor.entry 3).any (fun e => decide (e.direction = .lock)) = true ∧
    Hold.covers ⟨1, .defer, .zones 4, .link, none⟩ 3 (waitingDoor.door 3) = true) :=
  ⟨waitingDoor_workLaw, by decide +kernel⟩

/-- A hold that is to begin on a linked door of a LOCK sweep, the only pending one. -/
theorem witness_holdBegins : sweeping.WorkLaw ∧ sweeping.SweepLaw ∧ sweeping.CountLaw ∧
    (sweeping.holds.length < 16 ∧ (∀ z, (sweeping.zone z).marker = none) ∧ (sweeping.door 3).configured = true ∧
      (sweeping.door 3).sweep = some ⟨0, .pending⟩ ∧ (sweeping.door 4).sweep = some ⟨0, .unreachable⟩ ∧
      (1439 : Word16).toNat ≤ 1439) :=
  ⟨sweeping_workLaw, sweeping_sweepLaw, sweeping_countLaw, by decide +kernel⟩

/-- Two timed holds at their ends, their ids single; the second waits for the first. -/
theorem witness_holdEnd : spent.HoldLaw ∧ ((spent.holds.map Hold.id).Nodup ∧ spent.holds.map Hold.id = [1, 2] ∧
    ((spent.holds.filter (fun g => isEnding g.remaining)).head?).map Hold.id = some 1 ∧
    spent.holds.any (fun h => isEnding h.remaining && decide (h.id = (2 : Byte).toNat)) = true) :=
  ⟨by unfold State.HoldLaw; decide +kernel, by decide +kernel⟩

/-- The laws that the statement about the end of a hold assumes. -/
def FreedLaws (s : State) : Prop := s.HoldLaw ∧ s.WorkLaw ∧ s.ZoneLaw ∧ s.SweepLaw ∧ s.CountLaw

theorem freedLaws_of (s : State) (hw : s.doorList.all (fun e => workOf s e.1 e.2 && linkOf s e.1 e.2) = true)
    (hk : (List.finRange 8).all (countsOf s) = true) (hh : s.HoldLaw) (hz : s.ZoneLaw) (hs : s.SweepLaw) : FreedLaws s := by
  have : (∀ e ∈ s.doorList, workOf s e.1 e.2 = true) ∧ ∀ e ∈ s.doorList, linkOf s e.1 e.2 = true := by
    simpa only [List.all_eq_true, Bool.and_eq_true, ← forall₂_and] using hw
  exact ⟨hh, workLaw_of s (List.all_eq_true.mpr this.1), hz, hs, countLaw_of s (List.all_eq_true.mpr this.2) hk⟩

/-- Door 4 counted held by a sweep that goes on with door 3. -/
def heldInSweep : State := after (.holdAdd 1 1 4 0) sweeping

/-- Zone 2 PARTLY after a LOCK, its one door AJAR under a DEFER hold. -/
def trailing : State :=
  (afterAll [.doorClear 4, .holdAdd 1 0 4 0, .sendFrame .A 0, .frameOutcome .A (statusReply 1 0 0)] campus).updZone 2
    (fun x => { x with last := some .lock })

theorem witness_holdFreed_sweep : FreedLaws heldInSweep ∧ (heldInSweep.holds = [⟨1, .defer, .door 4, .link, none⟩] ∧
    (∀ z, (heldInSweep.zone z).marker = none) ∧ (heldInSweep.door 4).sweep = some ⟨0, .held⟩ ∧
    heldInSweep.slot 0 = some ⟨2, .lock, .link, .active, 2, ⟨0, 1, 0, 0, 1, 0⟩⟩) :=
  ⟨freedLaws_of _ (by decide +kernel) (by decide +kernel) (by unfold State.HoldLaw; decide +kernel)
    (by unfold State.ZoneLaw; decide +kernel) (by unfold State.SweepLaw; decide +kernel), by decide +kernel⟩

theorem witness_holdFreed_zone : FreedLaws trailing ∧ (trailing.holds = [⟨1, .defer, .zones (oneZone 2), .link, none⟩] ∧
    (∀ z, (trailing.zone z).marker = none) ∧ (trailing.zone 2).state = .partly ∧ (trailing.zone 2).last = some .lock ∧
    ¬ trailing.HasSweep 2 ∧ (trailing.door 3).intent = .none ∧ (trailing.door 3).keepOpen = false ∧
    (trailing.door 3).sweep = none ∧ trailing.slot 0 = none ∧ ∀ k, (crowded trailing).slot k ≠ none) :=
  ⟨freedLaws_of _ (by decide +kernel) (by decide +kernel) (by unfold State.HoldLaw; decide +kernel)
    (by unfold State.ZoneLaw; decide +kernel) (by unfold State.SweepLaw; decide +kernel), by decide +kernel⟩

/-- OV7 with a function, its candidate at the active level LOW, inactive before. -/
def pressed (f : InputFunction) : State := campus.updInput 7 (fun x => { x with
  function := f, zones := 4, level := some .high, candidate := some ⟨.low, 50⟩ })

/-- OV7 active with function HOLD, its hold made and its candidate HIGH. -/
def letGo : State := (after (.levelAccepted 7) (pressed .hold)).updInput 7 (fun x => { x with candidate := some ⟨.high, 50⟩ })

theorem witness_levelAccepted_giving : (pressed .lock).SweepLaw ∧ (crowded (pressed .lock)).SweepLaw ∧
    (((pressed .lock).input 7).zones = oneZone 2 ∧ (pressed .lock).slot 0 = none ∧
      (∀ j, j < (0 : SlotNo) → (pressed .lock).slot j ≠ none) ∧ ¬ (pressed .lock).HasSweep 2 ∧
      ((pressed .lock).zone 2).lead = 0 ∧ ((warned.updInput 7 (fun _ => (pressed .lock).input 7)).zone 2).lead ≠ 0 ∧
      { pressed .lock with fire := .cleared }.Barred 2 ∧ (∀ k, (crowded (pressed .lock)).slot k ≠ none) ∧
      ¬ (crowded (pressed .lock)).HasSweep 2 ∧ (after (.sweep 4 1) warned).HasSweep 2) :=
  ⟨(noSlots _ (by decide +kernel)).1, by unfold State.SweepLaw; decide +kernel, by decide +kernel⟩

theorem witness_levelAccepted : ((pressed .hold).input 7).active = false ∧ (pressed .hold).holds.length < 16 ∧
    ¬ (pressed .lock).Barred 2 ∧ (letGo.input 7).owned = some 1 ∧ (letGo.holds.map Hold.id).Nodup ∧
    letGo.holds = [⟨1, .defer, .zones 4, .input 7, none⟩] ∧ (letGo.input 7).active = true := by decide +kernel

theorem witness_inputSet : inputFunctionOfByte 1 = some .hold ∧ holdKindByte .defer = 1 ∧
    (letGo.input 7).owned = some 1 ∧ (∃ h ∈ letGo.holds, h.id = 1 ∧ h.origin = .input 7) ∧
    ((pressed .none).input 7).owned = none ∧ (letGo.input 7).level = some .low ∧ letGo.holds.length < 16 ∧
    16 ≤ ({ pressed .none with holds := List.replicate 16 ⟨1, .defer, .door 3, .link, none⟩ }).holds.length := by
  decide +kernel

theorem witness_fireOnset : alarmed.SweepLaw ∧ alarmed.WorkLaw ∧ ((alarmed.input 0).function = .fire ∧
    (alarmed.input 0).candidate = some ⟨.low, 50⟩ ∧ (alarmed.input 0).activeLevel = .low ∧
    (alarmed.input 0).level ≠ some .low ∧ alarmed.fire ≠ .active) :=
  ⟨(noSlots _ (by decide +kernel)).1, workLaw_of _ (by decide +kernel), by decide +kernel⟩

theorem witness_fireCleared : ∃ s : State, (s.input 0).function = .fire ∧
    (s.input 0).candidate = some ⟨.high, 50⟩ ∧ (s.input 0).activeLevel = .low ∧ (s.input 0).level = some .low ∧
    s.fire = .active :=
  ⟨(after (.levelAccepted 0) alarmed).updInput 0 (fun x => { x with candidate := some ⟨.high, 50⟩ }), by decide +kernel⟩

/-- The alarm is cleared at a minute in the locked period of zone 2, which has a fire door and a warning lead of 15. -/
def due : State := { dusk with fire := .cleared, clock := { dusk.clock with seconds := 61 } }

/-- The same under an ACTIVE sweep of the zone without doors. -/
def dueUnder (dir : Direction) : State := { due with slots := due.slots.set 0 (some ⟨2, dir, .link, .active, 0, Counts.zero⟩) }

theorem witness_fireRestore : ∀ s ∈ [due, crowded due, dueUnder .lock, dueUnder .release],
    s.SweepLaw ∧ s.fire = .cleared ∧
    ((List.finRange 32).filter (fun z => decide (s.Barred z))).filter s.inLockedPeriod = [2] := by
  intro s hs
  have : s = due ∨ s = crowded due ∨ s = dueUnder .lock ∨ s = dueUnder .release := by simpa using hs
  rcases this with rfl | rfl | rfl | rfl
  all_goals exact ⟨by unfold State.SweepLaw; decide +kernel, by decide +kernel⟩

theorem witness_fireRestore_cases : (¬ due.HasSweep 2 ∧ due.slot 0 = none ∧ ∀ j, j < (0 : SlotNo) → due.slot j ≠ none) ∧
    (¬ (crowded due).HasSweep 2 ∧ ∀ k, (crowded due).slot k ≠ none) ∧ (due.zone 2).lead = 15 ∧
    (due.zone 2).marker = none ∧ ((due.door 0).zone ≠ 2 ∧ (due.zone (due.door 0).zone).marker = none) := by decide +kernel

theorem witness_fireRestore_counts : due.CountLaw ∧ (dueUnder .lock).CountLaw :=
  ⟨countLaw_of _ (by decide +kernel) (by decide +kernel), countLaw_of _ (by decide +kernel) (by decide +kernel)⟩

/-- The zone due is walked with origin RESTORE and no warning, in the place of its RELEASE sweep too, or waits. -/
theorem test_fireRestore_due : let t := after .fireRestore due
    (t.slot 0).map (fun w => (w.direction, w.origin, w.phase, w.total)) = some (.lock, .restore, .active, 2) ∧
    (t.door 3).intent = .lock ∧ answerOf .fireRestore due = some ⟨.ok, [0, 0, 0, 4, 0, 0, 0, 4]⟩ ∧
    ((after .fireRestore (dueUnder .release)).slot 0).map Sweep.origin = some .restore ∧
    ((after .fireRestore (crowded due)).zone 2).marker = some ⟨.lock, .restore⟩ := by decide +kernel

/-- The orders of the scheduler, each on a state that is ready for it: window, urgent poll, DRIVE, WARN, settle poll,
patrol poll, and none. -/
theorem witness_sendFrame :
    (afterAll [.doorAct 3 1] released).nextOrder .A = some (.drive 3 .lock) ∧
    (released.updTrunk .A (fun x => { x with urgentPoll := some 5 })).nextOrder .A = some (.urgent 3) ∧
    (after (.sweep 4 1) warned).nextOrder .A = some (.warn ⟨3, 7, 15⟩) ∧
    (driving.waitTrunk .A 200).nextOrder .A = some (.settle 3) ∧
    (released.waitTrunk .A 20).nextOrder .A = some (.patrol 4) ∧ (released.waitTrunk .A 19).nextOrder .A = none ∧
    released.nextOrder .D = none := by decide +kernel

/-- The line of trunk A carries a poll of door 3, which stands there. -/
def PollsDoor3 (s : State) : Prop :=
  (s.trunk .A).line = .frame (frameFor .poll 3 5) false ∧ (s.door 3).configured = true ∧ (s.door 3).trunk = .A ∧
    (s.door 3).address = 5

theorem witness_lineEnds : PollsDoor3 (polling 3 released) ∧
    (((polling 3 released).door 3).misses + 1 < ((polling 3 released).trunk .A).silenceLimit ∧
      ((polling 3 released).trunk .A).failures + 1 < 16) ∧ ∀ rep, judge noReply ≠ .good rep :=
  ⟨by unfold PollsDoor3; decide +kernel, by decide +kernel, silence_is_not_good⟩

/-- One miss below the limit, with door 3 at rest, and with door 3 at work in a sweep. -/
def lastMiss (s : State) : State := polling 3 (s.updDoor 3 (fun x => { x with misses := 2 }))

theorem witness_silence : ∀ s ∈ [lastMiss released, lastMiss sweeping], s.WorkLaw ∧ s.SweepLaw ∧ s.CountLaw ∧
    PollsDoor3 s ∧ (s.trunk .A).failures + 1 < 16 ∧ (s.door 3).misses + 1 = (s.trunk .A).silenceLimit := by
  intro s hs
  have : s = lastMiss released ∨ s = lastMiss sweeping := by simpa using hs
  rcases this with rfl | rfl
  all_goals exact ⟨workLaw_of _ (by decide +kernel), by unfold State.SweepLaw; decide +kernel,
    countLaw_of _ (by decide +kernel) (by decide +kernel), by unfold PollsDoor3; decide +kernel, by decide +kernel⟩

/-- Fifteen failures, a frame of a door that stands there or does not, and a GRANTED record. -/
def lastFailure (d : DoorNo) : State :=
  polling d ((after (.doorAct 3 1) released).updTrunk .A (fun x => { x with failures := 15 }))

theorem witness_trunkFalls : ∀ d ∈ [(3 : DoorNo), 9], (lastFailure d).WorkLaw ∧
    (((lastFailure d).trunk .A).line = .frame (frameFor .poll d 5) false ∧
      (((lastFailure d).door d).configured = true ↔ d = 3) ∧ ((lastFailure d).trunk .A).mode = .running ∧
      ((lastFailure d).trunk .A).failures = 15 ∧ (∀ k, (lastFailure d).slot k = none) ∧
      ((lastFailure d).door 3).misses + 1 ≠ ((lastFailure d).trunk .A).silenceLimit ∧
      ((lastFailure d).trunk .A).inFlight = [⟨3, .lock, .routine, 1, .granted⟩] ∧
      ((lastFailure d).door 3).intent = .lock ∧ (lastFailure d).placementBlocked 3 .lock = false) := by
  intro d hd
  have : d = 3 ∨ d = 9 := by simpa using hd
  rcases this with rfl | rfl
  all_goals exact ⟨workLaw_of _ (by decide +kernel), by decide +kernel⟩

/-- The queue of the falling trunk is in order. -/
theorem witness_trunkFalls_supply : (lastFailure 9).SupplyLaw :=
  allTrunksOf (by unfold TrunkState.QueueLaw; decide +kernel) (by unfold TrunkState.QueueLaw; decide +kernel)
    (by unfold TrunkState.QueueLaw; decide +kernel) (by unfold TrunkState.QueueLaw; decide +kernel)

/-- A poll of a door that is not there, on a RUNNING and on a DOWN trunk. -/
theorem witness_trunkReturns : judge (statusReply 0 0 0) = .good ⟨.closed, .thrown, false, false, false⟩ ∧
    ((polling 9 released).trunk .A).line = .frame (frameFor .poll 9 5) false ∧
    ((polling 9 released).trunk .A).mode = .running ∧ (released.door 9).configured = false ∧
    (((polling 9 released).updTrunk .A (fun x => { x with mode := .down })).trunk .A).mode = .down ∧
    ∀ k, released.slot k = none := by decide +kernel

/-- Replies of each judgement. -/
theorem witness_judgement : judge noReply = .noReply ∧ judge (statusReply 3 0 0) = .garbled ∧
    judge (statusReply 2 3 11) = .good ⟨.unknown, .unknown, true, true, true⟩ := by decide +kernel

/-- A poll of door 3 that no sweep links, on a RUNNING trunk. -/
def PollsFreeDoor3 (s : State) : Prop := PollsDoor3 s ∧ (s.trunk .A).mode = .running ∧ (s.door 3).sweep = none

/-- A SECURED exit door that opens after a request, and one that is closed in PASSAGE. -/
theorem witness_report : PollsFreeDoor3 (polling 3 (heard 0 0 0)) ∧
    (judge (statusReply 1 0 1) = .good ⟨.opened, .thrown, true, false, false⟩ ∧
      ((polling 3 (heard 0 0 0)).door 3).state = .secured ∧
      reportPlaces ((polling 3 (heard 0 0 0)).door 3) .opened .thrown false = none ∧
      reportPlaces { (heard 0 0 0).door 3 with state := .passage } .closed .thrown false = none) :=
  ⟨by unfold PollsFreeDoor3 PollsDoor3; decide +kernel, by decide +kernel⟩

/-- A door not yet heard, with an intent. -/
def wanted (way : Byte) : State := polling 3 (after (.doorAct 3 way) campus)

theorem witness_reportPlaces : ∀ s ∈ [wanted 1, wanted 2, polling 3 waitingDoor], PollsFreeDoor3 s := by
  intro s hs
  have : s = wanted 1 ∨ s = wanted 2 ∨ s = polling 3 waitingDoor := by simpa using hs
  rcases this with rfl | rfl | rfl
  all_goals unfold PollsFreeDoor3 PollsDoor3; decide +kernel

theorem witness_reportPlaces_cases : reportPlaces ((wanted 1).door 3) .closed .withdrawn false = some .lock ∧
    reportPlaces ((wanted 2).door 3) .closed .thrown false = some .release ∧
    (polling 3 waitingDoor).entry 3 = some ⟨3, .lock, .routine⟩ ∧ ((polling 3 waitingDoor).door 3).state = .waiting ∧
    judge (statusReply 1 0 0) = .good ⟨.opened, .thrown, false, false, false⟩ := by decide +kernel

/-- Door 3, left unreached by a finished sweep, is polled in a state and with an intent. -/
def leftBehind (st : DoorState) (i : Intent) : State :=
  polling 3 (released.updDoor 3 (fun x => { x with state := st, intent := i, unreached := true }))

/-- A RELEASED door that is to be locked, also one that was keyed meanwhile, and a SECURED one to be released. -/
theorem witness_reportPlaces_unreached : (∀ s ∈ [leftBehind .released .lock, leftBehind .secured .release],
      PollsFreeDoor3 s) ∧
    reportPlaces ((leftBehind .released .lock).door 3) .closed .withdrawn false = some .lock ∧
    reportPlaces ((leftBehind .released .lock).door 3) .closed .thrown false = none ∧
    reportPlaces ((leftBehind .released .release).door 3) .closed .thrown false = some .release ∧
    reportPlaces ((leftBehind .secured .release).door 3) .closed .thrown false = some .release := by
  refine ⟨fun s hs => ?_, by decide +kernel⟩
  have : s = leftBehind .released .lock ∨ s = leftBehind .secured .release := by simpa using hs
  rcases this with rfl | rfl
  all_goals unfold PollsFreeDoor3 PollsDoor3; decide +kernel

/-- A poll of door 4, counted unreachable by the sweep that drives door 3; its trunk RUNNING, and DOWN. -/
def reached : State := sweeping.updTrunk .A (fun x => { x with line := .frame (frameFor .poll 4 64) false })

theorem witness_reclassify : reached.WorkLaw ∧ reached.SweepLaw ∧ reached.CountLaw ∧
    ((reached.door 4).sweep = some ⟨0, .unreachable⟩ ∧
      reached.slot 0 = some ⟨2, .lock, .link, .active, 2, ⟨0, 1, 0, 0, 0, 1⟩⟩ ∧ (reached.door 4).configured = true ∧
      (reached.door 4).trunk = .A ∧ (reached.door 4).address = 64 ∧ (reached.trunk .A).mode = .running ∧
      (reached.door 4).state = .unknown ∧
      ((reached.updTrunk .A (fun x => { x with mode := .down })).trunk .A).mode = .down ∧
      (reached.door 3).health = .heard) :=
  ⟨workLaw_of _ (by decide +kernel), by unfold State.SweepLaw; decide +kernel,
    countLaw_of _ (by decide +kernel) (by decide +kernel), by decide +kernel⟩

theorem driven_workLaw : driven.WorkLaw := workLaw_of _ (by decide +kernel)

/-- A granted LOCK drive with its DRIVE on the line; the reply may be missing, on a RUNNING or a DOWN trunk. -/
theorem witness_driveFrame : driven.WorkLaw ∧ ((driven.trunk .A).line = .frame (frameFor (.drive .lock) 3 5) false ∧
    judge (statusReply 0 2 8) = .good ⟨.closed, .moving, false, false, true⟩ ∧ (driven.door 3).configured = true ∧
    (driven.door 3).health = .heard ∧ (driven.trunk .A).mode = .running ∧ (driven.door 3).sweep = none ∧
    (driven.door 3).state = .acting ∧ driven.record 3 = some ⟨3, .lock, .routine, 1, .granted⟩ ∧
    (driven.door 3).intent = .lock ∧ (driven.door 3).misses + 1 < (driven.trunk .A).silenceLimit ∧
    (driven.trunk .A).failures + 1 < 16) ∧ ∀ rep, judge noReply ≠ .good rep :=
  ⟨driven_workLaw, by decide +kernel, silence_is_not_good⟩

/-- A LOCK sweep of zone 2 with the two pending doors 3 and 5; the DRIVE frame of door 3 is on the line. -/
def sweptPair : State :=
  afterAll [.doorSet 5 0 6 2 10 0 0, .sendFrame .A 0, .frameOutcome .A (statusReply 0 1 0)] released
    |>.updDoor 5 (fun x => { x with health := .heard, state := .released, bolt := .withdrawn, position := .closed })
    |> afterAll [.sweep 4 1, .sendFrame .A 0]

/-- The same drive, accepted. -/
def sweptDriving : State := after (.frameOutcome .A (statusReply 0 2 8)) sweptPair

/-- A linked door whose sweep has another pending door, in GRANTED and in DRIVING. -/
theorem witness_linkedDrive : ∀ s ∈ [sweptPair, sweptDriving], s.WorkLaw ∧ s.CountLaw ∧ s.SweepGoesOn 3 ∧
    ((s.door 3).sweep = some ⟨0, .pending⟩ ∧ (s.slot 0).map (fun w => w.counts.pending) = some 2 ∧
      (s.door 3).state = .acting ∧ (s.door 3).configured = true ∧ (s.door 3).trunk = .A ∧
      (s.record 3).map Record.direction = some .lock ∧ (s.door 3).intent = .lock ∧ (s.door 3).health = .heard) := by
  intro s hs
  have : s = sweptPair ∨ s = sweptDriving := by simpa using hs
  rcases this with h | h
  all_goals rw [h]
  all_goals exact ⟨workLaw_of _ (by decide +kernel), countLaw_of _ (by decide +kernel) (by decide +kernel),
    .of_linked (l := ⟨0, .pending⟩) (w := ⟨2, .lock, .link, .active, 3, ⟨0, 2, 0, 0, 0, 1⟩⟩) (by decide +kernel)
      (by decide +kernel) (by decide), by decide +kernel⟩

/-- The linked drive fails, jams, is accepted and done, opens, and times out: its count follows, and the sweep goes on. -/
theorem test_linkedDrive :
    let counts := fun s : State => (((s.slot 0).map Sweep.counts, (s.door 3).sweep.map SweepLink.count), (s.door 3).state)
    counts (after (.frameOutcome .A (statusReply 0 1 0)) sweptPair) = ((some ⟨0, 2, 0, 0, 0, 1⟩, some .pending), .acting) ∧
    counts (after (.frameOutcome .A (statusReply 0 1 0)) (sweptPair.updDoor 3 (fun x => { x with attempts := 2 }))) =
      ((some ⟨0, 1, 0, 1, 0, 1⟩, some .jammed), .jammed) ∧
    counts (after (.frameOutcome .A (statusReply 0 0 8)) sweptPair) = ((some ⟨1, 1, 0, 0, 0, 1⟩, some .done), .secured) ∧
    counts (after (.frameOutcome .A (statusReply 1 1 8)) sweptPair) = ((some ⟨0, 1, 1, 0, 0, 1⟩, some .ajar), .ajar) ∧
    counts (after (.driveTimeout 3) sweptDriving) = ((some ⟨0, 2, 0, 0, 0, 1⟩, some .pending), .acting) ∧
    counts (after (.driveTimeout 3) (sweptDriving.updTrunk .A (fun x => { x with mode := .down }))) =
      ((some ⟨0, 2, 0, 0, 0, 1⟩, some .pending), .waiting) := by decide +kernel

/-- Door 3 of the pair in the sweep, polled: counted done, counted ajar, and WAITING again after a return. -/
def sweptDone : State := polling 3 (after (.frameOutcome .A (statusReply 0 0 8)) sweptPair)

def sweptAjar : State := polling 3 (after (.frameOutcome .A (statusReply 1 1 8)) sweptPair)

def sweptWaiting : State :=
  sweptDriving.updTrunk .A (fun x => { x with mode := .down })
    |> after (.driveTimeout 3)
    |>.updTrunk .A (fun x => { x with mode := .running })
    |> polling 3

/-- Linked doors whose sweep goes on, in each case of a report that moves them. -/
theorem witness_linkedReport : ∀ e ∈ [(sweptDone, DoorState.secured, Count.done, Counts.mk 1 1 0 0 0 1),
      (sweptAjar, .ajar, .ajar, ⟨0, 1, 1, 0, 0, 1⟩), (sweptWaiting, .waiting, .pending, ⟨0, 2, 0, 0, 0, 1⟩)],
    PollsDoor3 e.1 ∧ e.1.SweepGoesOn 3 ∧ ((e.1.trunk .A).mode = .running ∧ (e.1.door 3).state = e.2.1 ∧
      (e.1.door 3).sweep = some ⟨0, e.2.2.1⟩ ∧ e.1.slot 0 = some ⟨2, .lock, .link, .active, 3, e.2.2.2⟩) := by
  intro e he
  have : e = (sweptDone, .secured, .done, ⟨1, 1, 0, 0, 0, 1⟩) ∨ e = (sweptAjar, .ajar, .ajar, ⟨0, 1, 1, 0, 0, 1⟩) ∨
      e = (sweptWaiting, .waiting, .pending, ⟨0, 2, 0, 0, 0, 1⟩) := by simpa using he
  have h : (e.1.door 3).sweep = some ⟨0, e.2.2.1⟩ ∧ e.1.slot 0 = some ⟨2, .lock, .link, .active, 3, e.2.2.2⟩ ∧
      (if e.2.2.1 = .pending then 1 else 0) < e.2.2.2.pending := by
    rcases this with rfl | rfl | rfl <;> decide +kernel
  refine ⟨?_, .of_linked h.1 h.2.1 h.2.2, ?_⟩
  all_goals rcases this with rfl | rfl | rfl
  all_goals first | decide +kernel | (unfold PollsDoor3; decide +kernel)

theorem witness_linkedReport_cases : reportPlaces (sweptDone.door 3) .closed .withdrawn false = none ∧
    reportPlaces (sweptDone.door 3) .opened .thrown false = none ∧
    reportPlaces (sweptAjar.door 3) .closed .thrown false = some .lock ∧
    sweptWaiting.entry 3 = some ⟨3, .lock, .routine⟩ := by decide +kernel

/-- Keyed, forced or opened, a door counted done stays done; an AJAR one that closes goes from ajar to pending, and a
WAITING one that opens from pending to ajar (R16, R18, R19, R22, R26, R68). -/
theorem test_linkedReport :
    let reported := fun (pos bolt flags : Byte) (s : State) =>
      let t := after (.frameOutcome .A (statusReply pos bolt flags)) s
      ((t.slot 0).map Sweep.counts, (t.door 3).sweep.map SweepLink.count, (t.door 3).state)
    reported 0 1 0 sweptDone = (some ⟨1, 1, 0, 0, 0, 1⟩, some .done, .released) ∧
    reported 1 0 0 sweptDone = (some ⟨1, 1, 0, 0, 0, 1⟩, some .done, .forced) ∧
    reported 1 0 1 sweptDone = (some ⟨1, 1, 0, 0, 0, 1⟩, some .done, .passage) ∧
    reported 0 0 0 sweptAjar = (some ⟨0, 2, 0, 0, 0, 1⟩, some .pending, .acting) ∧
    reported 1 1 0 sweptWaiting = (some ⟨0, 1, 1, 0, 0, 1⟩, some .ajar, .ajar) ∧
    reported 0 0 0 sweptWaiting = (some ⟨0, 2, 0, 0, 0, 1⟩, some .pending, .waiting) := by decide +kernel

/-- Door 3 in GRANTED and in DRIVING, polled, on a RUNNING and on a DOWN trunk. -/
theorem witness_reportToDrive :
    (∀ s : State, s.WorkLaw → ∀ m, (polling 3 (s.updTrunk .A (fun x => { x with mode := m }))).WorkLaw) ∧
    driven.WorkLaw ∧ driving.WorkLaw ∧
    ∀ e ∈ [(driven, DrivePhase.granted), (driving, .driving 4000)], ∀ m ∈ [TrunkMode.running, .down],
      let s := polling 3 (e.1.updTrunk .A (fun x => { x with mode := m }))
      (s.trunk .A).line = .frame (frameFor .poll 3 5) false ∧ (s.trunk .A).mode = m ∧ (∀ k, s.slot k = none) ∧
      (s.door 3).configured = true ∧ (s.door 3).trunk = .A ∧ (s.door 3).address = 5 ∧ (s.door 3).health = .heard ∧
      (s.door 3).sweep = none ∧ (s.door 3).state = .acting ∧ s.record 3 = some ⟨3, .lock, .routine, 1, e.2⟩ ∧
      (s.door 3).intent = .lock :=
  ⟨fun _ h _ => h.updTrunk.updTrunk, driven_workLaw, workLaw_of _ (by decide +kernel), by decide +kernel⟩

/-- A poll of a DRIVING door shows success, an open door, or nothing yet; of a GRANTED one an open door alone ends the
drive; and on a DOWN trunk it brings the trunk back first (R91, R92, R113). -/
theorem test_reportToDrive :
    let reported := fun (pos bolt : Byte) (s : State) =>
      let t := after (.frameOutcome .A (statusReply pos bolt 0)) (polling 3 s)
      ((t.door 3).state, (t.door 3).bolt, (t.trunk .A).inFlight.length)
    reported 0 0 driving = (.secured, .thrown, 0) ∧ reported 1 0 driving = (.ajar, .thrown, 0) ∧
    reported 0 2 driving = (.acting, .moving, 1) ∧ reported 0 0 driven = (.acting, .thrown, 1) ∧
    reported 1 2 driven = (.ajar, .moving, 0) ∧
    reported 0 0 (driving.updTrunk .A (fun x => { x with mode := .down })) = (.secured, .thrown, 0) := by decide +kernel

/-- A KEEP_OPEN hold turns the linked LOCK drive, granted and accepted, around; the sweep goes on with door 5. -/
theorem witness_reversedLinkedDrive : ∀ s ∈ [after (.holdAdd 0 1 3 0) sweptPair, after (.holdAdd 0 1 3 0) sweptDriving],
    s.SweepGoesOn 3 ∧ ((s.door 3).state = .acting ∧ (s.door 3).intent = .release ∧
      (s.record 3).map Record.direction = some .lock) := by
  intro s hs
  have : s = after (.holdAdd 0 1 3 0) sweptPair ∨ s = after (.holdAdd 0 1 3 0) sweptDriving := by simpa using hs
  rcases this with h | h
  all_goals rw [h]
  all_goals exact ⟨.of_linked (l := ⟨0, .held⟩) (w := ⟨2, .lock, .link, .active, 3, ⟨0, 1, 0, 0, 1, 1⟩⟩) (by decide +kernel)
    (by decide +kernel) (by decide), by decide +kernel⟩

/-- Its failed attempt is not taken: re-stated RELEASED, as it is wanted, it stays counted held (R32, R68). -/
theorem test_reversedLinkedDrive :
    let t := after (.frameOutcome .A (statusReply 0 1 0)) (after (.holdAdd 0 1 3 0) sweptPair)
    ((t.door 3).state, (t.door 3).sweep, (t.slot 0).map Sweep.counts) =
      (.released, some ⟨0, .held⟩, some ⟨0, 1, 0, 0, 1, 1⟩) := by decide +kernel

/-- A LOCK drive, granted and accepted, whose door is now wanted released. -/
theorem witness_reversedDrive : ∀ s ∈ [after (.doorAct 3 2) driven, after (.doorAct 3 2) driving],
    (s.door 3).sweep = none ∧ (s.door 3).state = .acting ∧ (s.door 3).intent = .release ∧
    (s.record 3).map Record.direction = some .lock := by decide +kernel

theorem witness_driveTimeout : driving.WorkLaw ∧ (driving.record 3 = some ⟨3, .lock, .routine, 1, .driving 4000⟩ ∧
    (driving.door 3).trunk = .A ∧ (driving.door 3).sweep = none ∧ (driving.door 3).intent = .lock) :=
  ⟨workLaw_of _ (by decide +kernel), by decide +kernel⟩

theorem witness_restEnd : (waitingDoor.trunk .A).restRemaining = some 9 ∧
    (waitingDoor.trunk .A).queue = [⟨3, .lock, .routine⟩] ∧ (waitingDoor.trunk .A).mode = .running := by decide +kernel

/-- The receiver in HUNT, RECEIVING with and without a length, at its last character, in TAKEN, and in quiet wait. -/
theorem witness_link : campus.receiver.mode = .hunt ∧ campus.receiver.quietWait = false ∧
    (campus.hear 0xC3).receiver.expected = none ∧ ((campus.hear 0xC3).hear 2).receiver.expected = some 2 ∧
    ((campus.hear 0xC3).hear 250).receiver.expected = some 250 ∧ ((campus.hear 0xC3).hear 1).receiver.quietWait = true ∧
    ((campus.hear 0xC3).hear 251).receiver.quietWait = true := by decide +kernel

/-- The transmitter within a reply, and with a character that a link reset left; each keeps its law. -/
theorem witness_transmitter : sending.transmitter.Law ∧ (after .linkReset sending).transmitter.Law ∧
    (sending.transmitter.current = some [0xC3, 3, 0xFF, 0, 1] ∧
      [0xC3, 3, 0xFF, 0, (1 : Byte)][sending.transmitter.place / 100]? = some 0xFF ∧
      (after .linkReset sending).transmitter.current = none) :=
  ⟨by unfold Transmitter.Law; decide +kernel, by unfold Transmitter.Law; decide +kernel, by decide +kernel⟩

theorem witness_requestFrame : ∃ s : State, s.receiver.mode = .taken ∧
    s.receiver.buffer = requestBytes 0x32 7 [3, 1] ∧ requestOf (.doorAct 3 1) = some (0x32, [3, 1]) ∧
    s.transmitter.current = none ∧ payloadLength 0x32 = some 2 ∧ payloadLength 0x37 = none :=
  ⟨(requestBytes 0x32 7 [3, 1]).foldl State.hear campus, by decide +kernel⟩

/-- A state other than reset that meets the laws, with a command in front. -/
theorem witness_laws_notice : campus.noticeSet.Law ∧ ∃ t, step { campus with pending := [.status] } = .next t :=
  ⟨by unfold NoticeSet.Law; decide +kernel, _, rfl⟩

theorem witness_laws_supply : driven.SupplyLaw :=
  allTrunksOf (by unfold TrunkState.QueueLaw; decide +kernel) (by unfold TrunkState.QueueLaw; decide +kernel)
    (by unfold TrunkState.QueueLaw; decide +kernel) (by unfold TrunkState.QueueLaw; decide +kernel)

theorem witness_laws_tables : spent.HoldLaw ∧ campus.clock.Law ∧ campus.LeaderLaw ∧ campus.OffLaw :=
  ⟨by unfold State.HoldLaw; decide +kernel, by unfold Clock.Law; decide +kernel, by unfold State.LeaderLaw; decide +kernel,
    campus_offLaw⟩

/-- An input owns the one hold of the list. -/
theorem witness_laws_owned : letGo.HoldLaw ∧ (letGo.input 7).owned = some 1 :=
  ⟨by unfold State.HoldLaw; decide +kernel, by decide +kernel⟩

/-- The warn list of a warning. -/
theorem witness_laws_warn : (after (.sweep 4 1) warned).WarnLaw ∧
    ((after (.sweep 4 1) warned).trunk .A).warnList = [⟨3, 7, 15⟩] :=
  ⟨allTrunksOf (by decide +kernel) (by decide +kernel) (by decide +kernel) (by decide +kernel), by decide +kernel⟩

/-- A frame on one line, and the others free. -/
theorem witness_laws_line : (∀ t, (driven.trunk t).line.Law) ∧ (driven.trunk .A).line ≠ .free :=
  ⟨allTrunksOf (by unfold Line.Law; decide +kernel) (by unfold Line.Law; decide +kernel) (by unfold Line.Law; decide +kernel)
    (by unfold Line.Law; decide +kernel), by decide +kernel⟩

/-- The places in a window and a frame, inside the down frame and after it. -/
theorem witness_lineOutputs : (let l : Line := .window ⟨windowFrame.chars, 329⟩ false
      l.isDriven = true ∧ windowFrame.chars.length = 3) ∧
    (Line.frame ⟨.poll, 3, 5, (frameFor .poll 3 5).chars, 330⟩ false).isDriven = false := by decide +kernel

theorem witness_laws_work : driven.WorkLaw ∧ driven.FireLaw :=
  ⟨driven_workLaw, fun h => absurd (by decide +kernel : driven.fire = .normal) h⟩

/-- An ACTIVE sweep with a pending door, and free slots. -/
theorem witness_laws_sweeps : sweeping.SweepLaw ∧ sweeping.CountLaw ∧ sweeping.BusyLaw :=
  ⟨sweeping_sweepLaw, sweeping_countLaw, by unfold State.BusyLaw; decide +kernel⟩

end Sys2Proof.Tests
end

/-! Tier 1: the values after a reset, and the ends of the door timers. -/

namespace Sys2Proof.Machine

/-- Settles O4: each field of `State.reset` is read off the tables it was built from. -/
theorem coldResetGivesResetValues : Obligations.ColdResetGivesResetValues := by
  unfold Obligations.ColdResetGivesResetValues
  refine ⟨fun r1 r0 s => ?_, rfl, rfl, ?_⟩
  · cases r1 <;> cases r0 <;> rfl
  · refine ⟨fun d => ?_, fun z => ?_, fun k => ?_, fun c => ?_, fun t => ?_, rfl, rfl, fun i => ?_, rfl, rfl, rfl, rfl,
      rfl, rfl, rfl⟩
    · simp [State.door, State.reset, State.cold, Door.cold, Config.settleInterval, Config.tenthsPerMs]
    · simp [State.zone, State.reset, State.cold, Zone.cold]
    · simp [State.slot, State.reset, State.cold]
    · simp [State.lockClass, State.reset, State.cold, LockClass.cold]
    · simp [State.trunk, State.reset, State.cold, TrunkState.cold]
    · simp [State.input, State.reset, State.cold, Input.cold]

/-- Settles O19: each of the three commands tests whether its count is ending, and acts on it or not at all. -/
theorem timerEnds : Obligations.TimerEnds := by
  unfold Obligations.TimerEnds
  intro s d
  refine ⟨?_, ?_, ?_⟩
  · show Host.Outcome.next (s.endAllowance d) = _
    unfold State.endAllowance
    split <;> rfl
  · show Host.Outcome.next (s.endPassage d) = _
    unfold State.endPassage
    split <;> rfl
  · show Host.Outcome.next (s.endReminder d) = _
    unfold State.endReminder
    split
    · rfl
    · rfl

end Sys2Proof.Machine


namespace Sys2Proof.Machine

/-! ### What each record is at reset -/

section
variable (d : DoorNo) (z : ZoneNo) (k : SlotNo) (t : Trunk) (i : InputNo)

theorem State.reset_door : State.reset.door d = Door.cold := by simp [State.door, State.reset, State.cold]
theorem State.reset_zone : State.reset.zone z = Zone.cold z := by simp [State.zone, State.reset, State.cold]
theorem State.reset_slot : State.reset.slot k = none := by simp [State.slot, State.reset, State.cold]
theorem State.reset_trunk : State.reset.trunk t = TrunkState.cold := by simp [State.trunk, State.reset, State.cold]
theorem State.reset_input : State.reset.input i = Input.cold i := by simp [State.input, State.reset, State.cold]

end

theorem State.reset_doors_mem {x : Door} (h : x ∈ State.reset.doors.toList) : x = Door.cold := by
  have hd : State.reset.doors = Vector.replicate 256 Door.cold := rfl
  rw [hd, Vector.mem_toList_iff, Vector.mem_replicate] at h
  exact h.2

/-- At reset no zone is fire-barred, has a sweep or has a door, so that every zone is OPEN. -/
theorem State.reset_deriveZone (z : ZoneNo) : State.reset.deriveZone z = .opened := by
  have hd : State.reset.zoneDoors z = [] := by
    simp only [State.zoneDoors, List.filter_eq_nil_iff]
    intro x hx
    simp [State.reset_doors_mem hx, Door.cold]
  have hw : State.reset.sweepOf z = none := by
    simp [State.sweepOf, State.sweeps, State.reset_slot]
  have hf : State.reset.fireBarred z = false := rfl
  simp [State.deriveZone, hf, hw, hd, doorsZoneState]

/-- Settles O60, law by law from the cold-reset values. -/
theorem lawsHoldAtReset : Obligations.LawsHoldAtReset := by
  unfold Obligations.LawsHoldAtReset State.Laws
  refine ⟨?notice, ?supply, ?hold, ?clock, ?leader, ?address, ?off, ?health, ?timer, ?warn, ?transmitter, ?line, ?work,
    ?fire, ?zone, ?sweep, ?count, ?busy⟩
  case notice => unfold NoticeSet.Law; decide
  case supply => intro t; rw [State.reset_trunk]; unfold TrunkState.QueueLaw; decide
  case hold =>
    refine ⟨by decide, List.nodup_nil, fun h hh => absurd hh (List.not_mem_nil), fun i n hn => ?_⟩
    rw [State.reset_input] at hn; cases hn
  case clock =>
    refine ⟨by decide, by decide, by decide, fun e he => absurd he (List.not_mem_nil), List.Pairwise.nil⟩
  case leader => intro z; simp [State.reset_zone, Zone.cold]
  case address => constructor <;> intro d <;> simp [State.reset_door, Door.cold]
  case off =>
    intro t
    simp only [State.reset_trunk, TrunkState.cold, true_iff, State.trunkHasDoor, List.any_eq_false]
    intro x hx
    simp [State.reset_doors_mem hx, Door.cold]
  case health =>
    refine ⟨fun t => by rw [State.reset_trunk]; decide, fun d => by simp [State.reset_door, Door.cold]⟩
  case timer =>
    refine ⟨fun z => by simp [State.reset_zone, Zone.cold], fun d => ?_, fun k w hw => ?_⟩
    · simp [State.reset_door, Door.cold, Countdown.within]
    · rw [State.reset_slot] at hw; cases hw
  case warn => intro t; simp [State.reset_trunk, TrunkState.cold]
  case transmitter => simp [Transmitter.Law, State.reset, State.cold, Transmitter.cold]
  case line => intro t; left; rw [State.reset_trunk]; rfl
  case work =>
    intro d t
    simp [State.entriesOf, State.recordsOf, State.reset_trunk, State.reset_door, TrunkState.cold, Door.cold]
  case fire => intro h; exact absurd rfl h
  case zone => intro z; rw [State.reset_deriveZone, State.reset_zone]; rfl
  case sweep =>
    constructor
    · intro j k v hv; rw [State.reset_slot] at hv; cases hv
    · intro k w hw; rw [State.reset_slot] at hw; cases hw
  case count =>
    constructor
    · intro d l hl; rw [State.reset_door] at hl; cases hl
    · intro k w hw; rw [State.reset_slot] at hw; cases hw
  case busy =>
    constructor
    · intro k w hw; rw [State.reset_slot] at hw; cases hw
    · intro _ z; rw [State.reset_zone]; rfl

end Sys2Proof.Machine


namespace Sys2Proof.Machine

/-! ### What a change of a door's state touches -/

/-- A door record without the fields that intents, placements and sweeps write freely. -/
def Door.core (x : Door) : Door :=
  { x with intent := .none, keepOpen := false, attempts := 0, sweep := none, unreached := false }

/-- A door record with its timers blanked beside those fields. -/
def Door.untimed (x : Door) : Door := { x.core with passage := none, allowance := none, reminder := none }

theorem Door.untimed_of_core {x y : Door} (h : x.core = y.core) : x.untimed = y.untimed := by
  simp only [Door.untimed, h]

theorem Door.fixed_of_untimed {x y : Door} (h : x.untimed = y.untimed) : x.fixed = y.fixed := by
  have hx : ∀ x : Door, x.fixed = x.untimed.fixed := fun _ => rfl
  rw [hx x, hx y, h]

/-- A record is itself with the link it has. -/
theorem Door.with_sweep {x : Door} {o : Option SweepLink} (h : x.sweep = o) : { x with sweep := o } = x := by
  subst h; rfl

/-- The door's state and timers enter a state, unless it stands there; nothing follows (R7). -/
def State.setState (d : DoorNo) (st : DoorState) (s : State) : State :=
  if (s.door d).state = st then s else s.updDoor d (Door.enter st)

/-- A change of state is the door's own change, handed to its sweep and its zone (R7). -/
theorem State.changeState_eq (d : DoorNo) (st : DoorState) (s : State) :
    s.changeState d st = if (s.door d).state = st then s else
      State.rederive (s.door d).zone ((s.setState d st).handOffCount d (fun dir c => countAfterState dir c st)) := by
  unfold State.changeState State.setState
  split <;> rfl

theorem State.changeState_same {d : DoorNo} {st : DoorState} {s : State} (h : (s.door d).state = st) :
    s.changeState d st = s := by
  simp [State.changeState, h]

section
variable (d : DoorNo) (s : State)

@[simp] theorem State.trunk_moveCount (c : Count) (t : Trunk) : (s.moveCount d c).trunk t = s.trunk t := by
  unfold State.moveCount; split <;> rfl

@[simp] theorem State.zone_moveCount (c : Count) (z : ZoneNo) : (s.moveCount d c).zone z = s.zone z := by
  unfold State.moveCount; split <;> rfl

theorem State.door_moveCount (c : Count) (e : DoorNo) : (s.moveCount d c).door e =
    if e = d then { s.door d with sweep := (s.door d).sweep.map (fun l => { l with count := c }) } else s.door e := by
  unfold State.moveCount
  by_cases he : e = d
  · subst he
    cases h : (s.door e).sweep with
    | none => simp [Door.with_sweep h]
    | some l => simp
  · cases h : (s.door d).sweep <;> simp [he]

theorem State.slot_moveCount (c : Count) (k : SlotNo) : (s.moveCount d c).slot k =
    match (s.door d).sweep with
    | none => s.slot k
    | some l => if k = l.slot then (s.slot l.slot).map (fun w => { w with counts := w.counts.move l.count c })
        else s.slot k := by
  unfold State.moveCount
  cases h : (s.door d).sweep <;> simp

variable (f : Direction → Count → Option Count)

@[simp] theorem State.trunk_handOffCount (t : Trunk) : (s.handOffCount d f).trunk t = s.trunk t := by
  unfold State.handOffCount
  split
  · rfl
  · split
    · rfl
    · exact State.trunk_moveCount _ _ _ _

@[simp] theorem State.zone_handOffCount (z : ZoneNo) : (s.handOffCount d f).zone z = s.zone z := by
  unfold State.handOffCount
  split
  · rfl
  · split
    · rfl
    · exact State.zone_moveCount _ _ _ _

/-- A hand-off changes one door at most, and of it the count alone. -/
theorem State.door_handOffCount_ne {e : DoorNo} (h : e ≠ d) : (s.handOffCount d f).door e = s.door e := by
  unfold State.handOffCount
  split
  · rfl
  · split
    · rfl
    · simp [State.door_moveCount, h]

theorem State.handOffCount_sweep_only : ∃ o, (s.handOffCount d f).door d = { s.door d with sweep := o } := by
  unfold State.handOffCount
  split
  · exact ⟨(s.door d).sweep, rfl⟩
  · split
    · exact ⟨(s.door d).sweep, rfl⟩
    · exact ⟨_, by rw [State.door_moveCount, if_pos rfl]⟩

@[simp] theorem State.trunk_changeState (st : DoorState) (t : Trunk) : (s.changeState d st).trunk t = s.trunk t := by
  rw [State.changeState_eq]
  split
  · rfl
  · simp only [State.rederive, State.trunk_updZone, State.trunk_handOffCount, State.setState]
    split <;> rfl

theorem State.door_changeState_ne (st : DoorState) {e : DoorNo} (h : e ≠ d) : (s.changeState d st).door e = s.door e := by
  rw [State.changeState_eq]
  split
  · rfl
  · simp only [State.rederive, State.door_updZone, State.door_handOffCount_ne _ _ _ h, State.setState]
    split <;> simp [h]

/-- A door that changes its state enters it; beside that its count may have moved. -/
theorem State.door_changeState_self (st : DoorState) : ∃ o, (s.changeState d st).door d =
    if (s.door d).state = st then s.door d else { Door.enter st (s.door d) with sweep := o } := by
  rw [State.changeState_eq]
  split
  · exact ⟨none, rfl⟩
  · rename_i h
    obtain ⟨o, ho⟩ := State.handOffCount_sweep_only d (s.setState d st) (fun dir c => countAfterState dir c st)
    refine ⟨o, ?_⟩
    simp only [State.rederive, State.door_updZone, ho]
    simp [State.setState, h]

end

end Sys2Proof.Machine


namespace Sys2Proof.Machine

/-! ### Writes that write what stands there -/

theorem State.setDoor_self (s : State) (d : DoorNo) : s.setDoor d (s.door d) = s := by
  simp [State.setDoor, State.door]

theorem State.setZone_self (s : State) (z : ZoneNo) : s.setZone z (s.zone z) = s := by
  simp [State.setZone, State.zone]

theorem State.setSlot_self (s : State) (k : SlotNo) : s.setSlot k (s.slot k) = s := by
  simp [State.setSlot, State.slot]

theorem State.setTrunk_self (s : State) (t : Trunk) : s.setTrunk t (s.trunk t) = s := by
  simp [State.setTrunk, State.trunk]

theorem State.updDoor_self {s : State} {d : DoorNo} {f : Door → Door} (h : f (s.door d) = s.door d) :
    s.updDoor d f = s := by
  rw [State.updDoor, h, State.setDoor_self]

theorem State.updZone_self {s : State} {z : ZoneNo} {f : Zone → Zone} (h : f (s.zone z) = s.zone z) :
    s.updZone z f = s := by
  rw [State.updZone, h, State.setZone_self]

theorem State.updTrunk_self {s : State} {t : Trunk} {f : TrunkState → TrunkState} (h : f (s.trunk t) = s.trunk t) :
    s.updTrunk t f = s := by
  rw [State.updTrunk, h, State.setTrunk_self]

theorem State.updTrunk_congr {s : State} {t : Trunk} {f g : TrunkState → TrunkState}
    (h : f (s.trunk t) = g (s.trunk t)) : s.updTrunk t f = s.updTrunk t g := by
  rw [State.updTrunk, State.updTrunk, h]

/-! ### The walks over tables -/

theorem State.doorList_eq (s : State) : s.doorList = (List.finRange 256).map (fun d => (d, s.door d)) := by
  refine List.ext_getElem (by simp [State.doorList]) (fun i h _ => ?_)
  simp [State.doorList, State.door]

/-- The doors that meet a test are the configured ones among all doors, ascending. -/
theorem State.doorsWhere_eq (s : State) (p : DoorNo → Door → Bool) :
    s.doorsWhere p = (List.finRange 256).filter (fun d => (s.door d).configured && p d (s.door d)) := by
  rw [State.doorsWhere, State.doorList_eq, List.filter_map, List.map_map]
  simp [Function.comp_def]

@[simp] theorem State.mem_doorsWhere {s : State} {p : DoorNo → Door → Bool} {d : DoorNo} :
    d ∈ s.doorsWhere p ↔ (s.door d).configured = true ∧ p d (s.door d) = true := by
  simp [State.doorsWhere_eq]

theorem insertByKey_perm {α : Type} (key : α → Nat) (a : α) (l : List α) : (insertByKey key a l).Perm (a :: l) := by
  induction l with
  | nil => exact .refl _
  | cons b l ih =>
    unfold insertByKey
    split
    · exact .refl _
    · exact (ih.cons b).trans (.swap a b l)

theorem sortByKey_perm {α : Type} (key : α → Nat) (l : List α) : (sortByKey key l).Perm l := by
  induction l with
  | nil => exact .refl _
  | cons a l ih => exact (insertByKey_perm key a _).trans (ih.cons a)

@[simp] theorem mem_sortByKey {α : Type} {key : α → Nat} {l : List α} {a : α} : a ∈ sortByKey key l ↔ a ∈ l :=
  (sortByKey_perm key l).mem_iff

@[simp] theorem State.mem_zoneWalk {s : State} {z : ZoneNo} {d : DoorNo} : d ∈ s.zoneWalk z ↔ s.IsDoorOf z d := by
  simp [State.zoneWalk, State.inRankOrder, State.IsDoorOf]

@[simp] theorem State.mem_waitingZones {s : State} {z : ZoneNo} : z ∈ s.waitingZones ↔ (s.zone z).marker.isSome = true := by
  simp [State.waitingZones]

/-! ### The steps that operations on a door's work are made of -/

/-- The door has an entry or a record while it stands in the state (R4). -/
def DoorState.busy : DoorState → Bool
  | .waiting | .acting => true
  | .unknown | .released | .secured | .ajar | .passage | .jammed | .forced => false

/-- A state that comes with neither work nor a passage timer. -/
def DoorState.plain : DoorState → Bool
  | .waiting | .acting | .passage => false
  | .unknown | .released | .secured | .ajar | .jammed | .forced => true

/-- What the timer law says of one door record (R1, R17, R21, R23). -/
def Door.TimersFit (x : Door) : Prop :=
  (x.passage.isSome = true ↔ x.state = .passage) ∧
    (x.allowance.isSome = true → x.state = .secured ∧ x.exit = true) ∧
    (x.reminder.isSome = true → x.state = .ajar) ∧
    Countdown.within x.passage 255 ∧ Countdown.within x.allowance 255 ∧ Countdown.within x.reminder 60

/-- No timer of the second record has its last unit behind it that had not in the first (log 4). -/
def Door.NoNewEnds (x y : Door) : Prop :=
  (isEnding y.allowance = true → isEnding x.allowance = true) ∧
  (isEnding y.passage = true → isEnding x.passage = true) ∧ (isEnding y.reminder = true → isEnding x.reminder = true)

/-- The doors whose records, the zones whose markers and plans, and the slots whose sweeps an operation may touch. Beside
them it may grant, derive zones and load plans, and move counts. -/
structure Touch where
  door : DoorNo → Prop
  zone : ZoneNo → Prop
  slot : SlotNo → Prop

/-- An operation that may touch everything. -/
def Touch.all : Touch := ⟨fun _ => True, fun _ => True, fun _ => True⟩

/-- Where an entry that rejoins a queue is put: at the tail of its class, or behind what was returned before (R94, R95). -/
def rejoined (before : Option (List (DoorNo × QueueClass))) (e : Entry) (q : List Entry) : List Entry :=
  match before with
  | none => joinTail e q
  | some l => joinHead l e q

/-- One step of an operation on work. Each law need only be seen to survive these steps, whatever operation is made of
them. -/
inductive Prim (A : Touch) (s : State) : State → Prop where
  /-- A door's intent, mark, attempts, link or unreached mark is written. -/
  | door {d : DoorNo} (hd : A.door d) {f : Door → Door} (hf : ∀ x, (f x).core = x.core) : Prim A s (s.updDoor d f)
  /-- The same of several doors. -/
  | doors {f : Door → Door} (hf : ∀ x, (f x).core = x.core) (hd : ∀ d, ¬ A.door d → f (s.door d) = s.door d) :
      Prim A s { s with doors := mapAll f s.doors }
  /-- A door's timers are written. -/
  | timer {d : DoorNo} (hd : A.door d) {f : Door → Door} (hf : ∀ x, (f x).untimed = x.untimed)
      (ht : s.TimerLaw → (f (s.door d)).TimersFit) (he : (s.door d).NoNewEnds (f (s.door d))) : Prim A s (s.updDoor d f)
  | derive (z : ZoneNo) : Prim A s (s.rederive z)
  | load (z : ZoneNo) : Prim A s (s.updZone z Zone.load)
  | zone {z : ZoneNo} (hz : A.zone z) {f : Zone → Zone} (hf : ∀ x, (f x).fixed = x.fixed) : Prim A s (s.updZone z f)
  | counts (k : SlotNo) (f : Counts → Counts) : Prim A s (s.updSlot k (fun w => { w with counts := f w.counts }))
  /-- A slot is written; a warning in it stood there before or begins with a zone's lead. -/
  | sweep {k : SlotNo} (hk : A.slot k) {x : Option Sweep}
      (hz : ∀ w ∈ x, A.zone w.zone ∨ ∃ v ∈ s.slot k, v.zone = w.zone)
      (hc : ∀ w ∈ x, ∀ c, w.phase = .warning c →
        (∃ v ∈ s.slot k, v.phase = .warning c) ∨ (c.ending = false ∧ (s.IntervalLaw → 1 ≤ c.left ∧ c.left ≤ 15))) :
      Prim A s (s.setSlot k x)
  | raise (k : NoticeKind) (u : Subject) (v : Detail) : Prim A s (s.raise k u v)
  | warn (m : Nat) {d : DoorNo} (hc : (s.door d).configured = true) : Prim A s (s.placeWarn m d)
  /-- A door without work changes its state. -/
  | change {d : DoorNo} (hd : A.door d) {st : DoorState} (h : (s.door d).state.busy = false) (hst : st.plain = true) :
      Prim A s (s.updDoor d (Door.enter st))
  /-- A SECURED door is opened with leave: PASSAGE with its timer (R18). -/
  | pass {d : DoorNo} (hd : A.door d) (h : (s.door d).state = .secured) {n : Nat} (hn : s.IntervalLaw → 1 ≤ n ∧ n ≤ 255) :
      Prim A s ((s.changeState d .passage).updDoor d (fun x => { x with passage := some (.start n) }))
  /-- A door without work gets an entry and waits (R5). -/
  | add {d : DoorNo} (hd : A.door d) {dir : Direction} (cls : QueueClass)
      (hb : dir = .lock → s.fireLockedOut d = false) (h : (s.door d).state.busy = false) :
      Prim A s (State.setState d .waiting
        ((s.updTrunk (s.door d).trunk (fun x => { x with queue := joinTail ⟨d, dir, cls⟩ x.queue })).updDoor d
          (fun x => { x.clearTimers with attempts := 0 })))
  /-- The entry of a WAITING door is replaced (R31). -/
  | turn {d : DoorNo} (hd : A.door d) {dir : Direction} (cls : QueueClass)
      (hb : dir = .lock → s.fireLockedOut d = false) : Prim A s (s.replacePlacement d dir cls)
  /-- A door's record is raised, or goes into DRIVING (R32, R91). -/
  | record {d : DoorNo} (hd : A.door d) (f : QueueClass → QueueClass) (g : DrivePhase → DrivePhase) :
      Prim A s (s.updTrunk (s.door d).trunk (TrunkState.updRecord d f g))
  | grant {t : Trunk} {e : Entry} {q : List Entry} (hq : (s.trunk t).queue = e :: q) (hg : s.grantable t e = true) :
      Prim A s (s.grant t e)
  /-- A WAITING door loses its entry and changes its state. -/
  | leave {d : DoorNo} (hd : A.door d) {st : DoorState} (h : (s.door d).state = .waiting) (hst : st.plain = true) :
      Prim A s ((s.dropEntry d).setState d st)
  /-- A door's drive is over, and it changes its state (R93). -/
  | driveOver {d : DoorNo} (hd : A.door d) {f : Door → Door} (hf : ∀ x, (f x).core = x.core) {st : DoorState}
      (h : (s.door d).state = .acting ∨ s.record d ≠ none) (hst : st.plain = true) :
      Prim A s (((s.dropRecord d).updDoor d f).setState d st)
  /-- A door's drive is over, and its entry rejoins the queue (R94, R95). -/
  | back {d : DoorNo} (hd : A.door d) {f : Door → Door} (hf : ∀ x, (f x).core = x.core) {dir : Direction}
      (cls : QueueClass) (before : Option (List (DoorNo × QueueClass)))
      (h : (s.door d).state = .acting ∨ s.record d ≠ none) (hb : dir = .lock → s.fireLockedOut d = false) :
      Prim A s (State.setState d .waiting (((s.dropRecord d).updDoor d f).updTrunk (s.door d).trunk
        (fun x => { x with queue := rejoined before ⟨d, dir, cls⟩ x.queue })))

/-- What an operation on work that keeps within `A` can do: steps of `Prim`, one after another. -/
def Moves (A : Touch) : State → State → Prop := Relation.ReflTransGen (Prim A)

end Sys2Proof.Machine


namespace Sys2Proof.Machine

/-! ### Door records and lock-out through the small writes -/

@[simp] theorem State.door_dropEntry (s : State) (d e : DoorNo) : (s.dropEntry d).door e = s.door e := rfl
@[simp] theorem State.door_dropRecord (s : State) (d e : DoorNo) : (s.dropRecord d).door e = s.door e := rfl

/-- What lock-out reads of a state (1.2). -/
theorem State.fireLockedOut_congr {s t : State} {d : DoorNo} (hf : t.fire = s.fire)
    (hd : (t.door d).fire = (s.door d).fire) : t.fireLockedOut d = s.fireLockedOut d := by
  simp [State.fireLockedOut, hf, hd]

theorem State.fireLockedOut_of_unblocked {s : State} {d : DoorNo} {dir : Direction}
    (h : s.placementBlocked d dir = false) : dir = .lock → s.fireLockedOut d = false := by
  rintro rfl
  simp only [State.placementBlocked, State.lockBlocked, beq_self_eq_true, Bool.true_and, Bool.or_eq_false_iff] at h
  exact h.2

theorem restatedState_plain (b : Bolt) (p : Position) : (restatedState b p).plain = true := by
  cases b <;> cases p <;> rfl

theorem Door.clearTimers_fit {x : Door} (h : x.state ≠ .passage) : x.clearTimers.TimersFit := by
  simp [Door.TimersFit, Door.clearTimers, h, Countdown.within]

theorem Door.clearTimers_noNewEnds (x : Door) : x.NoNewEnds x.clearTimers := by
  simp [Door.NoNewEnds, Door.clearTimers, isEnding]

theorem Door.enter_noNewEnds (st : DoorState) (x : Door) : x.NoNewEnds (Door.enter st x) := by
  simp [Door.NoNewEnds, Door.enter, Door.clearTimers, isEnding]

theorem DoorState.plain_ne_passage {st : DoorState} (h : st.plain = true) : st ≠ .passage := by
  rintro rfl; cases h

theorem DoorState.busy_of_plain {st : DoorState} (h : st.plain = true) : st.busy = false := by
  cases st <;> first | rfl | cases h

/-- A door that is asked to change its state stands in it afterwards. -/
@[simp] theorem State.state_changeState (d : DoorNo) (st : DoorState) (s : State) :
    ((s.changeState d st).door d).state = st := by
  obtain ⟨o, ho⟩ := State.door_changeState_self d s st
  rw [ho]
  split
  · assumption
  · rfl

/-- Only an AJAR door is taken as RELEASED by its classification (R67). -/
theorem State.ajar_of_classify {s : State} {dir : Direction} {d : DoorNo}
    (h : (s.classify dir d).2 = .becomeReleased) : (s.door d).state = .ajar := by
  unfold State.classify at h
  split at h
  · unfold State.classifyLock at h
    repeat' split at h
    all_goals cases h
  · unfold State.classifyRelease at h
    cases hs : (s.door d).state <;> simp only [hs] at h
    all_goals first
      | rfl
      | (split at h <;> cases h)
      | cases h

/-- What an offer of a slot may touch: the slot, the zones that wait with their doors, and the doors still linked to the
slot (R59, R74). -/
structure Touch.Offers (A : Touch) (k : SlotNo) (s : State) : Prop where
  slot : A.slot k
  sweep : ∀ w ∈ s.slot k, A.zone w.zone
  zone : ∀ z, (s.zone z).marker.isSome = true → A.zone z
  door : ∀ z, A.zone z → ∀ d, s.IsDoorOf z d → A.door d
  linked : ∀ d, (s.door d).linkedTo k = true → A.door d

namespace Moves

variable {A : Touch} {s s' s'' : State} {d : DoorNo}

theorem refl (s : State) : Moves A s s := Relation.ReflTransGen.refl

theorem trans (h : Moves A s s') (g : Moves A s' s'') : Moves A s s'' := Relation.ReflTransGen.trans h g

theorem one (h : Prim A s s') : Moves A s s' := Relation.ReflTransGen.single h

theorem forEach {α : Type} {f : α → State → State} (l : List α) (hf : ∀ a ∈ l, ∀ s, Moves A s (f a s)) :
    Moves A s (Machine.forEach l f s) := by
  induction l generalizing s with
  | nil => exact refl s
  | cons a l ih =>
    exact (hf a List.mem_cons_self s).trans (ih fun b hb => hf b (List.mem_cons_of_mem a hb))

theorem door {f : Door → Door} (hd : A.door d) (hf : ∀ x, (f x).core = x.core := by intro x; rfl) :
    Moves A s (s.updDoor d f) := one (.door hd hf)

theorem zone {z : ZoneNo} {f : Zone → Zone} (hz : A.zone z) (hf : ∀ x, (f x).fixed = x.fixed := by intro x; rfl) :
    Moves A s (s.updZone z f) := one (.zone hz hf)

theorem rederive (z : ZoneNo) : Moves A s (s.rederive z) := one (.derive z)

theorem rederiveAll : Moves A s s.rederiveAll := forEach _ (fun z _ _ => rederive z)

theorem raise (k : NoticeKind) (u : Subject) (v : Detail) : Moves A s (s.raise k u v) := one (.raise k u v)

theorem raiseDoor (k : NoticeKind) (d : DoorNo) : Moves A s (s.raiseDoor k d) := raise _ _ _

theorem groupLoad (z : ZoneNo) : Moves A s (s.groupLoad z) := by
  refine forEach _ (fun z _ s => ?_)
  split
  · exact one (.load z)
  · exact refl s

theorem loadUnder (r : LoadRule) (z : ZoneNo) : Moves A s (s.loadUnder r z) := by
  unfold State.loadUnder
  split
  · exact groupLoad z
  · exact refl s

/-! ### Changes of state -/

theorem moveCount (hd : A.door d) (c : Count) : Moves A s (s.moveCount d c) := by
  unfold State.moveCount
  split
  · exact refl s
  · rename_i l _
    exact (one (.counts l.slot (fun n => n.move l.count c))).trans
      (door (f := fun x => { x with sweep := some { l with count := c } }) hd)

theorem handOffCount (hd : A.door d) (f : Direction → Count → Option Count) : Moves A s (s.handOffCount d f) := by
  unfold State.handOffCount
  split
  · exact refl s
  · split
    · exact refl s
    · exact moveCount hd _

/-- The hand-offs that follow a door's own change of state. -/
theorem follow (hd : A.door d) (st : DoorState) : Moves A (s.setState d st) (s.changeState d st) := by
  rw [State.changeState_eq]
  split
  · rename_i h
    rw [State.setState, if_pos h]
    exact refl s
  · exact (handOffCount hd _).trans (rederive _)

theorem changeState (hd : A.door d) {st : DoorState} (h : (s.door d).state.busy = false) (hst : st.plain = true) :
    Moves A s (s.changeState d st) := by
  refine trans ?_ (follow hd st)
  unfold State.setState
  split
  · exact refl s
  · exact one (.change hd h hst)

/-- The timers of a door that is not in PASSAGE become absent. -/
theorem clearTimers (hd : A.door d) (h : (s.door d).state ≠ .passage) : Moves A s (s.updDoor d Door.clearTimers) :=
  one (.timer hd (fun _ => rfl) (fun _ => Door.clearTimers_fit h) (Door.clearTimers_noNewEnds _))

theorem setReminder (hd : A.door d) (h : (s.door d).state = .ajar) : Moves A s (s.setReminder d) := by
  refine one (.timer (f := fun x => { x with reminder := _ }) hd (fun _ => rfl) (fun hl => ?_) ?_)
  · obtain ⟨hi, hdoor, -⟩ := hl
    obtain ⟨-, -, -, hajar⟩ := hi (s.door d).zone
    obtain ⟨hp, ha, -, hpw, haw, -⟩ := hdoor d
    refine ⟨hp, ha, fun _ => h, hpw, haw, ?_⟩
    intro n hn
    dsimp only at hn
    split at hn
    · cases hn
    · cases hn
      exact ⟨by simp only [Countdown.start_left]; omega, hajar⟩
  · refine ⟨id, id, ?_⟩
    dsimp only
    split <;> simp [isEnding]

/-! ### The arbiter -/

theorem grantLoop (n : Nat) (t : Trunk) : Moves A s (State.grantLoop n t s) := by
  induction n generalizing s with
  | zero => exact refl s
  | succ n ih =>
    unfold State.grantLoop
    split
    · exact refl s
    · rename_i e q hq
      split
      · rename_i hg
        exact (one (.grant hq hg)).trans ih
      · exact refl s

theorem consider (t : Trunk) : Moves A s (s.consider t) := grantLoop _ t

theorem considerAll : Moves A s s.considerAll := forEach _ (fun t _ _ => consider t)

theorem considerUnless (w : Bool) (t : Trunk) : Moves A s (s.considerUnless w t) := by
  unfold State.considerUnless
  split
  · exact refl s
  · exact consider t

theorem considerDoor (d : DoorNo) : Moves A s (s.considerDoor d) := consider _

/-! ### Placement -/

theorem addEntry (hd : A.door d) {dir : Direction} (c : QueueClass) (hb : dir = .lock → s.fireLockedOut d = false)
    (h : (s.door d).state.busy = false) : Moves A s (s.addEntry d dir c) :=
  (one (.add hd c hb h)).trans (follow hd .waiting)

/-- A placement for an ACTING door touches its record, or nothing (R32). -/
theorem raiseRecord (hd : A.door d) (dir : Direction) (c : QueueClass) : Moves A s (s.raiseRecord d dir c) := by
  unfold State.raiseRecord
  cases hr : recordOf d (s.trunk (s.door d).trunk).inFlight with
  | none =>
    rw [State.updTrunk_self (by rw [hr])]
    exact refl s
  | some r =>
    by_cases h : c = .urgent ∧ r.direction = dir
    · rw [State.updTrunk_congr (g := TrunkState.updRecord d (fun _ => .urgent) id) (by rw [hr]; simp [h])]
      exact one (.record hd _ _)
    · rw [State.updTrunk_self (by rw [hr]; simp [h])]
      exact refl s

theorem place (hd : A.door d) (w : Bool) (dir : Direction) (c : QueueClass) : Moves A s (s.place w d dir c) := by
  unfold State.place
  split
  · exact refl s
  · rename_i hb
    have hb := State.fireLockedOut_of_unblocked (Bool.not_eq_true _ ▸ hb)
    split
    · exact (one (.turn hd c hb)).trans (considerUnless w _)
    · exact raiseRecord hd dir c
    all_goals
      rename_i h
      exact (addEntry hd c hb (by rw [h]; rfl)).trans (considerUnless w _)

theorem placeLock (hd : A.door d) : Moves A s (s.placeLock d) := place hd _ _ _

theorem placeRelease (hd : A.door d) : Moves A s (s.placeRelease d) := place hd _ _ _

/-! ### Re-statement, AJAR, restoration, removal -/

/-- The timers that a re-statement clears after the change of state. -/
theorem clearRestated (hd : A.door d) (q : State) (st : DoorState) (hst : st.plain = true) :
    Moves A (q.changeState d st) ((q.changeState d st).updDoor d Door.clearTimers) :=
  clearTimers hd (by rw [State.state_changeState]; exact DoorState.plain_ne_passage hst)

theorem restate (hd : A.door d) (h : (s.door d).state.busy = false) : Moves A s (s.restate d) :=
  (changeState hd h (restatedState_plain _ _)).trans (clearRestated hd s _ (restatedState_plain _ _))

/-- The reminder and the notice of a door that has become AJAR (R23). -/
theorem ajarTail (hd : A.door d) (q : State) :
    Moves A (q.changeState d .ajar) (((q.changeState d .ajar).setReminder d).raiseDoor .ajar d) :=
  (setReminder hd (State.state_changeState d .ajar q)).trans (raiseDoor _ d)

theorem enterAjar (hd : A.door d) (h : (s.door d).state.busy = false) : Moves A s (s.enterAjar d) :=
  (changeState hd h rfl).trans (ajarTail hd s)

theorem restoreIntent (hd : A.door d) : Moves A s (s.restoreIntent d) := by
  unfold State.restoreIntent
  split
  · exact placeLock hd
  · exact placeRelease hd
  · exact refl s

/-- A WAITING door loses its entry and changes its state. -/
theorem leave (hd : A.door d) {st : DoorState} (h : (s.door d).state = .waiting) (hst : st.plain = true) :
    Moves A s ((s.dropEntry d).changeState d st) := (one (.leave hd h hst)).trans (follow hd st)

/-- A door's drive is over and it changes its state. -/
theorem driveOver (hd : A.door d) {f : Door → Door} (hf : ∀ x, (f x).core = x.core) {st : DoorState}
    (h : (s.door d).state = .acting ∨ s.record d ≠ none) (hst : st.plain = true) :
    Moves A s (((s.dropRecord d).updDoor d f).changeState d st) := (one (.driveOver hd hf h hst)).trans (follow hd st)

/-- A door's drive is over and it changes its state, nothing else of it being written. -/
theorem driveOverOnly (hd : A.door d) {st : DoorState} (h : (s.door d).state = .acting ∨ s.record d ≠ none)
    (hst : st.plain = true) : Moves A s ((s.dropRecord d).changeState d st) := by
  have := driveOver (A := A) (s := s) hd (f := id) (fun _ => rfl) h hst
  rwa [State.updDoor_self rfl] at this

theorem withdrawEntry (hd : A.door d) (h : (s.door d).state = .waiting) : Moves A s (s.withdrawEntry d) :=
  (((leave hd h (restatedState_plain _ _)).trans (clearRestated hd (s.dropEntry d) _ (restatedState_plain _ _))).trans
    (door hd)).trans (considerDoor d)

/-! ### Sweeps -/

theorem placeWarns (z : ZoneNo) (m : Nat) : Moves A s (s.placeWarns z m) := by
  have h : ∀ (l : List DoorNo) (s : State), (∀ d ∈ l, (s.door d).configured = true) →
      Moves A s (Machine.forEach l (State.placeWarn m) s) := by
    intro l
    induction l with
    | nil => exact fun s _ => refl s
    | cons d l ih =>
      intro s hl
      exact (one (.warn m (hl d List.mem_cons_self))).trans (ih _ fun e he => hl e (List.mem_cons_of_mem d he))
  exact h _ _ fun d hd => (State.mem_doorsWhere.mp hd).1

theorem sweepIntent (hd : A.door d) (dir : Direction) : Moves A s (s.sweepIntent dir d) := by
  unfold State.sweepIntent
  split
  · split
    · exact refl s
    · exact door hd
  · exact door hd

theorem sweepAct (hd : A.door d) (w : Bool) (dir : Direction) (a : SweepAction)
    (h : a = .becomeReleased → (s.door d).state = .ajar) : Moves A s (s.sweepAct w dir d a) := by
  unfold State.sweepAct
  split
  · exact refl s
  · exact place hd _ _ _
  · exact changeState hd (by rw [h rfl]; rfl) rfl

theorem linkDoor (hd : A.door d) (k : SlotNo) (c : Count) : Moves A s (s.linkDoor k d c) :=
  (door (f := fun x => { x with sweep := some ⟨k, c⟩, unreached := false }) hd).trans
    (one (.counts k (fun n => n.upd c (· + 1))))

theorem walkDoor (hd : A.door d) (k : SlotNo) (dir : Direction) : Moves A s (s.walkDoor k dir d) := by
  refine ((sweepIntent hd dir).trans (linkDoor hd k _)).trans (sweepAct hd _ _ _ fun h => ?_)
  have := State.ajar_of_classify h
  simpa [State.linkDoor] using this

/-- A slot keeps its zone and its warning through a change of its sweep that leaves them. -/
theorem updSlot {k : SlotNo} (hk : A.slot k) {f : Sweep → Sweep} (hz : ∀ w, (f w).zone = w.zone := by intro w; rfl)
    (hp : ∀ w, (f w).phase = w.phase ∨ (f w).phase = .active := by intro w; exact .inl rfl) :
    Moves A s (s.updSlot k f) := by
  refine one (.sweep hk (fun w hw => .inr ?_) (fun w hw c hc => .inl ?_))
  · obtain ⟨v, hv, rfl⟩ := Option.map_eq_some_iff.mp hw
    exact ⟨v, hv, (hz v).symm⟩
  · obtain ⟨v, hv, rfl⟩ := Option.map_eq_some_iff.mp hw
    refine ⟨v, hv, ?_⟩
    rcases hp v with h | h
    · rw [← h, hc]
    · rw [h] at hc; cases hc

theorem enterActive {k : SlotNo} (hk : A.slot k) (hd : ∀ w ∈ s.slot k, ∀ d, s.IsDoorOf w.zone d → A.door d) :
    Moves A s (s.enterActive k) := by
  unfold State.enterActive
  split
  · exact refl s
  · rename_i w hw
    refine ((trans (trans (one (.sweep hk ?_ ?_)) (forEach _ fun d hm s => walkDoor (hd w hw d ?_) k _)) (updSlot hk)).trans
      (rederive _)).trans considerAll
    · intro v hv; cases hv; exact .inr ⟨w, hw, rfl⟩
    · intro v hv c hc; cases hv; cases hc
    · exact State.mem_zoneWalk.mp hm

theorem startIn {k : SlotNo} {z : ZoneNo} (hk : A.slot k) (hz : A.zone z) (hd : ∀ d, s.IsDoorOf z d → A.door d)
    (dir : Direction) (o : Origin) : Moves A s (s.startIn k z dir o) := by
  unfold State.startIn
  have h : Moves A s (s.updZone z (fun x => { x with marker := none })) := zone hz
  refine trans h ?_
  have hdoor : ∀ d, (s.updZone z (fun x => { x with marker := none })).IsDoorOf z d → A.door d := hd
  generalize s.updZone z (fun x => { x with marker := none }) = q at hdoor ⊢
  dsimp only
  split
  · rename_i hw
    refine ((one (.sweep hk ?_ ?_)).trans (placeWarns z _)).trans (rederive z)
    · intro w hw; cases hw; exact .inl hz
    · intro w hw c hc
      cases hw; cases hc
      refine .inr ⟨rfl, fun hi => ⟨?_, (hi z).1⟩⟩
      simp only [State.isWarned, Bool.and_eq_true, Bool.not_eq_true', beq_eq_false_iff_ne] at hw
      obtain ⟨⟨⟨-, hlead⟩, -⟩, -⟩ := hw
      simp only [Countdown.start_left]
      omega
  · refine ((one (.sweep hk ?_ ?_)).trans (rederive z)).trans (enterActive hk ?_)
    · intro w hw; cases hw; exact .inl hz
    · intro w hw c hc; cases hw; cases hc
    · intro w hw d hm
      have : w.zone = z := by
        simp only [State.rederive, State.slot_updZone, State.slot_setSlot, ite_true, Option.mem_def,
          Option.some.injEq] at hw
        rw [← hw]
      rw [this] at hm
      exact hdoor d hm

theorem unlinkAll {k : SlotNo} (h : ∀ d, (s.door d).linkedTo k = true → A.door d) : Moves A s (s.unlinkAll k) := by
  refine one (.doors (fun x => by split <;> rfl) (fun d hd => ?_))
  rw [if_neg (fun hl => hd (h d hl))]

theorem leaveDoors {k : SlotNo} (h : ∀ d, (s.door d).linkedTo k = true → A.door d) : Moves A s (s.leaveDoors k) := by
  refine one (.doors (fun x => by unfold Door.leaveSweep; split <;> rfl) (fun d hd => ?_))
  rw [Door.leaveSweep, if_neg (fun hl => hd (h d hl))]

theorem closeSweep {k : SlotNo} {w : Sweep} (hk : A.slot k) (hz : A.zone w.zone) (c : Bool) :
    Moves A s (s.closeSweep k w c) := by
  refine (((zone hz).trans (one (.sweep hk ?_ ?_))).trans (rederive _)).trans (raise _ _ _)
  · intro v hv; cases hv
  · intro v hv; cases hv

end Moves

end Sys2Proof.Machine


namespace Sys2Proof.Machine

/-! ### What every step of an operation on work leaves alone -/

/-- No count follows a door into ACTING (R68, R69). -/
theorem State.handOffCount_acting (d : DoorNo) (s : State) :
    s.handOffCount d (fun dir c => countAfterState dir c .acting) = s := by
  have h : ∀ dir c, countAfterState dir c .acting = none := by intro dir c; cases dir <;> cases c <;> rfl
  simp only [State.handOffCount, h]
  split <;> rfl

/-- A door that becomes ACTING loses its timers, and its zone is derived again. -/
theorem State.changeState_acting (d : DoorNo) (s : State) :
    s.changeState d .acting = if (s.door d).state = .acting then s else
      (s.updDoor d (Door.enter .acting)).rederive (s.door d).zone := by
  rw [State.changeState_eq]
  split
  · rfl
  · rename_i h
    rw [State.handOffCount_acting, State.setState, if_neg h]

namespace Work

variable {s : State}

theorem setState (d : DoorNo) (st : DoorState) : Work s (s.setState d st) := by
  unfold State.setState
  split
  · exact refl s
  · exact updDoor d

theorem joined (before : Option (List (DoorNo × QueueClass))) (e : Entry) (t : Trunk) :
    Work s (s.updTrunk t (fun x => { x with queue := rejoined before e x.queue })) := by
  refine updTrunk t rfl rfl (fun _ => ?_)
  cases before with
  | none => exact ⟨joinTail_ordered _ _, fun h => absurd h (joinTail_ne_nil _ _)⟩
  | some l => exact ⟨joinHead_ordered _ _ _, fun h => absurd h (joinHead_ne_nil _ _ _)⟩

end Work

theorem Door.fixed_of_core {f : Door → Door} (hf : ∀ x, (f x).core = x.core) (x : Door) : (f x).fixed = x.fixed :=
  Door.fixed_of_untimed (Door.untimed_of_core (hf x))

/-- Each step is one of the operations on work, so that what they leave alone it leaves alone. -/
theorem Prim.work {A : Touch} {s s' : State} (h : Prim A s s') : Work s s' := by
  cases h with
  | door hd hf => exact .updDoor _ (Door.fixed_of_core hf)
  | doors hf hd => exact .mapDoors (Door.fixed_of_core hf)
  | timer hd hf ht he => exact .updDoor _ (fun x => Door.fixed_of_untimed (hf x))
  | derive z => exact .rederive z
  | load z =>
    refine .updZone z (f := Zone.load) (fun x => ?_)
    unfold Zone.load
    split <;> rfl
  | zone hz hf => exact .updZone _ hf
  | counts k f => exact .updSlot k _
  | sweep hk hz hc => exact .setSlot _ _
  | raise k u v => exact .raise k u v
  | warn m hc => exact .placeWarn m _
  | change hd h hst => exact .updDoor _
  | pass hd h hn => exact (Work.changeState _ _).trans (.updDoor _)
  | add hd c hb h => exact ((Work.joinQueue _ _).trans (.updDoor _)).trans (.setState _ _)
  | turn hd c hb => exact .replacePlacement _ _ _
  | record hd f g => exact .updRecord _ _ _ _
  | grant hq hg => exact .grant hq hg
  | leave hd h hst => exact (Work.dropEntry _).trans (.setState _ _)
  | driveOver hd hf h hst =>
    exact ((Work.dropRecord _).trans (.updDoor _ (Door.fixed_of_core hf))).trans (.setState _ _)
  | back hd hf c b h hb =>
    exact (((Work.dropRecord _).trans (.updDoor _ (Door.fixed_of_core hf))).trans (.joined _ _ _)).trans (.setState _ _)

theorem Moves.work {A : Touch} {s s' : State} (h : Moves A s s') : Work s s' := by
  induction h with
  | refl => exact .refl s
  | tail _ h ih => exact ih.trans h.work

/-! ### Doors and zones outside the reach -/

theorem State.door_setState_ne {d e : DoorNo} (h : e ≠ d) (st : DoorState) (s : State) :
    (s.setState d st).door e = s.door e := by
  unfold State.setState
  split <;> simp [h]

theorem State.door_setState_self (d : DoorNo) (st : DoorState) (s : State) :
    (s.setState d st).door d = if (s.door d).state = st then s.door d else Door.enter st (s.door d) := by
  unfold State.setState
  split <;> simp

@[simp] theorem State.zone_setState (d : DoorNo) (st : DoorState) (s : State) (z : ZoneNo) :
    (s.setState d st).zone z = s.zone z := by unfold State.setState; split <;> rfl

@[simp] theorem State.slot_setState (d : DoorNo) (st : DoorState) (s : State) (k : SlotNo) :
    (s.setState d st).slot k = s.slot k := by unfold State.setState; split <;> rfl

@[simp] theorem State.trunk_setState (d : DoorNo) (st : DoorState) (s : State) (t : Trunk) :
    (s.setState d st).trunk t = s.trunk t := by unfold State.setState; split <;> rfl

@[simp] theorem State.zone_dropEntry (s : State) (d : DoorNo) (z : ZoneNo) : (s.dropEntry d).zone z = s.zone z := rfl
@[simp] theorem State.slot_dropEntry (s : State) (d : DoorNo) (k : SlotNo) : (s.dropEntry d).slot k = s.slot k := rfl
@[simp] theorem State.zone_dropRecord (s : State) (d : DoorNo) (z : ZoneNo) : (s.dropRecord d).zone z = s.zone z := rfl
@[simp] theorem State.slot_dropRecord (s : State) (d : DoorNo) (k : SlotNo) : (s.dropRecord d).slot k = s.slot k := rfl

/-- A zone derived again has another state at most. -/
theorem State.zone_rederive (s : State) (z y : ZoneNo) : (s.rederive z).zone y =
    { s.zone y with state := if y = z then s.deriveZone z else (s.zone y).state } := by
  by_cases h : y = z <;> simp [State.rederive, h]

@[simp] theorem State.door_rederive (s : State) (z : ZoneNo) (d : DoorNo) : (s.rederive z).door d = s.door d := rfl
@[simp] theorem State.slot_rederive (s : State) (z : ZoneNo) (k : SlotNo) : (s.rederive z).slot k = s.slot k := rfl
@[simp] theorem State.trunk_rederive (s : State) (z : ZoneNo) (t : Trunk) : (s.rederive z).trunk t = s.trunk t := rfl

/-- A change of a door's state changes the state of its zone alone. -/
theorem State.zone_changeState (d : DoorNo) (st : DoorState) (s : State) (y : ZoneNo) :
    ∃ v, (s.changeState d st).zone y = { s.zone y with state := v } := by
  rw [State.changeState_eq]
  split
  · exact ⟨(s.zone y).state, rfl⟩
  · exact ⟨_, by rw [State.zone_rederive, State.zone_handOffCount, State.zone_setState]⟩

theorem State.door_changeState_acting (s : State) (e d : DoorNo) : (s.changeState e .acting).door d =
    if d = e ∧ (s.door d).state ≠ .acting then Door.enter .acting (s.door d) else s.door d := by
  by_cases hd : d = e
  · subst hd
    by_cases ha : (s.door d).state = .acting
    · rw [State.changeState_same ha, if_neg (fun h => h.2 ha)]
    · rw [State.changeState_acting, if_neg ha, if_pos ⟨rfl, ha⟩]
      simp
  · rw [State.door_changeState_ne _ _ _ hd, if_neg (fun h => hd h.1)]

/-- A grant makes the door of the entry ACTING. -/
theorem State.door_grant (s : State) (t : Trunk) (e : Entry) (d : DoorNo) : (s.grant t e).door d =
    if d = e.door ∧ (s.door d).state ≠ .acting then Door.enter .acting (s.door d) else s.door d := by
  rw [State.grant, State.door_updTrunk, State.door_changeState_acting]
  rfl

@[simp] theorem State.slot_changeState_acting (s : State) (e : DoorNo) (k : SlotNo) :
    (s.changeState e .acting).slot k = s.slot k := by
  rw [State.changeState_acting]
  split <;> rfl

@[simp] theorem State.slot_grant (s : State) (t : Trunk) (e : Entry) (k : SlotNo) : (s.grant t e).slot k = s.slot k := by
  simp only [State.grant, State.slot_updTrunk, State.slot_changeState_acting]

theorem State.zone_grant (s : State) (t : Trunk) (e : Entry) (y : ZoneNo) :
    ∃ v, (s.grant t e).zone y = { s.zone y with state := v } := by
  simp only [State.grant, State.zone_updTrunk]
  obtain ⟨v, h⟩ := State.zone_changeState e.door .acting (s.updTrunk t (TrunkState.toFlight e (s.charge t e))) y
  exact ⟨v, h⟩

/-- A door outside the reach stands as it is, or is granted. -/
theorem Prim.door_outside {A : Touch} {s s' : State} (h : Prim A s s') {d : DoorNo} (hd : ¬ A.door d) :
    s'.door d = s.door d ∨ ∃ t e q, (s.trunk t).queue = e :: q ∧ s.grantable t e = true ∧ e.door = d ∧ s' = s.grant t e := by
  have hne : ∀ {e : DoorNo}, A.door e → d ≠ e := by rintro e he rfl; exact hd he
  cases h with
  | door he hf => left; simp [hne he]
  | doors hf he => left; rw [State.door_mapDoors, he d hd]
  | timer he hf ht hn => left; simp [hne he]
  | derive z => exact .inl rfl
  | load z => exact .inl rfl
  | zone hz hf => exact .inl rfl
  | counts k f => exact .inl rfl
  | sweep hk hz hc => exact .inl rfl
  | raise k u v => exact .inl rfl
  | warn m hc => exact .inl rfl
  | change he h hst => left; simp [hne he]
  | pass he h hn => left; simp [hne he, State.door_changeState_ne _ _ _ (hne he)]
  | add he c hb h => left; simp [State.door_setState_ne (hne he), hne he]
  | turn he c hb => left; simp [State.replacePlacement, hne he]
  | record he f g => exact .inl rfl
  | @grant t e q hq hg =>
    by_cases hde : e.door = d
    · exact .inr ⟨t, e, q, hq, hg, hde, rfl⟩
    · left
      rw [State.door_grant, if_neg (fun h => hde h.1.symm)]
  | leave he h hst => left; simp [State.door_setState_ne (hne he)]
  | driveOver he hf h hst => left; simp [State.door_setState_ne (hne he), hne he]
  | back he hf c b h hb => left; simp [State.door_setState_ne (hne he), hne he]

/-- A zone outside the reach keeps its marker, its last direction and what it was staged. -/
theorem Prim.zone_outside {A : Touch} {s s' : State} (h : Prim A s s') {z : ZoneNo} (hz : ¬ A.zone z) :
    (s'.zone z).marker = (s.zone z).marker ∧ (s'.zone z).last = (s.zone z).last := by
  have hne : ∀ {y : ZoneNo}, A.zone y → z ≠ y := by rintro y hy rfl; exact hz hy
  cases h with
  | derive y => rw [State.zone_rederive]; exact ⟨rfl, rfl⟩
  | load y =>
    by_cases hy : z = y
    · subst hy; simp only [State.zone_updZone, if_true, Zone.load]; split <;> exact ⟨rfl, rfl⟩
    · simp [hy]
  | zone hy hf => simp [hne hy]
  | @pass d hd h n hn =>
    obtain ⟨v, hv⟩ := State.zone_changeState d .passage s z
    rw [State.zone_updDoor, hv]; exact ⟨rfl, rfl⟩
  | @grant t e q hq hg =>
    obtain ⟨v, h⟩ := State.zone_grant s t e z
    rw [h]; exact ⟨rfl, rfl⟩
  | turn => exact ⟨rfl, rfl⟩
  | warn => exact ⟨rfl, rfl⟩
  | _ => simp

end Sys2Proof.Machine


namespace Sys2Proof.Machine

/-! ### Timers and warnings through a step -/

theorem Door.timersFit_of_core {x y : Door} (h : y.core = x.core) (hx : x.TimersFit) : y.TimersFit := by
  have hs : y.state = x.state := by have := congrArg Door.state h; exact this
  have hp : y.passage = x.passage := by have := congrArg Door.passage h; exact this
  have ha : y.allowance = x.allowance := by have := congrArg Door.allowance h; exact this
  have hr : y.reminder = x.reminder := by have := congrArg Door.reminder h; exact this
  have he : y.exit = x.exit := by have := congrArg Door.exit h; exact this
  unfold Door.TimersFit at *
  rwa [hs, hp, ha, hr, he]

theorem Door.noNewEnds_of_core {x y : Door} (h : y.core = x.core) : x.NoNewEnds y := by
  have hp : y.passage = x.passage := by have := congrArg Door.passage h; exact this
  have ha : y.allowance = x.allowance := by have := congrArg Door.allowance h; exact this
  have hr : y.reminder = x.reminder := by have := congrArg Door.reminder h; exact this
  unfold Door.NoNewEnds
  rw [hp, ha, hr]
  exact ⟨id, id, id⟩

theorem Door.NoNewEnds.refl (x : Door) : x.NoNewEnds x := ⟨id, id, id⟩

theorem Door.NoNewEnds.trans {x y z : Door} (h : x.NoNewEnds y) (g : y.NoNewEnds z) : x.NoNewEnds z :=
  ⟨fun e => h.1 (g.1 e), fun e => h.2.1 (g.2.1 e), fun e => h.2.2 (g.2.2 e)⟩

/-- A door that enters a state other than PASSAGE has no timer (R17, R21, R23). -/
theorem Door.enter_fit {st : DoorState} (h : st ≠ .passage) (x : Door) : (Door.enter st x).TimersFit := by
  simp [Door.TimersFit, Door.enter, Door.clearTimers, h, Countdown.within]

/-- What a step does to the timers of one door: they fit after it if they did before, and none begins to end. -/
def Door.Timed (s : State) (x y : Door) : Prop := (s.TimerLaw → x.TimersFit → y.TimersFit) ∧ x.NoNewEnds y

theorem Door.timed_refl {s : State} (x : Door) : Door.Timed s x x := ⟨fun _ h => h, .refl x⟩

theorem Door.timed_of_core {s : State} {x y : Door} (h : y.core = x.core) : Door.Timed s x y :=
  ⟨fun _ => Door.timersFit_of_core h, Door.noNewEnds_of_core h⟩

theorem Door.timed_enter {s : State} {st : DoorState} (h : st ≠ .passage) (x : Door) :
    Door.Timed s x (Door.enter st x) := ⟨fun _ _ => Door.enter_fit h x, Door.enter_noNewEnds st x⟩

/-- A door that is free of timers, or is given none, fits in any state but PASSAGE. -/
theorem State.timed_setState {s q : State} {d : DoorNo} {st : DoorState} (h : st ≠ .passage) {x : Door}
    (hq : (q.door d).core = x.core ∨ ((q.door d).state ≠ st ∧ x.NoNewEnds (q.door d))) :
    Door.Timed s x ((q.setState d st).door d) := by
  rw [State.door_setState_self]
  split
  · rename_i hs
    rcases hq with hq | ⟨hq, -⟩
    · exact Door.timed_of_core hq
    · exact absurd hs hq
  · refine ⟨fun _ _ => Door.enter_fit h _, ?_⟩
    rcases hq with hq | ⟨-, hq⟩
    · exact (Door.noNewEnds_of_core hq).trans (Door.enter_noNewEnds _ _)
    · exact hq.trans (Door.enter_noNewEnds _ _)

theorem Prim.timed {A : Touch} {s s' : State} (h : Prim A s s') (d : DoorNo) :
    Door.Timed s (s.door d) (s'.door d) := by
  cases h with
  | @door e he f hf =>
    by_cases hde : d = e
    · subst hde; rw [State.door_updDoor, if_pos rfl]; exact Door.timed_of_core (hf _)
    · rw [State.door_updDoor, if_neg hde]; exact Door.timed_refl _
  | doors hf he => rw [State.door_mapDoors]; exact Door.timed_of_core (hf _)
  | @timer e he f hf ht hn =>
    by_cases hde : d = e
    · subst hde; rw [State.door_updDoor, if_pos rfl]; exact ⟨fun h _ => ht h, hn⟩
    · rw [State.door_updDoor, if_neg hde]; exact Door.timed_refl _
  | @change e he st h hst =>
    by_cases hde : d = e
    · subst hde; rw [State.door_updDoor, if_pos rfl]; exact Door.timed_enter (DoorState.plain_ne_passage hst) _
    · rw [State.door_updDoor, if_neg hde]; exact Door.timed_refl _
  | @pass e he h n hn =>
    by_cases hde : d = e
    · subst hde
      obtain ⟨o, ho⟩ := State.door_changeState_self d s .passage
      rw [State.door_updDoor, if_pos rfl, ho, if_neg (by rw [h]; decide)]
      refine ⟨fun hl _ => ?_, ?_⟩
      · simpa [Door.TimersFit, Door.enter, Door.clearTimers, Countdown.within] using hn hl.1
      · simp [Door.NoNewEnds, Door.enter, Door.clearTimers, isEnding, Countdown.start]
    · rw [State.door_updDoor, if_neg hde, State.door_changeState_ne _ _ _ hde]; exact Door.timed_refl _
  | @add e he dir c hb h =>
    by_cases hde : d = e
    · subst hde
      refine State.timed_setState (by decide) (.inr ⟨?_, ?_⟩)
      · intro hs
        rw [State.door_updDoor, if_pos rfl] at hs
        have : (s.door d).state = .waiting := hs
        rw [this] at h; cases h
      · rw [State.door_updDoor, if_pos rfl]
        simp [Door.NoNewEnds, Door.clearTimers, isEnding]
    · rw [State.door_setState_ne hde, State.door_updDoor, if_neg hde]; exact Door.timed_refl _
  | @turn e he dir c hb =>
    by_cases hde : d = e
    · subst hde; rw [State.replacePlacement, State.door_updDoor, if_pos rfl]; exact Door.timed_of_core rfl
    · rw [State.replacePlacement, State.door_updDoor, if_neg hde]; exact Door.timed_refl _
  | @grant t e q hq hg =>
    rw [State.door_grant]
    split
    · exact Door.timed_enter (by decide) _
    · exact Door.timed_refl _
  | @leave e he st h hst =>
    by_cases hde : d = e
    · subst hde; exact State.timed_setState (DoorState.plain_ne_passage hst) (.inl rfl)
    · rw [State.door_setState_ne hde]; exact Door.timed_refl _
  | @driveOver e he f hf st h hst =>
    by_cases hde : d = e
    · subst hde
      refine State.timed_setState (DoorState.plain_ne_passage hst) (.inl ?_)
      rw [State.door_updDoor, if_pos rfl]; exact hf _
    · rw [State.door_setState_ne hde, State.door_updDoor, if_neg hde]; exact Door.timed_refl _
  | @back e he f hf dir c b h hb =>
    by_cases hde : d = e
    · subst hde
      refine State.timed_setState (by decide) (.inl ?_)
      rw [State.door_updTrunk, State.door_updDoor, if_pos rfl]; exact hf _
    · rw [State.door_setState_ne hde, State.door_updTrunk, State.door_updDoor, if_neg hde]; exact Door.timed_refl _
  | derive | load | zone | counts | sweep | raise | warn | record => exact Door.timed_refl _

/-- A change of a door's state changes a sweep's counts at most. -/
theorem State.slot_changeState (d : DoorNo) (st : DoorState) (s : State) (k : SlotNo) :
    ∃ g : Counts → Counts, (s.changeState d st).slot k = (s.slot k).map (fun w => { w with counts := g w.counts }) := by
  rw [State.changeState_eq]
  split
  · exact ⟨id, by simp⟩
  · rw [State.slot_rederive]
    unfold State.handOffCount
    split
    · exact ⟨id, by simp⟩
    · split
      · exact ⟨id, by simp⟩
      · rw [State.slot_moveCount]
        split
        · exact ⟨id, by simp⟩
        · split
          · rename_i l _ hk
            subst hk
            exact ⟨fun n => n.move l.count _, by rw [State.slot_setState]⟩
          · exact ⟨id, by simp⟩

/-- What a step leaves in a slot: the sweep that stood there, of another count, or a written one. -/
theorem Prim.slot {A : Touch} {s s' : State} (h : Prim A s s') (k : SlotNo) :
    (∃ g : Counts → Counts, s'.slot k = (s.slot k).map (fun w => { w with counts := g w.counts })) ∨
    (A.slot k ∧ (∀ w ∈ s'.slot k, A.zone w.zone ∨ ∃ v ∈ s.slot k, v.zone = w.zone) ∧
      ∀ w ∈ s'.slot k, ∀ c, w.phase = .warning c →
        (∃ v ∈ s.slot k, v.phase = .warning c) ∨ (c.ending = false ∧ (s.IntervalLaw → 1 ≤ c.left ∧ c.left ≤ 15))) := by
  have hsame : ∀ {q : State}, q.slot k = s.slot k →
      ∃ g : Counts → Counts, q.slot k = (s.slot k).map (fun w => { w with counts := g w.counts }) :=
    fun hq => ⟨id, by simp [hq]⟩
  cases h with
  | counts j f =>
    left
    by_cases hj : k = j
    · subst hj; exact ⟨f, by simp⟩
    · exact hsame (by simp [hj])
  | @sweep j hk x hz hc =>
    by_cases hj : k = j
    · subst hj
      right
      rw [State.slot_setSlot, if_pos rfl]
      exact ⟨hk, hz, hc⟩
    · exact .inl (hsame (by simp [hj]))
  | @pass d hd h n hn => exact .inl (State.slot_changeState d .passage s k)
  | door | doors | timer | derive | load | zone | raise | warn | change | turn | record => exact .inl (hsame rfl)
  | add => exact .inl (hsame (by simp))
  | grant => exact .inl (hsame (by simp))
  | leave => exact .inl (hsame (by simp))
  | driveOver => exact .inl (hsame (by simp))
  | back => exact .inl (hsame (by simp))

/-- A warning after a step stood there before, or begins with its zone's lead. -/
theorem Prim.warning {A : Touch} {s s' : State} (h : Prim A s s') {k : SlotNo} {w : Sweep} (hw : s'.slot k = some w)
    {c : Countdown} (hc : w.phase = .warning c) :
    (∃ v ∈ s.slot k, v.phase = .warning c) ∨ (c.ending = false ∧ (s.IntervalLaw → 1 ≤ c.left ∧ c.left ≤ 15)) := by
  rcases h.slot k with ⟨g, hg⟩ | ⟨-, -, hx⟩
  · left
    rw [hw] at hg
    obtain ⟨v, hv, rfl⟩ := Option.map_eq_some_iff.mp hg.symm
    exact ⟨v, hv, hc⟩
  · exact hx w hw c hc

/-- What work leaves alone of the zones' settings keeps the law of the intervals. -/
theorem State.IntervalLaw.of_work {s s' : State} (h : Work s s') (hl : s.IntervalLaw) : s'.IntervalLaw := by
  intro z
  have hz := h.zone_eq z
  have h1 : (s'.zone z).lead = (s.zone z).lead := by have := congrArg Zone.lead hz; exact this
  have h2 : (s'.zone z).passageLimit = (s.zone z).passageLimit := by have := congrArg Zone.passageLimit hz; exact this
  have h3 : (s'.zone z).ajarInterval = (s.zone z).ajarInterval := by have := congrArg Zone.ajarInterval hz; exact this
  rw [h1, h2, h3]
  exact hl z

theorem Prim.timerLaw {A : Touch} {s s' : State} (h : Prim A s s') (hl : s.TimerLaw) : s'.TimerLaw := by
  refine ⟨.of_work h.work hl.1, fun d => (h.timed d).1 hl (hl.2.1 d), fun k w hw c hc => ?_⟩
  rcases h.warning hw hc with ⟨v, hv, hp⟩ | ⟨-, hn⟩
  · exact hl.2.2 k v hv c hp
  · exact hn hl.1

theorem Moves.timerLaw {A : Touch} {s s' : State} (h : Moves A s s') (hl : s.TimerLaw) : s'.TimerLaw := by
  induction h with
  | refl => exact hl
  | tail _ h ih => exact h.timerLaw ih

theorem Moves.noNewEnds {A : Touch} {s s' : State} (h : Moves A s s') (d : DoorNo) :
    (s.door d).NoNewEnds (s'.door d) := by
  induction h with
  | refl => exact .refl _
  | tail _ h ih => exact ih.trans (h.timed d).2

/-- No warning begins to end by an operation on work (log 4). -/
theorem Moves.warningEnds {A : Touch} {s s' : State} (h : Moves A s s') {k : SlotNo} {w : Sweep}
    (hw : s'.slot k = some w) (he : w.warningEnds = true) : ∃ v, s.slot k = some v ∧ v.warningEnds = true := by
  induction h generalizing w with
  | refl => exact ⟨w, hw, he⟩
  | @tail _ _ _ h ih =>
    unfold Sweep.warningEnds at he
    split at he
    · rename_i c hc
      rcases h.warning hw hc with ⟨v, hv, hp⟩ | ⟨hn, -⟩
      · exact ih hv (by simp only [Sweep.warningEnds, hp, he])
      · rw [hn] at he; cases he
    · cases he

/-! ### Warn lists through a step -/

theorem State.warnList_grant (s : State) (t u : Trunk) (e : Entry) :
    ((s.grant t e).trunk u).warnList = (s.trunk u).warnList := by
  have hrun : ∀ x : TrunkState, (if e.isUrgent then x else x.countRun).settleRun.warnList = x.warnList := by
    intro x
    unfold TrunkState.settleRun TrunkState.countRun
    repeat' split
    all_goals rfl
  by_cases hu : u = t
  · subst hu; simp [State.grant, hrun, TrunkState.toFlight]
  · simp [State.grant, hu]

theorem State.warnList_dropEntry (s : State) (d : DoorNo) (u : Trunk) :
    ((s.dropEntry d).trunk u).warnList = (s.trunk u).warnList := by
  by_cases hu : u = (s.door d).trunk
  · subst hu
    simp only [State.dropEntry, State.trunk_updTrunk, if_true, TrunkState.dropEntry, TrunkState.settleRun]
    split <;> rfl
  · simp [State.dropEntry, hu]

theorem State.warnList_dropRecord (s : State) (d : DoorNo) (u : Trunk) :
    ((s.dropRecord d).trunk u).warnList = (s.trunk u).warnList := by
  by_cases hu : u = (s.door d).trunk
  · subst hu; simp [State.dropRecord, TrunkState.dropRecord]
  · simp [State.dropRecord, hu]

/-- A trunk's change that leaves its warn list leaves every trunk's. -/
theorem State.warnList_updTrunk {s : State} {t : Trunk} {f : TrunkState → TrunkState}
    (hf : (f (s.trunk t)).warnList = (s.trunk t).warnList) (u : Trunk) :
    ((s.updTrunk t f).trunk u).warnList = (s.trunk u).warnList := by
  by_cases hu : u = t
  · subst hu; simpa using hf
  · simp [hu]

/-- Only a WARN entry for a configured door comes to a warn list, on the door's trunk (R117). -/
theorem Prim.warnList {A : Touch} {s s' : State} (h : Prim A s s') (u : Trunk) :
    (s'.trunk u).warnList = (s.trunk u).warnList ∨ ∃ e : WarnEntry, (s.door e.door).configured = true ∧
      (s.door e.door).trunk = u ∧ (s'.trunk u).warnList = putWarn e (s.trunk u).warnList := by
  cases h with
  | @warn m d hc =>
    by_cases hu : u = (s.door d).trunk
    · exact .inr ⟨⟨d, (s.zone (s.door d).zone).chime, m⟩, hc, hu.symm, by simp [State.placeWarn, hu]⟩
    · left; simp [State.placeWarn, hu]
  | grant => exact .inl (State.warnList_grant _ _ _ _)
  | leave => left; rw [State.trunk_setState]; exact State.warnList_dropEntry _ _ _
  | driveOver => left; rw [State.trunk_setState]; exact State.warnList_dropRecord _ _ _
  | back =>
    left
    rw [State.trunk_setState, State.warnList_updTrunk rfl, State.trunk_updDoor]
    exact State.warnList_dropRecord _ _ _
  | turn => left; rw [State.replacePlacement, State.trunk_updDoor]; exact State.warnList_updTrunk rfl u
  | add => left; rw [State.trunk_setState, State.trunk_updDoor]; exact State.warnList_updTrunk rfl u
  | record => left; exact State.warnList_updTrunk rfl u
  | pass => left; simp
  | door | doors | timer | derive | load | zone | counts | sweep | raise | change => exact .inl rfl

theorem nodup_putWarn {e : WarnEntry} {l : List WarnEntry} (h : (l.map WarnEntry.door).Nodup) :
    ((putWarn e l).map WarnEntry.door).Nodup := by
  unfold putWarn
  split
  · have : (l.map (fun x => if x.door = e.door then e else x)).map WarnEntry.door = l.map WarnEntry.door := by
      rw [List.map_map]
      refine List.map_congr_left (fun x _ => ?_)
      simp only [Function.comp_apply]
      split
      · rename_i hx; exact hx.symm
      · rfl
    rwa [this]
  · rename_i hn
    rw [List.map_append, List.nodup_append]
    refine ⟨h, by simp, ?_⟩
    rintro a ha b hb rfl
    simp only [List.map_cons, List.map_nil, List.mem_singleton] at hb
    obtain ⟨x, hx, hxa⟩ := List.mem_map.mp ha
    exact hn (List.any_eq_true.mpr ⟨x, hx, by simp [hxa, hb]⟩)

theorem mem_putWarn {e x : WarnEntry} {l : List WarnEntry} (h : x ∈ putWarn e l) : x = e ∨ x ∈ l := by
  unfold putWarn at h
  split at h
  · obtain ⟨y, hy, hyx⟩ := List.mem_map.mp h
    split at hyx
    · exact .inl hyx.symm
    · exact .inr (hyx ▸ hy)
  · rcases List.mem_append.mp h with h | h
    · exact .inr h
    · exact .inl (List.mem_singleton.mp h)

/-- The configuration of a door stands through work. -/
theorem Work.configured_eq {s s' : State} (h : Work s s') (d : DoorNo) :
    (s'.door d).configured = (s.door d).configured := by have := congrArg Door.configured (h.door_eq d); exact this

theorem Work.doorTrunk_eq {s s' : State} (h : Work s s') (d : DoorNo) : (s'.door d).trunk = (s.door d).trunk := by
  have := congrArg Door.trunk (h.door_eq d); exact this

theorem Work.doorZone_eq {s s' : State} (h : Work s s') (d : DoorNo) : (s'.door d).zone = (s.door d).zone := by
  have := congrArg Door.zone (h.door_eq d); exact this

theorem Work.doorFire_eq {s s' : State} (h : Work s s') (d : DoorNo) : (s'.door d).fire = (s.door d).fire := by
  have := congrArg Door.fire (h.door_eq d); exact this

theorem Prim.warnLaw {A : Touch} {s s' : State} (h : Prim A s s') (hl : s.WarnLaw) : s'.WarnLaw := by
  intro u
  obtain ⟨hnd, hall⟩ := hl u
  rcases h.warnList u with hw | ⟨e, hc, ht, hw⟩
  · rw [hw]
    exact ⟨hnd, fun x hx => by rw [h.work.configured_eq, h.work.doorTrunk_eq]; exact hall x hx⟩
  · rw [hw]
    refine ⟨nodup_putWarn hnd, fun x hx => ?_⟩
    rw [h.work.configured_eq, h.work.doorTrunk_eq]
    rcases mem_putWarn hx with rfl | hx
    · exact ⟨hc, ht⟩
    · exact hall x hx

theorem Moves.warnLaw {A : Touch} {s s' : State} (h : Moves A s s') (hl : s.WarnLaw) : s'.WarnLaw := by
  induction h with
  | refl => exact hl
  | tail _ h ih => exact h.warnLaw ih

end Sys2Proof.Machine


namespace Sys2Proof.Machine

/-! ### Queues and records, door by door -/

/-- How many entries of a queue are a door's. -/
def entriesIn (d : DoorNo) (q : List Entry) : Nat := (q.filter (fun e => e.door == d)).length

/-- How many records of a list are a door's. -/
def recordsIn (d : DoorNo) (l : List Record) : Nat := (l.filter (fun r => r.door == d)).length

theorem State.entriesOf_eq (s : State) (t : Trunk) (d : DoorNo) : s.entriesOf t d = entriesIn d (s.trunk t).queue := rfl
theorem State.recordsOf_eq (s : State) (t : Trunk) (d : DoorNo) : s.recordsOf t d = recordsIn d (s.trunk t).inFlight := rfl

theorem entriesIn_perm {d : DoorNo} {p q : List Entry} (h : p.Perm q) : entriesIn d p = entriesIn d q :=
  (h.filter _).length_eq

@[simp] theorem entriesIn_cons (d : DoorNo) (e : Entry) (q : List Entry) :
    entriesIn d (e :: q) = (if e.door = d then 1 else 0) + entriesIn d q := by
  by_cases h : e.door = d <;> simp [entriesIn, h]; omega

@[simp] theorem recordsIn_append (d : DoorNo) (l : List Record) (r : Record) :
    recordsIn d (l ++ [r]) = recordsIn d l + if r.door = d then 1 else 0 := by
  by_cases h : r.door = d <;> simp [recordsIn, h]

theorem entriesIn_eq_zero {d : DoorNo} {q : List Entry} : entriesIn d q = 0 ↔ ∀ e ∈ q, e.door ≠ d := by
  simp [entriesIn, List.filter_eq_nil_iff]

theorem recordsIn_eq_zero {d : DoorNo} {l : List Record} : recordsIn d l = 0 ↔ ∀ r ∈ l, r.door ≠ d := by
  simp [recordsIn, List.filter_eq_nil_iff]

/-- The two classes of a queue are its entries. -/
theorem parts_perm (q : List Entry) : (urgentPart q ++ routinePart q).Perm q := List.filter_append_perm _ q

theorem joinTail_perm (e : Entry) (q : List Entry) : (joinTail e q).Perm (e :: q) := by
  unfold joinTail
  split
  · exact List.perm_middle.trans ((parts_perm q).cons e)
  · rw [← List.append_assoc]
    exact (List.perm_append_singleton e _).trans ((parts_perm q).cons e)

theorem joinAfter_perm (b : List (DoorNo × QueueClass)) (e : Entry) (p : List Entry) :
    (joinAfter b e p).Perm (e :: p) := by
  unfold joinAfter
  refine List.perm_middle.trans (List.Perm.cons e ?_)
  rw [List.takeWhile_append_dropWhile]

theorem joinHead_perm (b : List (DoorNo × QueueClass)) (e : Entry) (q : List Entry) :
    (joinHead b e q).Perm (e :: q) := by
  unfold joinHead
  split
  · exact ((joinAfter_perm b e _).append_right _).trans ((parts_perm q).cons e)
  · exact ((joinAfter_perm b e _).append_left _).trans (List.perm_middle.trans ((parts_perm q).cons e))

theorem rejoined_perm (b : Option (List (DoorNo × QueueClass))) (e : Entry) (q : List Entry) :
    (rejoined b e q).Perm (e :: q) := by
  cases b with
  | none => exact joinTail_perm e q
  | some l => exact joinHead_perm l e q

theorem entriesIn_withoutDoor (d e : DoorNo) (q : List Entry) :
    entriesIn e (withoutDoor d q) = if e = d then 0 else entriesIn e q := by
  simp only [entriesIn, withoutDoor, List.filter_filter]
  by_cases h : e = d
  · subst h
    simp
  · rw [if_neg h]
    congr 2
    funext x
    by_cases hx : x.door = e
    · simp [hx, h]
    · simp [hx]

theorem entryOf_eq_none {d : DoorNo} {q : List Entry} : entryOf d q = none ↔ entriesIn d q = 0 := by
  rw [entriesIn_eq_zero]; simp [entryOf]

theorem recordOf_eq_none {d : DoorNo} {l : List Record} : recordOf d l = none ↔ recordsIn d l = 0 := by
  rw [recordsIn_eq_zero]; simp [recordOf]

/-- Turning a door's entries in their place changes no door. -/
theorem entriesIn_turned (d e : DoorNo) (dir : Direction) (q : List Entry) :
    entriesIn e (q.map (fun x => if x.door = d then { x with direction := dir } else x)) = entriesIn e q := by
  induction q with
  | nil => rfl
  | cons x q ih =>
    rw [List.map_cons, entriesIn_cons, entriesIn_cons, ih]
    split <;> rfl

/-- A replacement leaves each door the entry it has. -/
theorem entriesIn_replaceEntry {d : DoorNo} (e : DoorNo) (dir : Direction) (c : QueueClass) {q : List Entry}
    (h : entriesIn d q ≤ 1) : entriesIn e (replaceEntry d dir c q) = entriesIn e q := by
  unfold replaceEntry
  cases he : entryOf d q with
  | none => rfl
  | some x =>
    dsimp only
    split
    · rw [entriesIn_perm (joinTail_perm _ _), entriesIn_cons, entriesIn_withoutDoor]
      by_cases hd : e = d
      · subst hd
        have : entriesIn e q ≠ 0 := by
          rw [Ne, ← entryOf_eq_none, he]; exact Option.some_ne_none x
        simp; omega
      · rw [if_neg (Ne.symm hd), if_neg hd, Nat.zero_add]
    · exact entriesIn_turned d e dir q

theorem recordsIn_updRecord (d e : DoorNo) (f : QueueClass → QueueClass) (g : DrivePhase → DrivePhase) (x : TrunkState) :
    recordsIn e (x.updRecord d f g).inFlight = recordsIn e x.inFlight := by
  show recordsIn e (x.inFlight.map _) = _
  induction x.inFlight with
  | nil => rfl
  | cons r l ih =>
    simp only [recordsIn] at ih
    simp only [recordsIn, List.map_cons, List.filter_cons]
    by_cases h : r.door = d <;> by_cases h' : r.door = e <;> simp_all

theorem recordsIn_dropped (d e : DoorNo) (l : List Record) :
    recordsIn e (l.filter (fun r => !(r.door == d))) = if e = d then 0 else recordsIn e l := by
  simp only [recordsIn, List.filter_filter]
  by_cases h : e = d
  · subst h; simp
  · rw [if_neg h]
    congr 2
    funext x
    by_cases hx : x.door = e
    · simp [hx, h]
    · simp [hx]

/-! ### Queues and records after the operations that write them -/

theorem TrunkState.queue_run (b : Bool) (x : TrunkState) : (if b then x else x.countRun).settleRun.queue = x.queue := by
  rw [Work.settleRun_queue]
  split
  · rfl
  · exact Work.countRun_queue x

theorem TrunkState.inFlight_run (b : Bool) (x : TrunkState) :
    (if b then x else x.countRun).settleRun.inFlight = x.inFlight := by
  unfold TrunkState.settleRun TrunkState.countRun
  repeat' split
  all_goals rfl

theorem State.queue_grant (s : State) (t u : Trunk) (e : Entry) :
    ((s.grant t e).trunk u).queue = if u = t then (s.trunk t).queue.tail else (s.trunk u).queue := by
  by_cases hu : u = t
  · subst hu; simp [State.grant, TrunkState.queue_run, TrunkState.toFlight]
  · simp [State.grant, hu]

theorem State.inFlight_grant (s : State) (t u : Trunk) (e : Entry) : ((s.grant t e).trunk u).inFlight =
    if u = t then (s.trunk t).inFlight ++ [⟨e.door, e.direction, e.cls, s.charge t e, .granted⟩]
    else (s.trunk u).inFlight := by
  by_cases hu : u = t
  · subst hu; simp [State.grant, TrunkState.inFlight_run, TrunkState.toFlight]
  · simp [State.grant, hu]

theorem State.queue_dropEntry (s : State) (d : DoorNo) (u : Trunk) : ((s.dropEntry d).trunk u).queue =
    if u = (s.door d).trunk then withoutDoor d (s.trunk u).queue else (s.trunk u).queue := by
  by_cases hu : u = (s.door d).trunk
  · subst hu; simp [State.dropEntry, TrunkState.dropEntry, Work.settleRun_queue]
  · simp [State.dropEntry, hu]

theorem State.inFlight_dropEntry (s : State) (d : DoorNo) (u : Trunk) :
    ((s.dropEntry d).trunk u).inFlight = (s.trunk u).inFlight := by
  by_cases hu : u = (s.door d).trunk
  · subst hu
    simp only [State.dropEntry, State.trunk_updTrunk, if_true, TrunkState.dropEntry, TrunkState.settleRun]
    split <;> rfl
  · simp [State.dropEntry, hu]

theorem State.queue_dropRecord (s : State) (d : DoorNo) (u : Trunk) :
    ((s.dropRecord d).trunk u).queue = (s.trunk u).queue := by
  by_cases hu : u = (s.door d).trunk
  · subst hu; simp [State.dropRecord, TrunkState.dropRecord]
  · simp [State.dropRecord, hu]

theorem State.inFlight_dropRecord (s : State) (d : DoorNo) (u : Trunk) : ((s.dropRecord d).trunk u).inFlight =
    if u = (s.door d).trunk then (s.trunk u).inFlight.filter (fun r => !(r.door == d)) else (s.trunk u).inFlight := by
  by_cases hu : u = (s.door d).trunk
  · subst hu; simp [State.dropRecord, TrunkState.dropRecord]
  · simp [State.dropRecord, hu]

theorem State.queue_replacePlacement (s : State) (d : DoorNo) (dir : Direction) (c : QueueClass) (u : Trunk) :
    ((s.replacePlacement d dir c).trunk u).queue =
      if u = (s.door d).trunk then replaceEntry d dir c (s.trunk u).queue else (s.trunk u).queue := by
  by_cases hu : u = (s.door d).trunk
  · subst hu; simp [State.replacePlacement]
  · simp [State.replacePlacement, hu]

theorem State.inFlight_replacePlacement (s : State) (d : DoorNo) (dir : Direction) (c : QueueClass) (u : Trunk) :
    ((s.replacePlacement d dir c).trunk u).inFlight = (s.trunk u).inFlight := by
  by_cases hu : u = (s.door d).trunk
  · subst hu; simp [State.replacePlacement]
  · simp [State.replacePlacement, hu]

/-! ### The law of work, door by door -/

/-- The law of work of one door (R4). -/
def State.WorkAt (s : State) (d : DoorNo) : Prop :=
  ∀ t, s.entriesOf t d = (if (s.door d).trunk = t ∧ (s.door d).state = .waiting then 1 else 0) ∧
    s.recordsOf t d = (if (s.door d).trunk = t ∧ (s.door d).state = .acting then 1 else 0)

theorem State.workLaw_iff (s : State) : s.WorkLaw ↔ ∀ d, s.WorkAt d := Iff.rfl

/-- Where the trunk and the state of a door and its work are as they were, its law of work is. -/
theorem State.WorkAt.congr {s t : State} {d : DoorNo} (h : s.WorkAt d) (ht : (t.door d).trunk = (s.door d).trunk)
    (hs : (t.door d).state = (s.door d).state) (he : ∀ u, t.entriesOf u d = s.entriesOf u d)
    (hr : ∀ u, t.recordsOf u d = s.recordsOf u d) : t.WorkAt d := by
  intro u
  rw [ht, hs, he, hr]
  exact h u

/-- A door without work has no entry and no record anywhere. -/
theorem State.WorkAt.idle {s : State} {d : DoorNo} (h : s.WorkAt d) (hs : (s.door d).state.busy = false) (u : Trunk) :
    s.entriesOf u d = 0 ∧ s.recordsOf u d = 0 := by
  obtain ⟨he, hr⟩ := h u
  have h1 : (s.door d).state ≠ .waiting := by rintro e; rw [e] at hs; cases hs
  have h2 : (s.door d).state ≠ .acting := by rintro e; rw [e] at hs; cases hs
  rw [if_neg (fun a => h1 a.2)] at he
  rw [if_neg (fun a => h2 a.2)] at hr
  exact ⟨he, hr⟩

theorem State.WorkAt.of_idle {s : State} {d : DoorNo} (hs : (s.door d).state.busy = false)
    (h : ∀ u, s.entriesOf u d = 0 ∧ s.recordsOf u d = 0) : s.WorkAt d := by
  intro u
  have h1 : (s.door d).state ≠ .waiting := by rintro e; rw [e] at hs; cases hs
  have h2 : (s.door d).state ≠ .acting := by rintro e; rw [e] at hs; cases hs
  rw [if_neg (fun a => h1 a.2), if_neg (fun a => h2 a.2)]
  exact h u

/-- A WAITING door has one entry, on its own trunk, and no record. -/
theorem State.WorkAt.waiting {s : State} {d : DoorNo} (h : s.WorkAt d) (hs : (s.door d).state = .waiting) (u : Trunk) :
    s.entriesOf u d = (if (s.door d).trunk = u then 1 else 0) ∧ s.recordsOf u d = 0 := by
  obtain ⟨he, hr⟩ := h u
  rw [hs] at he hr
  simpa using And.intro he hr

theorem State.WorkAt.acting {s : State} {d : DoorNo} (h : s.WorkAt d) (hs : (s.door d).state = .acting) (u : Trunk) :
    s.entriesOf u d = 0 ∧ s.recordsOf u d = (if (s.door d).trunk = u then 1 else 0) := by
  obtain ⟨he, hr⟩ := h u
  rw [hs] at he hr
  simpa using And.intro he hr

theorem State.WorkAt.entries_le {s : State} {d : DoorNo} (h : s.WorkAt d) (u : Trunk) : s.entriesOf u d ≤ 1 := by
  rw [(h u).1]; split <;> omega

/-- A door with an in-flight record on its trunk is ACTING. -/
theorem State.WorkAt.acting_of_record {s : State} {d : DoorNo} (h : s.WorkAt d)
    (hr : (s.door d).state = .acting ∨ s.record d ≠ none) : (s.door d).state = .acting := by
  rcases hr with hr | hr
  · exact hr
  · by_contra hn
    refine hr (recordOf_eq_none.mpr ?_)
    have := (h (s.door d).trunk).2
    rwa [if_neg (fun a => hn a.2)] at this

/-- The state a door is set to, it stands in. -/
@[simp] theorem State.state_setState (d : DoorNo) (st : DoorState) (s : State) :
    ((s.setState d st).door d).state = st := by
  rw [State.door_setState_self]
  split
  · assumption
  · rfl

/-- Waiting in one's own trunk with one entry there and no other work. -/
theorem State.WorkAt.of_waiting {s : State} {d : DoorNo} (hs : (s.door d).state = .waiting)
    (h : ∀ u, s.entriesOf u d = (if (s.door d).trunk = u then 1 else 0) ∧ s.recordsOf u d = 0) : s.WorkAt d := by
  intro u
  rw [hs]
  simpa using h u

theorem State.doorTrunk_grant (s : State) (t : Trunk) (e : Entry) (d : DoorNo) :
    ((s.grant t e).door d).trunk = (s.door d).trunk := by
  rw [State.door_grant]; split <;> rfl

@[simp] theorem State.doorTrunk_setState (s : State) (e : DoorNo) (st : DoorState) (d : DoorNo) :
    ((s.setState e st).door d).trunk = (s.door d).trunk := by
  by_cases h : d = e
  · subst h; rw [State.door_setState_self]; split <;> rfl
  · rw [State.door_setState_ne h]

theorem State.doorTrunk_updDoor (s : State) (e : DoorNo) {f : Door → Door} (hf : ∀ x, (f x).trunk = x.trunk)
    (d : DoorNo) : ((s.updDoor e f).door d).trunk = (s.door d).trunk := by
  rw [State.door_updDoor]
  split
  · rename_i h; subst h; exact hf _
  · rfl

/-- A door without work that gets an entry waits with it alone; no other door's work is touched. -/
theorem State.WorkAt.add {s : State} {d e : DoorNo} (hl : s.WorkAt d) (h : (s.door e).state.busy = false)
    (dir : Direction) (c : QueueClass) : (State.setState e .waiting ((s.updTrunk (s.door e).trunk (fun x =>
      { x with queue := joinTail ⟨e, dir, c⟩ x.queue })).updDoor e
        (fun x => { x.clearTimers with attempts := 0 }))).WorkAt d := by
  have htr : ((State.setState e .waiting ((s.updTrunk (s.door e).trunk (fun x =>
      { x with queue := joinTail ⟨e, dir, c⟩ x.queue })).updDoor e
        (fun x => { x.clearTimers with attempts := 0 }))).door d).trunk = (s.door d).trunk :=
    (State.doorTrunk_setState _ _ _ d).trans
      (State.doorTrunk_updDoor _ e (f := fun x => { x.clearTimers with attempts := 0 }) (fun _ => rfl) d)
  have hq : ∀ u, (State.setState e .waiting ((s.updTrunk (s.door e).trunk (fun x =>
      { x with queue := joinTail ⟨e, dir, c⟩ x.queue })).updDoor e (fun x => { x.clearTimers with attempts := 0 }))).entriesOf
        u d = (if (s.door e).trunk = u ∧ e = d then 1 else 0) + s.entriesOf u d := fun u => by
    simp only [State.entriesOf_eq, State.trunk_setState, State.trunk_updDoor, State.trunk_updTrunk]
    by_cases hu : u = (s.door e).trunk
    · subst hu; simp [entriesIn_perm (joinTail_perm _ _)]
    · simp [hu, Ne.symm hu]
  have hi : ∀ u, (State.setState e .waiting ((s.updTrunk (s.door e).trunk (fun x =>
      { x with queue := joinTail ⟨e, dir, c⟩ x.queue })).updDoor e (fun x => { x.clearTimers with attempts := 0 }))).recordsOf
        u d = s.recordsOf u d := fun u => by
    simp only [State.recordsOf_eq, State.trunk_setState, State.trunk_updDoor, State.trunk_updTrunk]
    split
    · rename_i hu; subst hu; rfl
    · rfl
  by_cases hde : d = e
  · subst hde
    refine .of_waiting (State.state_setState _ _ _) (fun u => ?_)
    rw [hq, hi, htr, (hl.idle h u).1, (hl.idle h u).2]
    simp
  · refine hl.congr htr ?_ (fun u => ?_) hi
    · rw [State.door_setState_ne hde, State.door_updDoor, if_neg hde, State.door_updTrunk]
    · rw [hq, if_neg (fun a => hde a.2.symm), Nat.zero_add]

/-- A replacement leaves each door the work it has. -/
theorem State.WorkAt.turn {s : State} {d : DoorNo} (hl : s.WorkAt d) (e : DoorNo) (dir : Direction) (c : QueueClass) :
    (s.replacePlacement e dir c).WorkAt d := by
  have htr : ((s.replacePlacement e dir c).door d).trunk = (s.door d).trunk :=
    State.doorTrunk_updDoor _ e (f := fun x => { x with attempts := 0 }) (fun _ => rfl) d
  refine hl.congr htr ?_ (fun u => ?_) (fun u => ?_)
  · rw [State.replacePlacement, State.door_updDoor]
    split
    · rename_i hde; subst hde; rfl
    · rfl
  · rw [State.entriesOf_eq, State.queue_replacePlacement]
    split
    · by_cases hde : d = e
      · subst hde; exact entriesIn_replaceEntry d dir c (hl.entries_le u)
      · unfold replaceEntry
        split
        · rfl
        · split
          · rw [entriesIn_perm (joinTail_perm _ _), entriesIn_cons, if_neg (Ne.symm hde), entriesIn_withoutDoor,
              if_neg hde, Nat.zero_add]; rfl
          · exact entriesIn_turned e d dir _
    · rfl
  · rw [State.recordsOf_eq, State.inFlight_replacePlacement]; rfl

/-- A grant turns the entry of its door into a record; no other door's work is touched. -/
theorem State.WorkAt.grant {s : State} {d : DoorNo} (hl : s.WorkAt d) {t : Trunk} {e : Entry} {q : List Entry}
    (hq : (s.trunk t).queue = e :: q) : (s.grant t e).WorkAt d := by
  have htr : ((s.grant t e).door d).trunk = (s.door d).trunk :=
    State.doorTrunk_grant s t e d
  have hqu : ∀ u, s.entriesOf u d = (if u = t ∧ e.door = d then 1 else 0) + (s.grant t e).entriesOf u d := fun u => by
    rw [State.entriesOf_eq, State.entriesOf_eq, State.queue_grant]
    by_cases hu : u = t
    · subst hu; simp [hq]
    · simp [hu]
  have hin : ∀ u, (s.grant t e).recordsOf u d = s.recordsOf u d + if u = t ∧ e.door = d then 1 else 0 := fun u => by
    rw [State.recordsOf_eq, State.recordsOf_eq, State.inFlight_grant]
    by_cases hu : u = t
    · subst hu; simp
    · simp [hu]
  by_cases hde : d = e.door
  · subst hde
    have hone : 1 ≤ s.entriesOf t e.door := by rw [hqu t]; simp
    have hw : (s.door e.door).trunk = t ∧ (s.door e.door).state = .waiting := by
      by_contra hn
      rw [(hl t).1, if_neg hn] at hone
      omega
    have hact : ((s.grant t e).door e.door).state = .acting := by
      rw [State.door_grant]; simp [hw.2, Door.enter]
    intro u
    have hu := hl.waiting hw.2 u
    rw [hqu u] at hu
    rw [htr, hact, hin u, hu.2, hw.1]
    rw [hw.1] at hu
    have := hu.1
    simp only [reduceCtorEq, and_false, and_true, if_false]
    refine ⟨?_, by simp [eq_comm]⟩
    by_cases hu : u = t
    · subst hu; simp at this; omega
    · rw [if_neg (fun a => hu a.1), if_neg (Ne.symm hu), Nat.zero_add] at this; exact this
  · refine hl.congr htr (by rw [State.door_grant, if_neg (fun a => hde a.1)]) (fun u => ?_) (fun u => ?_)
    · have := hqu u; rw [if_neg (fun a => hde a.2.symm)] at this; omega
    · rw [hin u, if_neg (fun a => hde a.2.symm), Nat.add_zero]

/-- A WAITING door that loses its entry has no work in its new state. -/
theorem State.WorkAt.leave {s : State} {d e : DoorNo} (hl : s.WorkAt d) (h : (s.door e).state = .waiting)
    {st : DoorState} (hst : st.plain = true) : ((s.dropEntry e).setState e st).WorkAt d := by
  have htr : (((s.dropEntry e).setState e st).door d).trunk = (s.door d).trunk :=
    State.doorTrunk_setState (s.dropEntry e) e st d
  have hq : ∀ u, ((s.dropEntry e).setState e st).entriesOf u d =
      if u = (s.door e).trunk ∧ d = e then 0 else s.entriesOf u d := fun u => by
    rw [State.entriesOf_eq, State.trunk_setState, State.queue_dropEntry]
    by_cases hu : u = (s.door e).trunk
    · rw [if_pos hu, entriesIn_withoutDoor]; simp [hu]; rfl
    · simp [hu]; rfl
  have hi : ∀ u, ((s.dropEntry e).setState e st).recordsOf u d = s.recordsOf u d := fun u => by
    rw [State.recordsOf_eq, State.trunk_setState, State.inFlight_dropEntry]; rfl
  by_cases hde : d = e
  · subst hde
    refine .of_idle (by rw [State.state_setState]; exact DoorState.busy_of_plain hst) (fun u => ?_)
    rw [hq, hi, (hl.waiting h u).1, (hl.waiting h u).2]
    refine ⟨?_, rfl⟩
    by_cases hu : u = (s.door d).trunk
    · simp [hu]
    · simp [hu, Ne.symm hu]
  · refine hl.congr htr (by rw [State.door_setState_ne hde]; rfl) (fun u => ?_) hi
    rw [hq, if_neg (fun a => hde a.2)]

/-- An ACTING door that loses its record has no work in its new state. -/
theorem State.WorkAt.driveOver {s : State} {d e : DoorNo} (hl : s.WorkAt d)
    (h : (s.door e).state = .acting ∨ s.record e ≠ none) {f : Door → Door} (hf : ∀ x, (f x).core = x.core)
    {st : DoorState} (hst : st.plain = true) : (((s.dropRecord e).updDoor e f).setState e st).WorkAt d := by
  have hft : ∀ x, (f x).trunk = x.trunk := fun x => by have := congrArg Door.trunk (hf x); exact this
  have htr : ((((s.dropRecord e).updDoor e f).setState e st).door d).trunk = (s.door d).trunk :=
    (State.doorTrunk_setState _ e st d).trans (State.doorTrunk_updDoor (s.dropRecord e) e hft d)
  have hq : ∀ u, (((s.dropRecord e).updDoor e f).setState e st).entriesOf u d = s.entriesOf u d := fun u => by
    rw [State.entriesOf_eq, State.trunk_setState, State.trunk_updDoor, State.queue_dropRecord]; rfl
  have hi : ∀ u, (((s.dropRecord e).updDoor e f).setState e st).recordsOf u d =
      if u = (s.door e).trunk ∧ d = e then 0 else s.recordsOf u d := fun u => by
    rw [State.recordsOf_eq, State.trunk_setState, State.trunk_updDoor, State.inFlight_dropRecord]
    by_cases hu : u = (s.door e).trunk
    · rw [if_pos hu, recordsIn_dropped]; simp [hu]; rfl
    · simp [hu]; rfl
  by_cases hde : d = e
  · subst hde
    have ha := hl.acting (hl.acting_of_record h)
    refine .of_idle (by rw [State.state_setState]; exact DoorState.busy_of_plain hst) (fun u => ?_)
    rw [hq, hi, (ha u).1, (ha u).2]
    refine ⟨rfl, ?_⟩
    by_cases hu : u = (s.door d).trunk
    · simp [hu]
    · simp [hu, Ne.symm hu]
  · refine hl.congr htr (by rw [State.door_setState_ne hde]; simp [hde]) hq (fun u => ?_)
    rw [hi, if_neg (fun a => hde a.2)]

/-- An ACTING door whose record goes back to the queue waits with its entry alone. -/
theorem State.WorkAt.back {s : State} {d e : DoorNo} (hl : s.WorkAt d)
    (h : (s.door e).state = .acting ∨ s.record e ≠ none) {f : Door → Door} (hf : ∀ x, (f x).core = x.core)
    (dir : Direction) (c : QueueClass) (b : Option (List (DoorNo × QueueClass))) :
    (State.setState e .waiting (((s.dropRecord e).updDoor e f).updTrunk (s.door e).trunk
      (fun x => { x with queue := rejoined b ⟨e, dir, c⟩ x.queue }))).WorkAt d := by
  have hft : ∀ x, (f x).trunk = x.trunk := fun x => by have := congrArg Door.trunk (hf x); exact this
  have htr : ((State.setState e .waiting (((s.dropRecord e).updDoor e f).updTrunk (s.door e).trunk
      (fun x => { x with queue := rejoined b ⟨e, dir, c⟩ x.queue }))).door d).trunk = (s.door d).trunk :=
    (State.doorTrunk_setState _ _ _ d).trans (State.doorTrunk_updDoor (s.dropRecord e) e hft d)
  have hq : ∀ u, (State.setState e .waiting (((s.dropRecord e).updDoor e f).updTrunk (s.door e).trunk
      (fun x => { x with queue := rejoined b ⟨e, dir, c⟩ x.queue }))).entriesOf u d =
      (if (s.door e).trunk = u ∧ e = d then 1 else 0) + s.entriesOf u d := fun u => by
    rw [State.entriesOf_eq, State.trunk_setState, State.trunk_updTrunk, State.trunk_updDoor, State.trunk_updDoor]
    by_cases hu : u = (s.door e).trunk
    · subst hu
      simp [entriesIn_perm (rejoined_perm _ _ _), State.queue_dropRecord, State.entriesOf_eq]
    · simp [hu, Ne.symm hu, State.queue_dropRecord, State.entriesOf_eq]
  have hi : ∀ u, (State.setState e .waiting (((s.dropRecord e).updDoor e f).updTrunk (s.door e).trunk
      (fun x => { x with queue := rejoined b ⟨e, dir, c⟩ x.queue }))).recordsOf u d =
      if u = (s.door e).trunk ∧ d = e then 0 else s.recordsOf u d := fun u => by
    rw [State.recordsOf_eq, State.trunk_setState, State.trunk_updTrunk, State.trunk_updDoor, State.trunk_updDoor]
    by_cases hu : u = (s.door e).trunk
    · subst hu
      simp [State.inFlight_dropRecord, recordsIn_dropped, State.recordsOf_eq]
    · simp [hu, State.inFlight_dropRecord, State.recordsOf_eq]
  by_cases hde : d = e
  · subst hde
    have ha := hl.acting (hl.acting_of_record h)
    refine .of_waiting (State.state_setState _ _ _) (fun u => ?_)
    rw [hq, hi, htr, (ha u).1, (ha u).2]
    refine ⟨by simp, ?_⟩
    by_cases hu : u = (s.door d).trunk
    · simp [hu]
    · simp [hu, Ne.symm hu]
  · refine hl.congr htr (by rw [State.door_setState_ne hde]; simp [hde]) (fun u => ?_) (fun u => ?_)
    · rw [hq, if_neg (fun a => hde a.2.symm), Nat.zero_add]
    · rw [hi, if_neg (fun a => hde a.2)]

theorem Prim.workAt {A : Touch} {s s' : State} (h : Prim A s s') {d : DoorNo} (hl : s.WorkAt d) : s'.WorkAt d := by
  have htr : (s'.door d).trunk = (s.door d).trunk := h.work.doorTrunk_eq d
  have state_of_core : ∀ {x y : Door}, x.core = y.core → x.state = y.state :=
    fun h => by have := congrArg Door.state h; exact this
  have state_of_untimed : ∀ {x y : Door}, x.untimed = y.untimed → x.state = y.state :=
    fun h => by have := congrArg Door.state h; exact this
  cases h with
  | @door e he f hf =>
    refine hl.congr htr ?_ (fun _ => rfl) (fun _ => rfl)
    rw [State.door_updDoor]
    split
    · rename_i hde; subst hde; exact state_of_core (hf _)
    · rfl
  | doors hf he =>
    refine hl.congr htr ?_ (fun _ => rfl) (fun _ => rfl)
    rw [State.door_mapDoors]; exact state_of_core (hf _)
  | @timer e he f hf ht hn =>
    refine hl.congr htr ?_ (fun _ => rfl) (fun _ => rfl)
    rw [State.door_updDoor]
    split
    · rename_i hde; subst hde; exact state_of_untimed (hf _)
    · rfl
  | derive | load | zone | counts | sweep | raise => exact hl
  | @warn m e hc =>
    refine hl.congr rfl rfl (fun u => ?_) (fun u => ?_)
    all_goals
      simp only [State.entriesOf, State.recordsOf, State.placeWarn, State.trunk_updTrunk]
      split
      · rename_i hu; subst hu; rfl
      · rfl
  | @change e he st h hst =>
    by_cases hde : d = e
    · subst hde
      exact .of_idle (by rw [State.door_updDoor, if_pos rfl]; exact DoorState.busy_of_plain hst) (hl.idle h)
    · exact hl.congr htr (by rw [State.door_updDoor, if_neg hde]) (fun _ => rfl) (fun _ => rfl)
  | @pass e he h n hn =>
    have hq : ∀ u, ((s.changeState e .passage).updDoor e (fun x => { x with passage := some (.start n) })).entriesOf u d
        = s.entriesOf u d := fun u => by simp [State.entriesOf]
    have hi : ∀ u, ((s.changeState e .passage).updDoor e (fun x => { x with passage := some (.start n) })).recordsOf u d
        = s.recordsOf u d := fun u => by simp [State.recordsOf]
    by_cases hde : d = e
    · subst hde
      refine .of_idle (by simp; rfl) (fun u => ?_)
      rw [hq, hi]
      exact hl.idle (by rw [h]; rfl) u
    · refine hl.congr htr ?_ hq hi
      rw [State.door_updDoor, if_neg hde, State.door_changeState_ne _ _ _ hde]
  | @add e he dir c hb h => exact hl.add h dir c
  | @turn e he dir c hb => exact hl.turn e dir c
  | @record e he f g =>
    refine hl.congr rfl rfl (fun u => ?_) (fun u => ?_)
    · simp only [State.entriesOf_eq, State.trunk_updTrunk]
      split
      · rename_i hu; subst hu; rfl
      · rfl
    · simp only [State.recordsOf_eq, State.trunk_updTrunk]
      split
      · rename_i hu; subst hu; exact recordsIn_updRecord _ _ _ _ _
      · rfl
  | @grant t e q hq hg => exact hl.grant hq
  | @leave e he st h hst => exact hl.leave h hst
  | @driveOver e he f hf st h hst => exact hl.driveOver h hf hst
  | @back e he f hf dir c b h hb => exact hl.back h hf dir c b
theorem Moves.workAt {A : Touch} {s s' : State} (h : Moves A s s') {d : DoorNo} (hl : s.WorkAt d) : s'.WorkAt d := by
  induction h with
  | refl => exact hl
  | tail _ h ih => exact h.workAt ih

theorem Moves.workLaw {A : Touch} {s s' : State} (h : Moves A s s') (hl : s.WorkLaw) : s'.WorkLaw :=
  fun d => h.workAt (hl d)

end Sys2Proof.Machine


namespace Sys2Proof.Machine

/-! ### What a zone's state is derived from (R48) -/

/-- What the derivation of a zone's state reads of a door: whether it is a configured door of the zone, its fire flag and
its state. -/
def Door.seenFrom (z : ZoneNo) (x : Door) : Option (Bool × DoorState) :=
  if x.configured && x.zone == z then some (x.fire, x.state) else none

/-- What the derivation of a zone's state reads of a slot: the state that a sweep of the zone in it gives. -/
def slotSeenFrom (z : ZoneNo) (o : Option Sweep) : Option ZoneState :=
  (o.filter (fun w => w.zone == z)).map Sweep.zoneState

/-- The zone state that the states of the zone's doors alone give (R48 cases 3 to 7). -/
def statesSeen (l : List DoorState) : ZoneState :=
  if l.isEmpty then .opened
  else if l.any (· == .unknown) then .unknown
  else if l.all (fun st => st.matchesDir .lock) then .secured
  else if l.all (fun st => st.matchesDir .release) then .opened
  else .partly

/-- The zone state by what is read of the doors and of the slots. -/
def stateSeen (alarm : Bool) (doors : List (Bool × DoorState)) (sweep : Option ZoneState) : ZoneState :=
  if alarm && doors.any Prod.fst then .fire else sweep.getD (statesSeen (doors.map Prod.snd))

section
variable {z : ZoneNo} {x : Door} {w : Sweep}

theorem Door.seenFrom_of_mine (h : (x.configured && x.zone == z) = true) : x.seenFrom z = some (x.fire, x.state) := if_pos h

/-- A door is seen from its own zone alone, and only while it is configured. -/
theorem Door.seenFrom_eq_none (h : x.configured = true → x.zone ≠ z) : x.seenFrom z = none := if_neg (by simpa using h)

theorem slotSeenFrom_none : slotSeenFrom z none = none := rfl

theorem slotSeenFrom_of_zone (h : w.zone = z) : slotSeenFrom z (some w) = some w.zoneState := by
  show ((some w).filter _).map _ = _
  simp [Option.filter, h]

theorem slotSeenFrom_of_ne (h : w.zone ≠ z) : slotSeenFrom z (some w) = none := by
  show ((some w).filter _).map _ = _
  simp [Option.filter, h]

end

theorem State.zoneDoors_seen (s : State) (z : ZoneNo) :
    (s.zoneDoors z).map (fun x => (x.fire, x.state)) = s.doors.toList.filterMap (Door.seenFrom z) := by
  unfold State.zoneDoors
  induction s.doors.toList with
  | nil => rfl
  | cons x l ih =>
    by_cases h : (x.configured && x.zone == z) = true
    · rw [List.filterMap_cons_some (Door.seenFrom_of_mine h), ← ih, List.filter_cons, if_pos h, List.map_cons]
    · rw [List.filterMap_cons_none (Door.seenFrom_eq_none (by simpa using h)), ← ih, List.filter_cons, if_neg h]

theorem State.sweepOf_seen (s : State) (z : ZoneNo) :
    (s.sweepOf z).map (fun e => e.2.zoneState) = (List.finRange 8).findSome? (fun k => slotSeenFrom z (s.slot k)) := by
  unfold State.sweepOf State.sweeps
  induction List.finRange 8 with
  | nil => rfl
  | cons k l ih =>
    cases hk : s.slot k with
    | none =>
      have hs : slotSeenFrom z (s.slot k) = none := by rw [hk]; rfl
      rw [List.filterMap_cons_none (by rw [hk]; rfl), ih, List.findSome?_cons, hs]
    | some w =>
      rw [List.filterMap_cons_some (b := (k, w)) (by rw [hk]; rfl), List.findSome?_cons]
      by_cases hz : w.zone = z
      · have hs : slotSeenFrom z (s.slot k) = some w.zoneState := by rw [hk, slotSeenFrom_of_zone hz]
        rw [hs, List.find?_cons_of_pos (by simp [hz])]
        rfl
      · have hs : slotSeenFrom z (s.slot k) = none := by rw [hk, slotSeenFrom_of_ne hz]
        rw [hs, List.find?_cons_of_neg (by simp [hz]), ih]

/-- The derived state is a function of what it reads of the doors and slots. -/
theorem State.deriveZone_eq_stateSeen (s : State) (z : ZoneNo) :
    s.deriveZone z = stateSeen (!(s.fire == .normal)) (s.doors.toList.filterMap (Door.seenFrom z))
      ((List.finRange 8).findSome? (fun k => slotSeenFrom z (s.slot k))) := by
  rw [← State.zoneDoors_seen, ← State.sweepOf_seen]
  have hdoors : ∀ l : List Door, statesSeen ((l.map (fun x => (x.fire, x.state))).map Prod.snd) = doorsZoneState l := by
    intro l
    show ite _ _ _ = _
    simp [doorsZoneState, Function.comp_def]
  have halarm : ((s.zoneDoors z).map (fun x => (x.fire, x.state))).any Prod.fst = s.isFireZone z := by
    simp [State.isFireZone, Function.comp_def]
  show _ = ite _ _ _
  rw [hdoors, halarm]
  unfold State.deriveZone State.fireBarred
  split
  · rfl
  · cases s.sweepOf z <;> rfl

/-- The second state differs from the first in nothing that a zone's state is derived from, nor in the zone's state. -/
structure State.SameSight (s s' : State) (z : ZoneNo) : Prop where
  fire : s'.fire = s.fire
  door : ∀ d, (s'.door d).seenFrom z = (s.door d).seenFrom z
  slot : ∀ k, slotSeenFrom z (s'.slot k) = slotSeenFrom z (s.slot k)
  state : (s'.zone z).state = (s.zone z).state

theorem State.deriveZone_congr {s s' : State} {z : ZoneNo} (hf : s'.fire = s.fire)
    (hd : ∀ d, (s'.door d).seenFrom z = (s.door d).seenFrom z)
    (hk : ∀ k, slotSeenFrom z (s'.slot k) = slotSeenFrom z (s.slot k)) : s'.deriveZone z = s.deriveZone z := by
  have hdoors : s'.doors.toList.filterMap (Door.seenFrom z) = s.doors.toList.filterMap (Door.seenFrom z) := by
    have hm : s'.doors.toList.map (Door.seenFrom z) = s.doors.toList.map (Door.seenFrom z) :=
      List.ext_getElem (by simp) fun i hi _ => by
        have h := hd ⟨i, by simpa using hi⟩
        simpa [State.door] using h
    have : ∀ l : List Door, l.filterMap (Door.seenFrom z) = (l.map (Door.seenFrom z)).filterMap id := by
      intro l; rw [List.filterMap_map]; rfl
    rw [this, this, hm]
  rw [State.deriveZone_eq_stateSeen, State.deriveZone_eq_stateSeen, hf, hdoors]
  simp only [hk]

theorem State.SameSight.derive {s s' : State} {z : ZoneNo} (h : s.SameSight s' z) : s'.deriveZone z = s.deriveZone z :=
  State.deriveZone_congr h.fire h.door h.slot

theorem State.SameSight.trans {s s' s'' : State} {z : ZoneNo} (h : s.SameSight s' z) (g : s'.SameSight s'' z) :
    s.SameSight s'' z where
  fire := g.fire.trans h.fire
  door d := (g.door d).trans (h.door d)
  slot k := (g.slot k).trans (h.slot k)
  state := g.state.trans h.state

theorem State.SameSight.refl (s : State) (z : ZoneNo) : s.SameSight s z := ⟨rfl, fun _ => rfl, fun _ => rfl, rfl⟩

@[simp] theorem State.deriveZone_rederive (s : State) (z y : ZoneNo) : (s.rederive z).deriveZone y = s.deriveZone y :=
  State.deriveZone_congr rfl (fun _ => rfl) (fun _ => rfl)

end Sys2Proof.Machine


namespace Sys2Proof.Machine

/-! ### What the parts of a cancel and the loads write (R78, R79) -/

/-- What no round of a walk writes, the walk does not write. -/
theorem forEach_same {α β : Type} {g : State → β} {f : α → State → State} (l : List α)
    (h : ∀ a s, g (f a s) = g s) (s : State) : g (forEach l f s) = g s := by
  induction l generalizing s with
  | nil => rfl
  | cons a l ih => exact (ih (f a s)).trans (h a s)

/-- A load of a zone's group is a walk over the zones that writes plans. -/
theorem State.loadUnder_same {β : Type} {g : State → β} (h : ∀ z s, g (State.updZone s z Zone.load) = g s)
    (r : LoadRule) (z : ZoneNo) (s : State) : g (s.loadUnder r z) = g s := by
  unfold State.loadUnder
  split
  · refine forEach_same _ (fun y s => ?_) s
    split
    · exact h y s
    · rfl
  · rfl

@[simp] theorem State.slots_loadUnder (r : LoadRule) (z : ZoneNo) (s : State) : (s.loadUnder r z).slots = s.slots :=
  State.loadUnder_same (g := State.slots) (fun _ _ => rfl) r z s

@[simp] theorem State.slot_loadUnder (r : LoadRule) (z : ZoneNo) (s : State) (k : SlotNo) :
    (s.loadUnder r z).slot k = s.slot k := by simp [State.slot]

@[simp] theorem State.slot_closeSweep (k j : SlotNo) (w : Sweep) (c : Bool) (s : State) :
    (s.closeSweep k w c).slot j = if j = k then none else s.slot j := by
  simp [State.closeSweep]

/-- What a cancel does with the doors of its sweep before the sweep is closed (R77, R78). -/
def State.stopSweep (k : SlotNo) (w : Sweep) (s : State) : State :=
  match w.phase with
  | .warning _ => s.placeWarns w.zone 0
  | .active => forEach (s.linkedDoors k) State.cancelDoor (s.unlinkAll k)

theorem State.stopSweep_warning {k : SlotNo} {w : Sweep} {c : Countdown} (h : w.phase = .warning c) (s : State) :
    s.stopSweep k w = s.placeWarns w.zone 0 := by
  obtain ⟨z, dir, o, p, n, m⟩ := w
  cases h
  rfl

theorem State.stopSweep_active {k : SlotNo} {w : Sweep} (h : w.phase = .active) (s : State) :
    s.stopSweep k w = forEach (s.linkedDoors k) State.cancelDoor (s.unlinkAll k) := by
  obtain ⟨z, dir, o, p, n, m⟩ := w
  cases h
  rfl

theorem State.cancelSweep_eq {k : SlotNo} {w : Sweep} {s : State} (h : s.slot k = some w) :
    s.cancelSweep k = State.loadUnder .afterSweep w.zone ((s.stopSweep k w).closeSweep k w true) := by
  simp only [State.cancelSweep, h]
  rfl

theorem State.cancelSweep_free {k : SlotNo} {s : State} (h : s.slot k = none) : s.cancelSweep k = s := by
  simp only [State.cancelSweep, h]

/-- The slot of a cancelled sweep is free. -/
theorem State.slot_cancelSweep (s : State) (k : SlotNo) : (s.cancelSweep k).slot k = none := by
  cases h : s.slot k with
  | none => rw [State.cancelSweep_free h, h]
  | some w => simp [State.cancelSweep_eq h]

/-- An operation that may touch doors' records, and no slot's sweep and no zone's marker. -/
def Touch.doors : Touch := ⟨fun _ => True, fun _ => False, fun _ => False⟩

/-- A slot outside the reach keeps its sweep, but for the counts. -/
theorem Moves.slot_outside {A : Touch} {s s' : State} (h : Moves A s s') {k : SlotNo} (hk : ¬ A.slot k) :
    ∃ g : Counts → Counts, s'.slot k = (s.slot k).map (fun w => { w with counts := g w.counts }) := by
  induction h with
  | refl => exact ⟨id, by simp⟩
  | tail _ hp ih =>
    obtain ⟨g, hg⟩ := ih
    rcases hp.slot k with ⟨f, hf⟩ | ⟨hs, -⟩
    · exact ⟨fun c => f (g c), by rw [hf, hg, Option.map_map]; rfl⟩
    · exact absurd hs hk

theorem Moves.cancelDoor {A : Touch} {s : State} {e : DoorNo × Count} (hd : A.door e.1) : Moves A s (s.cancelDoor e) := by
  unfold State.cancelDoor
  dsimp only
  split
  · exact Moves.refl s
  · split
    · exact Moves.withdrawEntry hd ‹_›
    · exact (Moves.changeState hd (by simp [*, DoorState.busy]) rfl).trans (Moves.door hd (by intros; rfl))
    all_goals exact Moves.door hd (by intros; rfl)

/-- A cancel's part before the close touches the doors that the sweep linked. -/
theorem Moves.stopSweep {A : Touch} {s : State} {k : SlotNo} {w : Sweep}
    (h : ∀ d, (s.door d).linkedTo k = true → A.door d) : Moves A s (s.stopSweep k w) := by
  cases hp : w.phase with
  | warning c => rw [State.stopSweep_warning hp]; exact Moves.placeWarns _ _
  | active =>
    rw [State.stopSweep_active hp]
    refine (Moves.unlinkAll h).trans (Moves.forEach _ fun e he q => Moves.cancelDoor (h e.1 ?_))
    obtain ⟨d, hd, l, hl, rfl⟩ : ∃ d ∈ s.inRankOrder (s.doorsWhere fun _ x => x.linkedTo k),
        ∃ l, (s.door d).sweep = some l ∧ (d, l.count) = e := by
      simpa [State.linkedDoors] using he
    simp only [State.inRankOrder, mem_sortByKey, State.mem_doorsWhere] at hd
    exact hd.2

/-- The sweep that a cancel stops still stands in its slot, but for the counts. -/
theorem State.slot_stopSweep (s : State) (k : SlotNo) (w : Sweep) (j : SlotNo) :
    ∃ g : Counts → Counts, (s.stopSweep k w).slot j = (s.slot j).map (fun v => { v with counts := g v.counts }) :=
  Moves.slot_outside (A := Touch.doors) (Moves.stopSweep fun _ _ => trivial) id

/-! ### What keeps every zone's state derived (R49) -/

/-- Every zone but those of `E` shows its derived state. An operation that has changed what some zones are derived from
and has not come to their re-derivation leaves the law of zones so. -/
def State.DerivedBut (E : ZoneNo → Prop) (s : State) : Prop := ∀ z, ¬ E z → (s.zone z).state = s.deriveZone z

theorem State.zoneLaw_iff_derivedBut (s : State) : s.ZoneLaw ↔ s.DerivedBut (fun _ => False) :=
  ⟨fun h z _ => h z, fun h z => h z id⟩

/-- The re-derivation of a zone takes it out of the exceptions. -/
theorem State.DerivedBut.rederive {E F : ZoneNo → Prop} {s : State} (h : s.DerivedBut F) {z : ZoneNo}
    (hF : ∀ y, F y → E y ∨ y = z) : (s.rederive z).DerivedBut E := by
  intro y hy
  rw [State.deriveZone_rederive, State.zone_rederive]
  by_cases hyz : y = z
  · simp [hyz]
  · simp only [hyz, if_false]
    exact h y fun hf => (hF y hf).elim hy hyz

/-- After the re-derivation of every zone no exception is left. -/
theorem State.derivedBut_rederiveAll (E : ZoneNo → Prop) (s : State) : s.rederiveAll.DerivedBut E := by
  have h : ∀ (l : List ZoneNo) (s : State), s.DerivedBut (fun y => y ∈ l) →
      (forEach l State.rederive s).DerivedBut (fun _ => False) := by
    intro l
    induction l with
    | nil => intro s h z _; exact h z (by simp)
    | cons z l ih =>
      intro s h
      exact ih _ (h.rederive fun y hy => (List.mem_cons.mp hy).symm.imp id id)
  exact fun z _ => h _ s (fun z hz => absurd (List.mem_finRange z) hz) z id

/-- The operation leaves every zone derived that it finds derived. -/
def KeepsDerived (s s' : State) : Prop := ∀ E, s.DerivedBut E → s'.DerivedBut E

namespace KeepsDerived

variable {s s' s'' : State}

theorem refl (s : State) : KeepsDerived s s := fun _ h => h

theorem trans (h : KeepsDerived s s') (g : KeepsDerived s' s'') : KeepsDerived s s'' := fun E hE => g E (h E hE)

theorem zoneLaw (h : KeepsDerived s s') (hl : s.ZoneLaw) : s'.ZoneLaw :=
  (State.zoneLaw_iff_derivedBut s').mpr (h _ ((State.zoneLaw_iff_derivedBut s).mp hl))

theorem of_sight (h : ∀ z, s.SameSight s' z) : KeepsDerived s s' := by
  intro E hE z hz
  rw [(h z).state, (h z).derive, hE z hz]

/-- What changes one zone's sight alone, and is followed by a re-derivation of that zone. -/
theorem around (z : ZoneNo) (h : ∀ y, y ≠ z → s.SameSight s' y) (g : KeepsDerived s' s'') :
    KeepsDerived s (s''.rederive z) := by
  intro E hE
  refine State.DerivedBut.rederive (F := fun y => E y ∨ y = z) (g _ ?_) (fun _ => id)
  intro y hy
  obtain ⟨hyE, hyz⟩ := not_or.mp hy
  rw [(h y hyz).state, (h y hyz).derive, hE y hyE]

theorem forEach {α : Type} {f : α → State → State} (l : List α) (hf : ∀ a s, KeepsDerived s (f a s)) :
    KeepsDerived s (Machine.forEach l f s) := by
  induction l generalizing s with
  | nil => exact refl s
  | cons a l ih => exact (hf a s).trans ih

/-! ### The writes -/

theorem updDoor {f : Door → Door} (d : DoorNo)
    (hf : ∀ x z, (f x).seenFrom z = x.seenFrom z) : KeepsDerived s (s.updDoor d f) :=
  of_sight fun z => ⟨rfl, fun e => by
    rw [State.door_updDoor]
    split
    · rename_i h; rw [hf, h]
    · rfl, fun _ => rfl, rfl⟩

theorem mapDoors {f : Door → Door} (hf : ∀ x z, (f x).seenFrom z = x.seenFrom z) :
    KeepsDerived s { s with doors := mapAll f s.doors } :=
  of_sight fun z => ⟨rfl, fun e => by rw [State.door_mapDoors, hf], fun _ => rfl, rfl⟩

theorem updZone {f : Zone → Zone} (z : ZoneNo) (hf : ∀ x, (f x).state = x.state) :
    KeepsDerived s (s.updZone z f) :=
  of_sight fun y => ⟨rfl, fun _ => rfl, fun _ => rfl, by
    rw [State.zone_updZone]
    split
    · rename_i h; rw [hf, h]
    · rfl⟩

theorem updSlot {f : Sweep → Sweep} (k : SlotNo) (hz : ∀ w, (f w).zone = w.zone)
    (hs : ∀ w, (f w).zoneState = w.zoneState) : KeepsDerived s (s.updSlot k f) :=
  of_sight fun z => ⟨rfl, fun _ => rfl, fun j => by
    rw [State.slot_updSlot]
    split
    · rename_i h
      subst h
      cases hw : s.slot j with
      | none => rfl
      | some w =>
      rw [Option.map_some]
      by_cases hwz : w.zone = z
      · rw [slotSeenFrom_of_zone hwz, slotSeenFrom_of_zone ((hz w).trans hwz), hs]
      · rw [slotSeenFrom_of_ne hwz, slotSeenFrom_of_ne (by rwa [hz])]
    · rfl, rfl⟩

theorem updTrunk (t : Trunk) (f : TrunkState → TrunkState) : KeepsDerived s (s.updTrunk t f) :=
  of_sight fun _ => ⟨rfl, fun _ => rfl, fun _ => rfl, rfl⟩

theorem updInput (i : InputNo) (f : Input → Input) : KeepsDerived s (s.updInput i f) :=
  of_sight fun _ => ⟨rfl, fun _ => rfl, fun _ => rfl, rfl⟩

theorem raise (k : NoticeKind) (u : Subject) (v : Detail) : KeepsDerived s (s.raise k u v) :=
  of_sight fun _ => ⟨rfl, fun _ => rfl, fun _ => rfl, rfl⟩

theorem raiseDoor (k : NoticeKind) (d : DoorNo) : KeepsDerived s (s.raiseDoor k d) := raise _ _ _

theorem secondRuns : KeepsDerived s s.secondRuns := of_sight fun _ => ⟨rfl, fun _ => rfl, fun _ => rfl, rfl⟩

/-- Only the zone of a slot's sweep sees the slot written. -/
theorem sameSight_setSlot {s : State} {k : SlotNo} {x : Option Sweep} {z y : ZoneNo}
    (hs : ∀ w ∈ s.slot k, w.zone = z) (hx : ∀ w ∈ x, w.zone = z) (hy : y ≠ z) : s.SameSight (s.setSlot k x) y := by
  have hunseen : ∀ o : Option Sweep, (∀ w ∈ o, w.zone = z) → slotSeenFrom y o = none := by
    intro o ho
    cases o with
    | none => rfl
    | some w => exact slotSeenFrom_of_ne (by rw [ho w rfl]; exact hy.symm)
  refine ⟨rfl, fun _ => rfl, fun j => ?_, rfl⟩
  rw [State.slot_setSlot]
  split
  · rename_i h; rw [h, hunseen _ hx, hunseen _ hs]
  · rfl

/-! ### Zones -/

theorem rederive (z : ZoneNo) : KeepsDerived s (s.rederive z) := around z (fun _ _ => .refl s _) (refl s)

theorem rederiveAll : KeepsDerived s s.rederiveAll := forEach _ (fun z _ => rederive z)

theorem groupLoad (l : ZoneNo) : KeepsDerived s (s.groupLoad l) := by
  refine forEach _ (fun z s => ?_)
  split
  · refine updZone z (f := Zone.load) (fun x => ?_)
    unfold Zone.load
    split <;> rfl
  · exact refl _

theorem loadUnder (r : LoadRule) (z : ZoneNo) : KeepsDerived s (s.loadUnder r z) := by
  unfold State.loadUnder
  split
  · exact groupLoad z
  · exact refl _

/-! ### Changes of state -/

theorem moveCount (d : DoorNo) (c : Count) : KeepsDerived s (s.moveCount d c) := by
  unfold State.moveCount
  split
  · exact refl _
  · exact (updSlot _ (by intros; rfl) (by intros; rfl)).trans (updDoor d (by intros; rfl))

theorem handOffCount (d : DoorNo) (f : Direction → Count → Option Count) : KeepsDerived s (s.handOffCount d f) := by
  unfold State.handOffCount
  split
  · exact refl _
  · split
    · exact refl _
    · exact moveCount d _

theorem changeState (d : DoorNo) (st : DoorState) : KeepsDerived s (s.changeState d st) := by
  unfold State.changeState
  split
  · exact refl _
  · refine around _ (s' := s.updDoor d (Door.enter st)) (fun y hy => ⟨rfl, fun e => ?_, fun _ => rfl, rfl⟩)
      (handOffCount d _)
    rw [State.door_updDoor]
    split
    · rename_i h
      subst h
      have hnew : (Door.enter st (s.door e)).seenFrom y = none := Door.seenFrom_eq_none fun _ => hy.symm
      rw [hnew, Door.seenFrom_eq_none fun _ => hy.symm]
    · rfl

/-! ### The arbiter -/

theorem grant (t : Trunk) (e : Entry) : KeepsDerived s (s.grant t e) :=
  ((updTrunk t _).trans (changeState _ _)).trans (updTrunk t _)

theorem grantLoop (n : Nat) (t : Trunk) : KeepsDerived s (State.grantLoop n t s) := by
  induction n generalizing s with
  | zero => exact refl s
  | succ n ih =>
    unfold State.grantLoop
    split
    · exact refl s
    · split
      · exact (grant t _).trans ih
      · exact refl s

theorem consider (t : Trunk) : KeepsDerived s (s.consider t) := grantLoop _ t

theorem considerAll : KeepsDerived s s.considerAll := forEach _ (fun t _ => consider t)

theorem considerUnless (w : Bool) (t : Trunk) : KeepsDerived s (s.considerUnless w t) := by
  unfold State.considerUnless
  split
  · exact refl _
  · exact consider t

theorem considerDoor (d : DoorNo) : KeepsDerived s (s.considerDoor d) := consider _

/-! ### Placement -/

theorem addEntry (d : DoorNo) (dir : Direction) (c : QueueClass) : KeepsDerived s (s.addEntry d dir c) :=
  ((updTrunk _ _).trans (updDoor d (by intros; rfl))).trans (changeState d _)

theorem replacePlacement (d : DoorNo) (dir : Direction) (c : QueueClass) : KeepsDerived s (s.replacePlacement d dir c) :=
  (updTrunk _ _).trans (updDoor d (by intros; rfl))

theorem raiseRecord (d : DoorNo) (dir : Direction) (c : QueueClass) : KeepsDerived s (s.raiseRecord d dir c) := updTrunk _ _

theorem place (w : Bool) (d : DoorNo) (dir : Direction) (c : QueueClass) : KeepsDerived s (s.place w d dir c) := by
  unfold State.place
  split
  · exact refl _
  · split
    · exact (replacePlacement d dir c).trans (considerUnless w _)
    · exact raiseRecord d dir c
    all_goals exact (addEntry d dir c).trans (considerUnless w _)

theorem placeLock (d : DoorNo) : KeepsDerived s (s.placeLock d) := place _ _ _ _

theorem placeRelease (d : DoorNo) : KeepsDerived s (s.placeRelease d) := place _ _ _ _

/-! ### Re-statement, AJAR, restoration, removal -/

theorem restate (d : DoorNo) : KeepsDerived s (s.restate d) := (changeState d _).trans (updDoor d (by intros; rfl))

theorem setReminder (d : DoorNo) : KeepsDerived s (s.setReminder d) := by
  unfold State.setReminder
  exact updDoor d (by intros; rfl)

theorem enterAjar (d : DoorNo) : KeepsDerived s (s.enterAjar d) :=
  ((changeState d _).trans (setReminder d)).trans (raiseDoor _ d)

theorem restoreIntent (d : DoorNo) : KeepsDerived s (s.restoreIntent d) := by
  unfold State.restoreIntent
  split
  · exact placeLock d
  · exact placeRelease d
  · exact refl _

theorem dropEntry (d : DoorNo) : KeepsDerived s (s.dropEntry d) := updTrunk _ _

theorem dropRecord (d : DoorNo) : KeepsDerived s (s.dropRecord d) := updTrunk _ _

/-! ### Sweeps -/

theorem placeWarn (m : Nat) (d : DoorNo) : KeepsDerived s (s.placeWarn m d) := updTrunk _ _

theorem placeWarns (z : ZoneNo) (m : Nat) : KeepsDerived s (s.placeWarns z m) := forEach _ (fun d _ => placeWarn m d)

theorem sweepIntent (dir : Direction) (d : DoorNo) : KeepsDerived s (s.sweepIntent dir d) := by
  unfold State.sweepIntent
  split
  · split
    · exact refl _
    · exact updDoor d (by intros; rfl)
  · exact updDoor d (by intros; rfl)

theorem sweepAct (w : Bool) (dir : Direction) (d : DoorNo) (a : SweepAction) : KeepsDerived s (s.sweepAct w dir d a) := by
  unfold State.sweepAct
  split
  · exact refl _
  · exact place _ _ _ _
  · exact changeState _ _

theorem linkDoor (k : SlotNo) (d : DoorNo) (c : Count) : KeepsDerived s (s.linkDoor k d c) :=
  (updDoor d (by intros; rfl)).trans (updSlot k (by intros; rfl) (by intros; rfl))

theorem walkDoor (k : SlotNo) (dir : Direction) (d : DoorNo) : KeepsDerived s (s.walkDoor k dir d) :=
  ((sweepIntent dir d).trans (linkDoor k d _)).trans (sweepAct _ _ _ _)

theorem enterActive (k : SlotNo) : KeepsDerived s (s.enterActive k) := by
  unfold State.enterActive
  split
  · exact refl _
  · rename_i w hw
    refine (around w.zone (fun y hy => sameSight_setSlot (z := w.zone) ?_ ?_ hy)
      ((forEach _ (fun d _ => walkDoor k _ d)).trans (updSlot k (by intros; rfl) (by intros; rfl)))).trans considerAll
    · intro v hv; rw [hw] at hv; cases hv; rfl
    · intro v hv; cases hv; rfl

/-- A sweep starts in a free slot. -/
theorem startIn {k : SlotNo} (hk : s.slot k = none) (z : ZoneNo) (dir : Direction) (o : Origin) :
    KeepsDerived s (s.startIn k z dir o) := by
  have h : KeepsDerived s (s.updZone z (fun x => { x with marker := none })) := updZone z (by intros; rfl)
  have hq : (s.updZone z (fun x => { x with marker := none })).slot k = none := hk
  unfold State.startIn
  refine trans h ?_
  generalize s.updZone z (fun x => { x with marker := none }) = q at hq ⊢
  have hset : ∀ w : Sweep, w.zone = z → ∀ y, y ≠ z → q.SameSight (q.setSlot k (some w)) y := fun w hw y hy =>
    sameSight_setSlot (by rw [hq]; intro v hv; cases hv) (by intro v hv; cases hv; exact hw) hy
  dsimp only
  split
  · exact around z (hset _ rfl) (placeWarns z _)
  · exact (around z (hset _ rfl) (refl _)).trans (enterActive k)

theorem unlinkAll (k : SlotNo) : KeepsDerived s (s.unlinkAll k) :=
  mapDoors (fun x z => by split <;> rfl)

theorem leaveDoors (k : SlotNo) : KeepsDerived s (s.leaveDoors k) :=
  mapDoors (fun x z => by unfold Door.leaveSweep; split <;> rfl)

/-- The sweep that is closed stands in its slot. -/
theorem closeSweep {k : SlotNo} {w : Sweep} (hk : ∀ v ∈ s.slot k, v.zone = w.zone) (c : Bool) :
    KeepsDerived s (s.closeSweep k w c) := by
  have h : KeepsDerived s (s.updZone w.zone (fun x => { x with last := some w.direction })) := updZone w.zone (by intros; rfl)
  have hq : ∀ v ∈ (s.updZone w.zone (fun x => { x with last := some w.direction })).slot k, v.zone = w.zone := hk
  unfold State.closeSweep
  refine h.trans ?_
  generalize s.updZone w.zone (fun x => { x with last := some w.direction }) = q at hq ⊢
  exact (around w.zone (fun y hy => sameSight_setSlot hq (by intro v hv; cases hv) hy) (refl _)).trans (raise _ _ _)

theorem takeWaiting (l : List ZoneNo) : KeepsDerived s (State.takeWaiting l s).1 := by
  induction l generalizing s with
  | nil => exact refl s
  | cons z l ih =>
    unfold State.takeWaiting
    split
    · exact ih
    · split
      · exact (updZone z (by intros; rfl)).trans ih
      · exact refl s

/-- The choice of a waiting zone writes no slot. -/
theorem slot_takeWaiting (l : List ZoneNo) (s : State) (k : SlotNo) : (State.takeWaiting l s).1.slot k = s.slot k := by
  induction l generalizing s with
  | nil => rfl
  | cons z l ih =>
    unfold State.takeWaiting
    split
    · exact ih s
    · split
      · exact ih _
      · rfl

/-- A sweep's finish, as its slot has it, before the slot is offered. -/
theorem close {k : SlotNo} {w : Sweep} (hw : s.slot k = some w) (c : Bool) :
    KeepsDerived s ((s.leaveDoors k).closeSweep k w c) :=
  (leaveDoors k).trans (closeSweep (fun v hv => by
    have : s.slot k = some v := hv
    rw [hw] at this; cases this; rfl) c)

/-- A free slot is offered. -/
theorem offerLoop (n : Nat) {k : SlotNo} (hk : s.slot k = none) : KeepsDerived s (State.offerLoop n k s) := by
  induction n generalizing s with
  | zero => exact refl s
  | succ n ih =>
    unfold State.offerLoop
    have hw := takeWaiting (s := s) (s.zonesInRankOrder s.waitingZones)
    have hfree := slot_takeWaiting (s.zonesInRankOrder s.waitingZones) s k
    split
    · rename_i s' heq
      rw [heq] at hw
      exact hw
    · rename_i s' z m heq
      rw [heq] at hw hfree
      have hs := hw.trans (startIn (s := s') (hfree.trans hk) z m.direction m.origin)
      dsimp only
      split
      · split
        · exact hs
        · rename_i v hv
          exact ((hs.trans (close hv false)).trans (ih (by simp [State.closeSweep]))).trans (loadUnder _ _)
      · exact hs

theorem offer (k : SlotNo) : KeepsDerived s (s.offer k) := by
  unfold State.offer
  split
  · exact refl _
  · rename_i h
    exact offerLoop _ (by simpa using h)

theorem finish (k : SlotNo) : KeepsDerived s (s.finish k) := by
  unfold State.finish
  split
  · exact refl _
  · rename_i w hw
    exact ((close hw false).trans (offer k)).trans (loadUnder _ _)

theorem finishIfDone (k : SlotNo) : KeepsDerived s (s.finishIfDone k) := by
  unfold State.finishIfDone
  split
  · exact finish k
  · exact refl _

theorem finishOf (d : DoorNo) : KeepsDerived s (s.finishOf d) := by
  unfold State.finishOf
  split
  · exact refl _
  · exact finishIfDone _

theorem startSweep {k : SlotNo} (hk : s.slot k = none) (z : ZoneNo) (dir : Direction) (o : Origin) :
    KeepsDerived s (s.startSweep k z dir o) := (startIn hk z dir o).trans (finishIfDone k)

theorem reclassify (d : DoorNo) : KeepsDerived s (s.reclassify d) := by
  unfold State.reclassify
  split
  · exact refl _
  · split
    · exact (((sweepIntent _ d).trans (moveCount d _)).trans (sweepAct _ _ d _)).trans (finishOf d)
    · exact refl _

theorem moveToHeld (d : DoorNo) : KeepsDerived s (s.moveToHeld d) := by
  unfold State.moveToHeld
  split
  · exact refl _
  · split
    · exact moveCount d _
    · exact refl _

theorem trunkBack (t : Trunk) (l : List DoorNo) : KeepsDerived s (s.trunkBack t l) := by
  refine forEach _ (fun d s => ?_)
  unfold State.reclassifyUnreachable
  split
  · exact refl _
  · split
    · exact reclassify d
    · exact refl _

theorem withdrawEntry (d : DoorNo) : KeepsDerived s (s.withdrawEntry d) :=
  (((dropEntry d).trans (restate d)).trans (updDoor d (by intros; rfl))).trans (considerDoor d)

theorem cancelDoor (e : DoorNo × Count) : KeepsDerived s (s.cancelDoor e) := by
  unfold State.cancelDoor
  dsimp only
  split
  · exact refl _
  · split
    · exact withdrawEntry _
    · exact (changeState _ _).trans (updDoor _ (by intros; rfl))
    all_goals exact updDoor _ (by intros; rfl)

theorem stopSweep (k : SlotNo) (w : Sweep) : KeepsDerived s (s.stopSweep k w) := by
  cases hp : w.phase with
  | warning c => rw [State.stopSweep_warning hp]; exact placeWarns _ _
  | active => rw [State.stopSweep_active hp]; exact (unlinkAll k).trans (forEach _ (fun e _ => cancelDoor e))

theorem cancelSweep (k : SlotNo) : KeepsDerived s (s.cancelSweep k) := by
  cases hw : s.slot k with
  | none => rw [State.cancelSweep_free hw]; exact refl s
  | some w =>
    rw [State.cancelSweep_eq hw]
    refine ((stopSweep k w).trans (closeSweep (fun v hv => ?_) _)).trans (loadUnder _ _)
    obtain ⟨g, hg⟩ := State.slot_stopSweep s k w k
    rw [hw] at hg
    rw [hg] at hv
    cases hv
    rfl

theorem offerSlots (l : List SlotNo) : KeepsDerived s (s.offerSlots l) := forEach _ (fun k _ => offer k)

theorem recordMarker (z : ZoneNo) (dir : Direction) (o : Origin) : KeepsDerived s (s.recordMarker z dir o) :=
  (updZone z (by intros; rfl)).trans (raise _ _ _)

theorem give (z : ZoneNo) (dir : Direction) (o : Origin) : KeepsDerived s (s.give z dir o).1 := by
  unfold State.give
  split
  · exact refl _
  · split
    · split
      · exact refl _
      · rename_i k w hw _
        exact (cancelSweep k).trans (startSweep (State.slot_cancelSweep s k) _ _ _)
    · split
      · rename_i k hk
        exact startSweep (by simpa using List.find?_some hk) _ _ _
      · exact recordMarker z dir o

theorem giveList (o : Origin) (l : List (ZoneNo × Direction)) : KeepsDerived s (State.giveList o l s).1 := by
  induction l generalizing s with
  | nil => exact refl s
  | cons a l ih =>
    obtain ⟨z, dir⟩ := a
    exact (give z dir o).trans ih

theorem giveSet (o : Origin) (l : List (ZoneNo × Direction)) : KeepsDerived s (s.giveSet o l).1 := giveList o _

theorem endWarning (k : SlotNo) : KeepsDerived s (s.endWarning k) := by
  unfold State.endWarning
  split
  · exact refl _
  · split
    · split
      · exact (cancelSweep k).trans (offer k)
      · exact (enterActive k).trans (finishIfDone k)
    · exact refl _

/-! ### Drives -/

theorem rejoin (r : Record) (b : Option (List (DoorNo × QueueClass))) : KeepsDerived s (s.rejoin r b) := by
  unfold State.rejoin
  split
  · exact restate _
  · exact (updTrunk _ _).trans (changeState _ _)

theorem jam (r : Record) : KeepsDerived s (s.jam r) := (changeState _ _).trans (raise _ _ _)

theorem failedAttempt (r : Record) : KeepsDerived s (s.failedAttempt r) := by
  have h : KeepsDerived s (s.updDoor r.door (fun x => { x with attempts := x.attempts + 1 })) := updDoor r.door (by intros; rfl)
  unfold State.failedAttempt
  refine trans h ?_
  generalize s.updDoor r.door (fun x => { x with attempts := x.attempts + 1 }) = q
  dsimp only
  split
  · exact rejoin r none
  · exact jam r

theorem takeOutcome (r : Record) (e : DriveEnd) : KeepsDerived s (s.takeOutcome r e) := by
  unfold State.takeOutcome
  split
  · exact (updDoor _ (by intros; rfl)).trans (changeState _ _)
  · exact enterAjar _
  · exact failedAttempt r
  · exact rejoin r _

theorem intentCheck (d : DoorNo) : KeepsDerived s (s.intentCheck d) := by
  unfold State.intentCheck
  split
  · split
    · exact refl _
    · exact placeLock d
  · split
    · exact refl _
    · exact placeRelease d
  · exact refl _

theorem endReversed (d : DoorNo) : KeepsDerived s (s.endReversed d) :=
  ((updDoor d (by intros; rfl)).trans (restate d)).trans (intentCheck d)

theorem endDrive (r : Record) (e : DriveEnd) : KeepsDerived s (s.endDrive r e) := by
  unfold State.endDrive
  refine trans (dropRecord r.door) ?_
  refine trans ?_ ((finishOf r.door).trans (considerDoor r.door))
  split
  · exact takeOutcome r e
  · exact endReversed r.door

theorem settle (r : Record) : KeepsDerived s (s.settle r) := by
  unfold State.settle
  split
  · exact refl _
  · exact endDrive r _

theorem acceptDrive (r : Record) : KeepsDerived s (s.acceptDrive r) := by
  unfold State.acceptDrive
  dsimp only
  generalize (s.lockClass (s.door r.door).cls).limit * 1000 = n
  have h : KeepsDerived s (s.updTrunk (s.door r.door).trunk (TrunkState.updRecord r.door id (fun _ => .driving n))) :=
    updTrunk _ _
  refine trans h ?_
  generalize s.updTrunk (s.door r.door).trunk (TrunkState.updRecord r.door id (fun _ => .driving n)) = q
  split
  · exact refl _
  · exact settle _

theorem reportToRecord (r : Record) (d a : Bool) : KeepsDerived s (s.reportToRecord r d a) := by
  unfold State.reportToRecord
  split
  · exact settle r
  · split
    · split
      · exact acceptDrive r
      · exact endDrive r _
    · split
      · exact endDrive r _
      · exact refl _

theorem driveFailed (r : Record) : KeepsDerived s (s.driveFailed r) := by
  unfold State.driveFailed
  split
  · exact endDrive r _
  · exact endDrive r _

theorem returnGranted (l : List DoorNo) (b : List (DoorNo × QueueClass)) : KeepsDerived s (State.returnGranted l b s) := by
  induction l generalizing s b with
  | nil => exact refl s
  | cons d l ih =>
    unfold State.returnGranted
    split
    · exact ih _
    · exact (endDrive _ _).trans (ih _)

/-! ### Reports by state -/

theorem wantLockUnlessBlocked (d : DoorNo) : KeepsDerived s (s.wantLockUnlessBlocked d) := by
  unfold State.wantLockUnlessBlocked
  split
  · exact refl _
  · exact updDoor d (by intros; rfl)

theorem classifyUnknown (d : DoorNo) : KeepsDerived s (s.classifyUnknown d) := by
  unfold State.classifyUnknown
  split
  · exact (wantLockUnlessBlocked d).trans (enterAjar d)
  · exact changeState d _

theorem afterClassified (d : DoorNo) : KeepsDerived s (s.afterClassified d) := by
  unfold State.afterClassified
  split
  · exact reclassify d
  · exact (restoreIntent d).trans (finishOf d)

theorem reportUnknown (d : DoorNo) : KeepsDerived s (s.reportUnknown d) := (classifyUnknown d).trans (afterClassified d)

theorem reportReleased (d : DoorNo) : KeepsDerived s (s.reportReleased d) := by
  unfold State.reportReleased
  split
  · exact ((changeState d _).trans (raiseDoor _ d)).trans (finishOf d)
  · exact refl _

theorem openedSecured (d : DoorNo) (rex : Bool) : KeepsDerived s (s.openedSecured d rex) := by
  unfold State.openedSecured
  dsimp only
  split
  · exact ((changeState d _).trans (updDoor d (by intros; rfl))).trans (finishOf d)
  · exact (((wantLockUnlessBlocked d).trans (changeState d _)).trans (raiseDoor _ d)).trans (finishOf d)

theorem reportSecured (d : DoorNo) (rex : Bool) : KeepsDerived s (s.reportSecured d rex) := by
  unfold State.reportSecured
  dsimp only
  split
  · exact openedSecured d rex
  · split
    · exact ((changeState d _).trans (raiseDoor _ d)).trans (finishOf d)
    · split
      · exact updDoor d (by intros; rfl)
      · exact refl _

theorem reportPassage (d : DoorNo) : KeepsDerived s (s.reportPassage d) := by
  unfold State.reportPassage
  dsimp only
  split
  · split
    · exact (changeState d _).trans (finishOf d)
    · split
      · exact (changeState d _).trans (finishOf d)
      · exact ((updDoor d (by intros; rfl)).trans (placeLock d)).trans (finishOf d)
    · exact refl _
    · exact refl _
  · exact refl _

theorem reportAjarForced (d : DoorNo) : KeepsDerived s (s.reportAjarForced d) := by
  unfold State.reportAjarForced
  split
  · split
    · split
      · exact (restate d).trans (finishOf d)
      · exact (placeLock d).trans (finishOf d)
    · refine trans (restate d) ?_
      dsimp only
      split
      · exact finishOf d
      · exact (placeRelease d).trans (finishOf d)
    · exact (restate d).trans (finishOf d)
  · exact refl _

theorem reportWaiting (d : DoorNo) : KeepsDerived s (s.reportWaiting d) := by
  unfold State.reportWaiting
  split
  · exact refl _
  · split
    · exact (((dropEntry d).trans (enterAjar d)).trans (finishOf d)).trans (considerDoor d)
    · exact refl _

theorem reportActing (d : DoorNo) (a b : Bool) : KeepsDerived s (s.reportActing d a b) := by
  unfold State.reportActing
  split
  · exact refl _
  · exact reportToRecord _ _ _

/-! ### DOOR_ACT, holds, inputs -/

theorem reportState (d : DoorNo) (drive : Bool) (rep : Report) : KeepsDerived s (s.reportState d drive rep) := by
  unfold State.reportState
  split
  · exact reportUnknown d
  · exact reportReleased d
  · exact reportSecured d _
  · exact reportPassage d
  · exact reportAjarForced d
  · exact reportAjarForced d
  · exact refl _
  · exact reportWaiting d
  · exact reportActing d _ _

theorem restoreUnreached (d : DoorNo) (x : Door) : KeepsDerived s (s.restoreUnreached d x) := by
  unfold State.restoreUnreached
  split
  · exact restoreIntent d
  · exact refl _

theorem actOn (d : DoorNo) (dir : Direction) : KeepsDerived s (s.actOn d dir) := by
  refine trans (updDoor d (f := fun x => { x with intent := dir.intent, keepOpen := false }) (by intros; rfl)) ?_
  cases dir with
  | lock =>
    show KeepsDerived _ (State.actLock d _)
    unfold State.actLock
    split
    · exact refl _
    · exact refl _
    · exact refl _
    · split
      · exact refl _
      · exact placeLock d
    · split
      · exact placeLock d
      · exact refl _
    all_goals exact placeLock d
  | release =>
    show KeepsDerived _ (State.actRelease d _)
    unfold State.actRelease
    split
    · exact refl _
    · split
      · exact changeState d _
      · exact place _ _ _ _
    · split
      · exact place _ _ _ _
      · exact refl _
    all_goals exact place _ _ _ _

theorem turnToRelease (d : DoorNo) : KeepsDerived s (s.turnToRelease d) := by
  unfold State.turnToRelease
  split
  · exact refl _
  · split
    · exact changeState d _
    · exact placeRelease d
  · split
    · exact placeRelease d
    · exact refl _
  all_goals exact placeRelease d

theorem deferOn (d : DoorNo) : KeepsDerived s (s.deferOn d) := by
  unfold State.deferOn
  split
  · split
    · exact refl _
    · split
      · exact withdrawEntry d
      · exact refl _
  · split
    · exact refl _
    · split
      · exact updDoor d (by intros; rfl)
      · exact refl _
  all_goals first
    | exact refl _
    | (refine trans (updDoor d (f := Door.noIntent) (by intros; rfl)) ?_
       dsimp only
       split
       · exact changeState d _
       · exact updDoor d (by intros; rfl))

theorem keepOpenOn (d : DoorNo) : KeepsDerived s (s.keepOpenOn d) := (updDoor d (by intros; rfl)).trans (turnToRelease d)

theorem beginOn (k : HoldKind) (d : DoorNo) : KeepsDerived s (s.beginOn k d) := by
  unfold State.beginOn
  refine trans (moveToHeld d) (trans ?_ (finishOf d))
  split
  · exact deferOn d
  · exact keepOpenOn d

theorem beginHold (h : Hold) : KeepsDerived s (s.beginHold h) := forEach _ (fun d _ => beginOn _ d)

theorem freeDoor (d : DoorNo) : KeepsDerived s (s.freeDoor d) := by
  have hu : ∀ s : State, KeepsDerived s (s.freeUnlinked d) := by
    intro s
    unfold State.freeUnlinked
    split
    · exact updDoor d (by intros; rfl)
    · exact restoreIntent d
  unfold State.freeDoor
  split
  · exact hu s
  · split
    · exact reclassify d
    · split
      · exact updDoor d (by intros; rfl)
      · exact hu s

theorem giveTrailing (sc : Scope) : KeepsDerived s (s.giveTrailing sc) := giveSet _ _

theorem releaseFireDoor (d : DoorNo) : KeepsDerived s (s.releaseFireDoor d) :=
  ((updDoor d (by intros; rfl)).trans (turnToRelease d)).trans (finishOf d)

theorem withdrawLock (z : ZoneNo) : KeepsDerived s (s.withdrawLock z) := by
  have h : KeepsDerived s (if (s.zone z).hasLockMarker then s.updZone z (fun x => { x with marker := none }) else s) := by
    split
    · exact updZone z (by intros; rfl)
    · exact refl _
  unfold State.withdrawLock
  refine trans h ?_
  generalize (if (s.zone z).hasLockMarker then s.updZone z (fun x => { x with marker := none }) else s) = q
  dsimp only
  split
  · exact refl _
  · exact cancelSweep _

theorem giveInput (i : InputNo) (dir : Direction) : KeepsDerived s (s.giveInput i dir) := giveSet _ _

theorem raiseInput (i : InputNo) (r : Bool) : KeepsDerived s (s.raiseInput i r) := raise _ _ _

/-! ### The ends of timers, and a minute's schedule -/

theorem endAllowance (d : DoorNo) : KeepsDerived s (s.endAllowance d) := by
  unfold State.endAllowance
  split
  · exact updDoor d (by intros; rfl)
  · exact refl _

theorem endPassage (d : DoorNo) : KeepsDerived s (s.endPassage d) := by
  unfold State.endPassage
  split
  · exact (raiseDoor _ d).trans (updDoor d (by intros; rfl))
  · exact refl _

theorem endReminder (d : DoorNo) : KeepsDerived s (s.endReminder d) := by
  unfold State.endReminder
  split
  · exact (raiseDoor _ d).trans (setReminder d)
  · exact refl _

theorem giveSchedule : KeepsDerived s s.giveSchedule := by
  unfold State.giveSchedule
  split
  · exact giveSet _ _
  · exact refl _

end KeepsDerived

end Sys2Proof.Machine


namespace Sys2Proof.Machine

namespace KeepsDerived

variable {s s' s'' : State}

/-- What leaves the doors, the zones, the slots and the fire state alone. -/
theorem of_tables (hd : s'.doors = s.doors) (hz : s'.zones = s.zones) (hk : s'.slots = s.slots)
    (hf : s'.fire = s.fire) : KeepsDerived s s' :=
  of_sight fun z => ⟨hf, fun d => by rw [State.door, hd]; rfl, fun k => by rw [State.slot, hk]; rfl, by
    rw [State.zone, hz]; rfl⟩

/-! ### Reports and silence -/

theorem observe (d : DoorNo) (rep : Report) : KeepsDerived s (s.observe d rep) := updDoor d (by intros; rfl)

theorem report (d : DoorNo) (drive : Bool) (rep : Report) : KeepsDerived s (s.report d drive rep) :=
  (((observe d rep).trans (updDoor d (by intros; rfl))).trans (reportState d drive rep)).trans (restoreUnreached d _)

theorem dropWork (d : DoorNo) : KeepsDerived s (s.dropWork d) := by
  unfold State.dropWork
  split
  · exact dropEntry d
  · exact dropRecord d
  all_goals exact refl _

theorem becomeUnknown (d : DoorNo) : KeepsDerived s (s.becomeUnknown d) := by
  unfold State.becomeUnknown
  split
  · exact refl _
  · exact (changeState d _).trans (updDoor d (by intros; rfl))

theorem goSilent (d : DoorNo) : KeepsDerived s (s.goSilent d) := by
  have h : KeepsDerived s (State.finishOf d (((((s.updDoor d (fun x => { x with health := .silent })).raiseDoor .silent
      d).dropWork d).becomeUnknown d).handOffCount d countAfterSilence)) :=
    (((((updDoor d (by intros; rfl)).trans (raiseDoor _ d)).trans (dropWork d)).trans (becomeUnknown d)).trans
      (handOffCount d _)).trans (finishOf d)
  unfold State.goSilent
  dsimp only
  split
  · exact h.trans (considerDoor d)
  · exact h

/-! ### DOOR_SET and DOOR_CLEAR -/

theorem evaluateTrunk (t : Trunk) : KeepsDerived s (s.evaluateTrunk t) := by
  unfold State.evaluateTrunk
  split
  · exact ((updTrunk t _).trans (consider t)).trans (trunkBack t _)
  · exact updTrunk t _
  · exact updTrunk t _
  all_goals exact refl _

/-- A door's record is replaced: the zones it had and has see it, and no other. -/
theorem sameSight_setDoor {d : DoorNo} {x : Door} {y : ZoneNo} (ho : (s.door d).seenFrom y = none)
    (hx : x.seenFrom y = none) : s.SameSight (s.setDoor d x) y :=
  ⟨rfl, fun e => by
    rw [State.door_setDoor]
    split
    · rename_i h; rw [h, ho, hx]
    · rfl, fun _ => rfl, rfl⟩


/-- The old place of a door is left, and its old zone derived again. -/
theorem leavePlace (d : DoorNo) (old : Door) {E : ZoneNo → Prop}
    (h : s.DerivedBut (fun y => E y ∨ (old.configured = true ∧ y = old.zone))) : (s.leavePlace d old).DerivedBut E := by
  unfold State.leavePlace
  split
  · rename_i hc
    refine State.DerivedBut.rederive (((updTrunk _ _).trans (evaluateTrunk _)) _ h) ?_
    rintro y (hy | ⟨-, hy⟩)
    · exact .inl hy
    · exact .inr hy
  · rename_i hc
    exact fun z hz => h z (by simp [hz, hc])

/-- A door's record is replaced, and its old place left: its new zone alone may be underived. -/
theorem replaceDoor (d : DoorNo) {x : Door} {E : ZoneNo → Prop} (h : s.DerivedBut E) :
    ((s.setDoor d x).leavePlace d (s.door d)).DerivedBut (fun y => E y ∨ (x.configured = true ∧ y = x.zone)) := by
  refine leavePlace d (s.door d) (fun y hy => ?_)
  simp only [not_or, not_and] at hy
  obtain ⟨⟨hE, hnew⟩, hold⟩ := hy
  have hs : s.SameSight (s.setDoor d x) y := sameSight_setDoor
    (Door.seenFrom_eq_none fun hc he => hold hc he.symm) (Door.seenFrom_eq_none fun hc he => hnew hc he.symm)
  rw [hs.state, hs.derive, h y hE]

theorem applyDoorSet (d : DoorNo) (x : Door) : KeepsDerived s (s.applyDoorSet d x) := by
  intro E h
  have hz : (x.underFire s.fire).zone = x.zone := by unfold Door.underFire; split <;> rfl
  unfold State.applyDoorSet
  refine State.DerivedBut.rederive (evaluateTrunk _ _ (replaceDoor d h)) (fun y hy => ?_)
  exact hy.imp_right fun h => h.2.trans hz

theorem clearDoor (d : DoorNo) : KeepsDerived s ((s.setDoor d Door.cold).leavePlace d (s.door d)) :=
  fun E h z hz => replaceDoor d h z (by simp [hz, Door.cold])

theorem takeDoorSet (door trunk address zone rank cls flags : Byte) :
    KeepsDerived s (takeDoorSet door trunk address zone rank cls flags s).1 := by
  unfold Machine.takeDoorSet
  dsimp only
  split
  · repeat' split
    all_goals first | exact refl _ | exact applyDoorSet _ _
  · exact refl _

theorem takeDoorClear (door : Byte) : KeepsDerived s (takeDoorClear door s).1 := by
  unfold Machine.takeDoorClear
  dsimp only
  repeat' split
  all_goals first | exact refl _ | exact clearDoor _

theorem takeDoorAct (door direction : Byte) : KeepsDerived s (takeDoorAct door direction s).1 := by
  unfold Machine.takeDoorAct
  dsimp only
  repeat' split
  all_goals first | exact refl _ | exact actOn _ _

/-! ### The trunks -/

theorem mapTimes (t : Trunk) (waited : Nat) : KeepsDerived s (s.waitTrunk t waited) := by
  have hd : KeepsDerived s { s with doors := mapAll (fun x => if x.trunk = t then x.wait waited else x) s.doors } :=
    mapDoors (fun x z => by split <;> rfl)
  exact hd.trans (of_tables rfl rfl rfl rfl)

theorem endRest (t : Trunk) : KeepsDerived s (s.endRest t) := by
  unfold State.endRest
  split
  · exact refl _
  · exact ((mapTimes t _).trans (updTrunk t _)).trans (consider t)

theorem timeOut (d : DoorNo) : KeepsDerived s (s.timeOut d) := by
  unfold State.timeOut
  split
  · exact refl _
  · split
    · exact refl _
    · exact (mapTimes _ _).trans (driveFailed _)

theorem capAttempts (c : ClassNo) (n : Nat) : KeepsDerived s { s with doors := mapAll (Door.capAttempts c n) s.doors } :=
  mapDoors fun x z => by unfold Door.capAttempts; split <;> rfl

theorem applyClass (c : ClassNo) (v : LockClass) : KeepsDerived s (s.applyClass c v) := by
  have hset : KeepsDerived s { s with classes := s.classes.set c.val v } := of_tables rfl rfl rfl rfl
  by_cases h : v.retries < (s.lockClass c).retries
  · have := (hset.trans (capAttempts c v.retries)).trans considerAll
    simpa only [State.applyClass, h, decide_true, if_true] using this
  · have := hset.trans considerAll
    simpa only [State.applyClass, h, decide_false, Bool.false_eq_true, if_false] using this

theorem takeClassSet (cls lockCost releaseCost limit retries : Byte) :
    KeepsDerived s (takeClassSet cls lockCost releaseCost limit retries s).1 := by
  unfold Machine.takeClassSet
  split
  · exact refl _
  · split
    · split
      · exact refl _
      · dsimp only
        exact applyClass _ _
    · exact refl _

theorem send (t : Trunk) (o : LineOrder) : KeepsDerived s (s.send t o) := (updTrunk t _).trans (updDoor o.door (by intros; rfl))

theorem schedule (t : Trunk) : KeepsDerived s (s.schedule t) := by
  have hdrop : KeepsDerived s (if (s.trunk t).mode = .running then s.dropDeadUrgent t else s) := by
    unfold State.dropDeadUrgent
    split
    · split
      · exact updTrunk t _
      · exact refl _
    · exact refl _
  unfold State.schedule
  split
  · exact updTrunk t _
  · dsimp only
    split
    · exact hdrop
    · exact hdrop.trans (send t _)

theorem sendFrame (t : Trunk) (waited : Nat) : KeepsDerived s (s.sendFrame t waited) := by
  unfold State.sendFrame
  split
  · exact (mapTimes t waited).trans (schedule t)
  · exact refl _

theorem accountGood (d : DoorNo) : KeepsDerived s (s.accountGood d) := by
  unfold State.accountGood
  refine trans (updDoor d (f := fun x => { x with misses := 0 }) (by intros; rfl)) ?_
  dsimp only
  split
  · exact refl _
  · exact updDoor d (by intros; rfl)
  · exact (updDoor d (by intros; rfl)).trans (raiseDoor _ d)

theorem accountMiss (d : DoorNo) : KeepsDerived s (s.accountMiss d) := by
  unfold State.accountMiss
  dsimp only
  split
  · exact refl _
  · split
    · exact (updDoor d (by intros; rfl)).trans (goSilent d)
    · exact updDoor d (by intros; rfl)

theorem trunkDown (t : Trunk) : KeepsDerived s (s.trunkDown t) := by
  unfold State.trunkDown
  exact (((updTrunk t _).trans (raise _ _ _)).trans (returnGranted _ _)).trans (updTrunk t _)

theorem trunkUp (t : Trunk) (skip : List DoorNo) : KeepsDerived s (s.trunkUp t skip) := by
  unfold State.trunkUp
  exact (((updTrunk t _).trans (raise _ _ _)).trans (consider t)).trans (trunkBack t skip)

theorem trunkGood (t : Trunk) (skip : List DoorNo) : KeepsDerived s (s.trunkGood t skip) := by
  unfold State.trunkGood
  dsimp only
  split
  · exact (updTrunk t _).trans (trunkUp t skip)
  · exact updTrunk t _

theorem trunkFailure (t : Trunk) : KeepsDerived s (s.trunkFailure t) := by
  unfold State.trunkFailure
  dsimp only
  split
  · exact (updTrunk t _).trans (trunkDown t)
  · exact updTrunk t _

theorem outcomeGood (t : Trunk) (f : LineFrame) (rep : Report) : KeepsDerived s (s.outcomeGood t f rep) := by
  unfold State.outcomeGood
  split
  · exact ((accountGood _).trans (trunkGood t _)).trans (report _ _ _)
  · exact trunkGood t _

theorem deliverFailure (f : LineFrame) : KeepsDerived s (s.deliverFailure f) := by
  unfold State.deliverFailure
  split
  · split
    · exact refl _
    · exact driveFailed _
  · exact refl _

theorem outcomeBad (t : Trunk) (f : LineFrame) : KeepsDerived s (s.outcomeBad t f) := by
  unfold State.outcomeBad
  split
  · exact ((accountMiss _).trans (trunkFailure t)).trans (deliverFailure f)
  · exact trunkFailure t

theorem takeFrame (t : Trunk) (f : LineFrame) (reply : LineReply) : KeepsDerived s (s.takeFrame t f reply) := by
  have hclear : ∀ q : State, KeepsDerived q (q.clearOffCount t) := by
    intro q
    unfold State.clearOffCount
    split
    · exact updTrunk t _
    · exact refl _
  unfold State.takeFrame
  refine trans ?_ (hclear _)
  split
  · exact outcomeGood t f _
  all_goals exact outcomeBad t f

theorem freeLine (t : Trunk) : KeepsDerived s (s.freeLine t) := (updTrunk t _).trans secondRuns

theorem frameOutcome (t : Trunk) (reply : LineReply) : KeepsDerived s (s.frameOutcome t reply) := by
  have hsent : ∀ f, KeepsDerived s (s.frameSent t f) := by
    intro f
    unfold State.frameSent
    exact (updTrunk t _).trans (updDoor _ (fun x z => by split <;> rfl))
  unfold State.frameOutcome
  split
  · dsimp only
    split
    · exact (hsent _).trans (freeLine t)
    · exact ((hsent _).trans (freeLine t)).trans (takeFrame t _ reply)
  all_goals exact refl _

theorem endWindow (t : Trunk) (bits : BitVec 7) : KeepsDerived s (s.endWindow t bits) := by
  have hbid : ∀ q : State, KeepsDerived q (q.takeBid t bits.toNat) := by
    intro q
    unfold State.takeBid
    split
    · exact refl _
    · split
      · exact updTrunk t _
      · exact refl _
  unfold State.endWindow
  split
  · split
    · exact freeLine t
    · exact (freeLine t).trans (hbid _)
  all_goals exact refl _

theorem takeTrunkSet (trunk budget runLength : Byte) (rest : Word16) (gap silence : Byte) :
    KeepsDerived s (takeTrunkSet trunk budget runLength rest gap silence s).1 := by
  have hlimit : ∀ (q : State) t old new, KeepsDerived q (q.applyLimit t old new) := by
    intro q t old new
    unfold State.applyLimit
    split
    · exact mapDoors (fun x z => by unfold Door.raiseLimit; split <;> rfl)
    · split
      · refine forEach _ (fun d p => ?_)
        unfold State.lowerLimit
        refine trans (updDoor d (f := fun x => { x with misses := new }) (by intros; rfl)) ?_
        dsimp only
        split
        · exact refl _
        · exact goSilent d
      · exact refl _
  unfold Machine.takeTrunkSet
  repeat' split
  all_goals first | exact refl _ | exact ((updTrunk _ _).trans (consider _)).trans (hlimit _ _ _ _)

/-! ### Holds -/

theorem addHold (h : Hold) : KeepsDerived s (s.addHold h) := by
  unfold State.addHold
  exact trans (s' := { s with holds := s.holds ++ [h], lastHoldId := h.id }) (of_tables rfl rfl rfl rfl) (beginHold h)

theorem endHold (h : Hold) (cause : HoldCause) : KeepsDerived s (s.endHold h cause) := by
  have hrem : KeepsDerived s (s.removeHold h) := by
    unfold State.removeHold
    refine trans (s' := { s with holds := s.holds.filter (fun x => !(x.id == h.id)) }) (of_tables rfl rfl rfl rfl) ?_
    dsimp only
    split
    · exact refl _
    · exact updInput _ _
  unfold State.endHold
  exact ((hrem.trans (forEach _ fun d _ => freeDoor d)).trans (giveTrailing _)).trans (raise _ _ _)

theorem endSpent (id : Nat) : KeepsDerived s (s.endSpent id) := by
  unfold State.endSpent
  repeat' split
  all_goals first | exact refl _ | exact endHold _ _

theorem endCountedDown (id : Nat) : KeepsDerived s (s.endCountedDown id) := by
  unfold State.endCountedDown
  dsimp only
  split
  · exact (forEach _ fun id _ => endSpent id).trans (endSpent id)
  · exact refl _

theorem takeHoldAdd (kind form : Byte) (scope : ZoneSet) (minutes : Word16) :
    KeepsDerived s (takeHoldAdd kind form scope minutes s).1 := by
  unfold Machine.takeHoldAdd
  repeat' split
  all_goals first | exact refl _ | exact addHold _

theorem takeHoldEnd (id : Byte) : KeepsDerived s (takeHoldEnd id s).1 := by
  unfold Machine.takeHoldEnd
  split
  · exact refl _
  · exact endHold _ _

/-! ### Inputs and fire -/

theorem of_rederiveAll (q : State) (h : KeepsDerived q.rederiveAll s') : KeepsDerived s s' :=
  fun E _ => h E (State.derivedBut_rederiveAll E q)

theorem fireOnset : KeepsDerived s s.fireOnset := by
  unfold State.fireOnset
  exact (of_rederiveAll _ (offerSlots _)).trans (raise _ _ _)

theorem fireCleared : KeepsDerived s s.fireCleared := by
  unfold State.fireCleared
  exact of_rederiveAll _ (refl _)

theorem fireChange (b : Bool) : KeepsDerived s (s.fireChange b) := by
  unfold State.fireChange
  split
  · exact fireOnset
  · exact fireOnset
  · exact fireCleared
  all_goals exact refl _

theorem makeInputHold (i : InputNo) : KeepsDerived s (s.makeInputHold i) := by
  unfold State.makeInputHold
  split
  · exact raiseInput i _
  · exact (addHold _).trans (updInput i _)

theorem endOwned (i : InputNo) (cause : HoldCause) : KeepsDerived s (s.endOwned i cause) := by
  unfold State.endOwned
  repeat' split
  all_goals first | exact refl _ | exact endHold _ _

theorem takeActivity (i : InputNo) (was : Bool) : KeepsDerived s (s.takeActivity i was) := by
  unfold State.takeActivity
  split
  · unfold State.becameActive
    split
    · exact makeInputHold i
    · exact giveInput i _
    · exact giveInput i _
    · exact fireChange _
    all_goals exact refl _
  · unfold State.becameInactive
    split
    · exact endOwned i _
    · exact fireChange _
    all_goals exact refl _
  all_goals exact refl _

theorem acceptLevel (i : InputNo) : KeepsDerived s (s.acceptLevel i) := by
  unfold State.acceptLevel
  split
  · exact refl _
  · split
    · exact refl _
    · refine trans ?_ (takeActivity i _)
      split
      · exact (updInput i _).trans (raiseInput i _)
      · exact updInput i _

theorem takeInputSet (input level function : Byte) (zones : ZoneSet) (kind : Byte) :
    KeepsDerived s (takeInputSet input level function zones kind s).1 := by
  have hfire : ∀ l, KeepsDerived s (s.setFireInput l) := fun l => by
    unfold State.setFireInput
    exact (updInput 0 _).trans (takeActivity 0 _)
  have hconfig : ∀ i l f z k, KeepsDerived s (s.setInputConfig i l f z k) := by
    intro i l f z k
    unfold State.setInputConfig
    dsimp only
    split
    · exact ((endOwned i _).trans (updInput i _)).trans (makeInputHold i)
    · exact (endOwned i _).trans (updInput i _)
  unfold Machine.takeInputSet
  repeat' split
  all_goals first | exact refl _ | exact hfire _ | exact hconfig _ _ _ _ _

theorem takeFireRestore : KeepsDerived s (takeFireRestore s).1 := by
  unfold Machine.takeFireRestore
  split
  · exact refl _
  · exact refl _
  · unfold State.fireRestore
    exact of_rederiveAll _ (giveSet _ _)

/-! ### Zones, plans, sweeps, the clock -/

theorem takeZoneSet (zone rank lead chime passage ajar leader rule : Byte) :
    KeepsDerived s (takeZoneSet zone rank lead chime passage ajar leader rule s).1 := by
  unfold Machine.takeZoneSet
  repeat' split
  all_goals first | exact refl _ | exact updZone _ (by intros; rfl)

theorem takePlanStage (zone dayType : Byte) (lockup release : Word16) :
    KeepsDerived s (takePlanStage zone dayType lockup release s).1 := by
  unfold Machine.takePlanStage
  split
  · split
    · exact refl _
    · dsimp only
      split
      · exact (updZone _ (by intros; rfl)).trans (groupLoad _)
      · exact updZone _ (by intros; rfl)
  · exact refl _

theorem takePlanLoad (zone : Byte) : KeepsDerived s (takePlanLoad zone s).1 := by
  unfold Machine.takePlanLoad
  split
  · dsimp only
    exact groupLoad _
  · exact refl _

theorem takeSweep (zones : ZoneSet) (direction : Byte) : KeepsDerived s (takeSweep zones direction s).1 := by
  unfold Machine.takeSweep
  split
  · exact refl _
  · split
    · exact refl _
    · split
      · exact refl _
      · exact giveSet .link _

theorem takeCancel (zones : ZoneSet) : KeepsDerived s (takeCancel zones s).1 := by
  unfold Machine.takeCancel
  split
  · exact refl _
  · have hmark : ∀ l, KeepsDerived s (s.clearMarkers l) := by
      intro l
      unfold State.clearMarkers
      exact forEach l fun z _ => updZone z (by intros; rfl)
    have hsweeps : ∀ (l : List (ZoneNo × SlotNo)) (q : State),
        KeepsDerived q (Machine.forEach l (fun e => State.cancelSweep e.2) q) :=
      fun l q => forEach l fun e _ => cancelSweep e.2
    dsimp only
    refine trans ?_ (offerSlots _)
    exact trans (hmark _) (hsweeps _ _)

theorem minuteBoundary : KeepsDerived s s.minuteBoundary := by
  have hcount : KeepsDerived s s.countMinute :=
    of_sight fun z => ⟨rfl, fun d => State.door_mapDoors s Door.minute d ▸ rfl, fun k => by
      have : s.countMinute.slot k = (s.slot k).map Sweep.minute := by simp [State.countMinute, State.slot]
      rw [this]
      cases s.slot k with
      | none => rfl
      | some w =>
        have hzone : w.minute.zone = w.zone := by unfold Sweep.minute; split <;> rfl
        have hstate : w.minute.zoneState = w.zoneState := by
          cases hd : w.direction <;> cases hp : w.phase <;> simp [Sweep.minute, Sweep.zoneState, hd, hp]
        rw [Option.map_some]
        by_cases hz : w.zone = z
        · rw [slotSeenFrom_of_zone hz, slotSeenFrom_of_zone (hzone.trans hz), hstate]
        · rw [slotSeenFrom_of_ne hz, slotSeenFrom_of_ne (by rwa [hzone])], rfl⟩
  exact hcount.trans giveSchedule

theorem advanceClock : KeepsDerived s s.advanceClock := by
  have hclock : ∀ c, KeepsDerived s { s with clock := c } := fun _ => of_tables rfl rfl rfl rfl
  unfold State.advanceClock
  dsimp only
  split
  · split
    · exact (hclock _).trans minuteBoundary
    · exact hclock _
  · exact ((hclock _).trans (forEach _ fun z _ => loadUnder _ z)).trans minuteBoundary

theorem takeEnds : KeepsDerived s s.takeEnds := by
  unfold State.takeEnds
  exact ((((forEach _ fun d _ => endAllowance d).trans (forEach _ fun d _ => endPassage d)).trans
    (forEach _ fun d _ => endReminder d)).trans (forEach _ fun k _ => endWarning k)).trans
    (forEach _ fun id _ => endSpent id)

theorem completeSecond : KeepsDerived s s.completeSecond := by
  unfold State.completeSecond
  split
  · exact secondRuns
  · exact (takeEnds.trans (mapDoors (f := Door.second) fun _ _ => rfl)).trans advanceClock

/-! ### The link and the restarts -/

theorem takeRestart : KeepsDerived s (takeRestart s).1 := by
  have hnotice : ∀ (q : State) n, KeepsDerived q { q with noticeSet := n } := fun _ _ => of_tables rfl rfl rfl rfl
  exact of_rederiveAll _ (hnotice _ _)

end KeepsDerived

end Sys2Proof.Machine


namespace Sys2Proof.Machine

namespace KeepsDerived

variable {s s' : State}

/-- The answer of a request, and the restarted second that is past with it, are seen by no zone. -/
theorem answered {take : State → State × Answer} (h : ∀ q, KeepsDerived q (take q).1) {t : State}
    (ht : Machine.answered take s = .next t) : KeepsDerived s t := by
  cases ht
  exact (secondRuns.trans (h _)).trans (of_tables rfl rfl rfl rfl)

/-- A request that reads changes nothing. -/
theorem of_read {take : State → State × Answer} (h : ∀ q, (take q).1 = q) (q : State) : KeepsDerived q (take q).1 := by
  rw [h]; exact refl q

theorem takeZoneRead (b : Byte) : KeepsDerived s (takeZoneRead b s).1 := by
  unfold Machine.takeZoneRead; split <;> exact refl s

theorem takeSweepRead (b : Byte) : KeepsDerived s (takeSweepRead b s).1 := by
  unfold Machine.takeSweepRead; split <;> exact refl s

theorem takePlanRead (b : Byte) : KeepsDerived s (takePlanRead b s).1 := by
  unfold Machine.takePlanRead; split <;> exact refl s

theorem takeFetch : KeepsDerived s (takeFetch s).1 := of_tables rfl rfl rfl rfl

theorem takeNoticeMask (m : Word16) : KeepsDerived s (takeNoticeMask m s).1 := by
  unfold Machine.takeNoticeMask
  split
  · exact of_tables rfl rfl rfl rfl
  · exact refl s

theorem takeClockSet (y m d : Byte) (n : Word24) : KeepsDerived s (takeClockSet y m d n s).1 := by
  unfold Machine.takeClockSet
  dsimp only
  split
  · exact of_tables rfl rfl rfl rfl
  · exact refl s

theorem takeWeekSet (a b c d e f g : Byte) : KeepsDerived s (takeWeekSet a b c d e f g s).1 := by
  unfold Machine.takeWeekSet
  split
  · exact of_tables rfl rfl rfl rfl
  · exact refl s

theorem takeDateAdd (y m d t : Byte) : KeepsDerived s (takeDateAdd y m d t s).1 := by
  unfold Machine.takeDateAdd
  dsimp only
  split
  · exact refl s
  · split
    · split
      · exact refl s
      · exact of_tables rfl rfl rfl rfl
    · exact refl s

theorem takeDateRemove (y m d : Byte) : KeepsDerived s (takeDateRemove y m d s).1 := by
  unfold Machine.takeDateRemove
  dsimp only
  split
  · exact of_tables rfl rfl rfl rfl
  · exact refl s

/-! ### The link -/

/-- A block's action on a payload keeps the zones derived. -/
def OfAction (act : Action) : Prop :=
  ∀ (payload : List Byte) (s s' : State) (a : Answer), act payload s = some (s', a) → KeepsDerived s s'

theorem of_answer {p : State × Answer} {a : Answer} (h : some p = some (s', a)) (hp : KeepsDerived s p.1) :
    KeepsDerived s s' := by
  rw [Option.some.inj h] at hp
  exact hp

theorem with0 {f : State → State × Answer} (hf : ∀ q, KeepsDerived q (f q).1) : OfAction (Machine.with0 f) := by
  intro p s s' a ha
  unfold Machine.with0 at ha
  split at ha
  · exact of_answer ha (hf _)
  · cases ha

theorem with1 {f : Byte → State → State × Answer} (hf : ∀ (a : Byte) q, KeepsDerived q (f a q).1) : OfAction (Machine.with1 f) := by
  intro p s s' a ha
  unfold Machine.with1 at ha
  split at ha
  · exact of_answer ha (hf _ _)
  · cases ha

theorem with2 {f : Byte → Byte → State → State × Answer} (hf : ∀ (a b : Byte) q, KeepsDerived q (f a b q).1) : OfAction (Machine.with2 f) := by
  intro p s s' a ha
  unfold Machine.with2 at ha
  split at ha
  · exact of_answer ha (hf _ _ _)
  · cases ha

theorem with3 {f : Byte → Byte → Byte → State → State × Answer} (hf : ∀ (a b c : Byte) q, KeepsDerived q (f a b c q).1) : OfAction (Machine.with3 f) := by
  intro p s s' a ha
  unfold Machine.with3 at ha
  split at ha
  · exact of_answer ha (hf _ _ _ _)
  · cases ha

theorem with4 {f : Byte → Byte → Byte → Byte → State → State × Answer} (hf : ∀ (a b c d : Byte) q, KeepsDerived q (f a b c d q).1) : OfAction (Machine.with4 f) := by
  intro p s s' a ha
  unfold Machine.with4 at ha
  split at ha
  · exact of_answer ha (hf _ _ _ _ _)
  · cases ha

theorem with5 {f : Byte → Byte → Byte → Byte → Byte → State → State × Answer} (hf : ∀ (a b c d e : Byte) q, KeepsDerived q (f a b c d e q).1) : OfAction (Machine.with5 f) := by
  intro p s s' a ha
  unfold Machine.with5 at ha
  split at ha
  · exact of_answer ha (hf _ _ _ _ _ _)
  · cases ha

theorem with6 {f : Byte → Byte → Byte → Byte → Byte → Byte → State → State × Answer} (hf : ∀ (a b c d e k : Byte) q, KeepsDerived q (f a b c d e k q).1) : OfAction (Machine.with6 f) := by
  intro p s s' a ha
  unfold Machine.with6 at ha
  split at ha
  · exact of_answer ha (hf _ _ _ _ _ _ _)
  · cases ha

theorem with7 {f : Byte → Byte → Byte → Byte → Byte → Byte → Byte → State → State × Answer} (hf : ∀ (a b c d e k g : Byte) q, KeepsDerived q (f a b c d e k g q).1) : OfAction (Machine.with7 f) := by
  intro p s s' a ha
  unfold Machine.with7 at ha
  split at ha
  · exact of_answer ha (hf _ _ _ _ _ _ _ _)
  · cases ha

theorem with8 {f : Byte → Byte → Byte → Byte → Byte → Byte → Byte → Byte → State → State × Answer} (hf : ∀ (a b c d e k g h : Byte) q, KeepsDerived q (f a b c d e k g h q).1) : OfAction (Machine.with8 f) := by
  intro p s s' a ha
  unfold Machine.with8 at ha
  split at ha
  · exact of_answer ha (hf _ _ _ _ _ _ _ _ _)
  · cases ha

/-- A request frame does what its block does with the payload. -/
theorem requestAction {kind : Byte} {act : Action} (h : Machine.requestAction kind = some act) : OfAction act := by
  unfold Machine.requestAction at h
  split at h
  case h_28 => cases h
  all_goals cases h
  case h_1 => exact with0 (of_read fun _ => rfl)
  case h_2 => exact with0 fun _ => takeFetch
  case h_3 => exact with1 fun b => of_read fun _ => rfl
  case h_4 => exact with1 fun b _ => takeZoneRead b
  case h_5 => exact with1 fun b _ => takeSweepRead b
  case h_6 => exact with0 (of_read fun _ => rfl)
  case h_7 => exact with1 fun b _ => takePlanRead b
  case h_8 => exact with6 fun _ _ _ _ _ _ _ => takeClockSet _ _ _ _
  case h_9 => exact with7 fun _ _ _ _ _ _ _ _ => takeWeekSet _ _ _ _ _ _ _
  case h_10 => exact with4 fun _ _ _ _ _ => takeDateAdd _ _ _ _
  case h_11 => exact with3 fun _ _ _ _ => takeDateRemove _ _ _
  case h_12 => exact with5 fun _ _ _ _ _ _ => takeClassSet _ _ _ _ _
  case h_13 => exact with7 fun _ _ _ _ _ _ _ _ => takeTrunkSet _ _ _ _ _ _
  case h_14 => exact with7 fun _ _ _ _ _ _ _ _ => takeDoorSet _ _ _ _ _ _ _
  case h_15 => exact with1 fun _ _ => takeDoorClear _
  case h_16 => exact with8 fun _ _ _ _ _ _ _ _ _ => takeZoneSet _ _ _ _ _ _ _ _
  case h_17 => exact with6 fun _ _ _ _ _ _ _ => takePlanStage _ _ _ _
  case h_18 => exact with1 fun _ _ => takePlanLoad _
  case h_19 => exact with8 fun _ _ _ _ _ _ _ _ _ => takeInputSet _ _ _ _ _
  case h_20 => exact with2 fun _ _ _ => takeNoticeMask _
  case h_21 => exact with5 fun _ _ _ _ _ _ => takeSweep _ _
  case h_22 => exact with4 fun _ _ _ _ _ => takeCancel _
  case h_23 => exact with2 fun _ _ _ => takeDoorAct _ _
  case h_24 => exact with8 fun _ _ _ _ _ _ _ _ _ => takeHoldAdd _ _ _ _
  case h_25 => exact with1 fun _ _ => takeHoldEnd _
  case h_26 => exact with0 fun _ => takeFireRestore
  case h_27 => exact with0 fun _ => takeRestart

theorem passOn (kind tag : Byte) (payload : List Byte) : KeepsDerived s (s.passOn kind tag payload) := by
  unfold State.passOn
  split
  · exact of_tables rfl rfl rfl rfl
  · rename_i act hact
    split
    · exact of_tables rfl rfl rfl rfl
    · unfold State.takeRequest
      split
      · exact of_tables rfl rfl rfl rfl
      · rename_i q a ha
        exact (requestAction hact _ _ _ _ ha).trans (of_tables rfl rfl rfl rfl)

theorem requestFrame : KeepsDerived s s.requestFrame := by
  unfold State.requestFrame
  split
  · split
    · exact (secondRuns.trans (passOn _ _ _)).trans (of_tables rfl rfl rfl rfl)
    · exact of_tables rfl rfl rfl rfl
  · exact refl s

theorem linkCharacter (b : Byte) (e : Bool) : KeepsDerived s (s.linkCharacter b e) := by
  have hstore : KeepsDerived s (s.storeCharacter b) := by
    unfold State.storeCharacter State.faultyFrame
    dsimp only
    repeat' split
    all_goals exact of_tables rfl rfl rfl rfl
  unfold State.linkCharacter
  split
  · split
    · exact of_tables rfl rfl rfl rfl
    · split
      · exact of_tables rfl rfl rfl rfl
      · exact refl s
  · split
    · exact of_tables rfl rfl rfl rfl
    · exact hstore
  · exact refl s

theorem gapPassed : KeepsDerived s s.gapPassed := by
  unfold State.gapPassed
  split
  · exact of_tables rfl rfl rfl rfl
  · exact refl s

theorem quietOver : KeepsDerived s s.quietOver := by
  unfold State.quietOver
  split
  · exact of_tables rfl rfl rfl rfl
  · exact refl s

theorem replySent : KeepsDerived s s.replySent := by
  unfold State.replySent
  split
  · exact of_tables rfl rfl rfl rfl
  · exact refl s

/-! ### Every command -/

theorem tick : KeepsDerived s s.tick := by
  unfold State.tick
  exact (forEach _ fun t _ => mapTimes t 1).trans (of_tables rfl rfl rfl rfl)

end KeepsDerived

/-- After a cold reset every zone is OPEN, and derived so, at every link rate. -/
theorem State.cold_zoneLaw (r : LinkRate) : (State.cold r).ZoneLaw := by
  have h : KeepsDerived State.reset (State.cold r) := .of_tables rfl rfl rfl rfl
  obtain ⟨-, -, -, -, -, -, -, -, -, -, -, -, -, -, hz, -⟩ := lawsHoldAtReset
  exact h.zoneLaw hz

/-- What a command answers, from a state whose zones are derived. -/
theorem exec_zoneLaw {c : Instr} {s t : State} (hl : s.ZoneLaw) (h : exec c s = .next t) : t.ZoneLaw := by
  cases c with
  | coldReset r1 r0 =>
    cases h
    exact (KeepsDerived.of_tables (s := State.cold (rateOf r1 r0)) rfl rfl rfl rfl).zoneLaw (State.cold_zoneLaw _)
  | status => exact (KeepsDerived.answered (.of_read fun _ => rfl) h).zoneLaw hl
  | fetch => exact (KeepsDerived.answered (fun _ => .takeFetch) h).zoneLaw hl
  | doorRead => exact (KeepsDerived.answered (.of_read fun _ => rfl) h).zoneLaw hl
  | zoneRead => exact (KeepsDerived.answered (fun _ => .takeZoneRead _) h).zoneLaw hl
  | sweepRead => exact (KeepsDerived.answered (fun _ => .takeSweepRead _) h).zoneLaw hl
  | holdRead => exact (KeepsDerived.answered (.of_read fun _ => rfl) h).zoneLaw hl
  | planRead => exact (KeepsDerived.answered (fun _ => .takePlanRead _) h).zoneLaw hl
  | clockSet => exact (KeepsDerived.answered (fun _ => .takeClockSet _ _ _ _) h).zoneLaw hl
  | weekSet => exact (KeepsDerived.answered (fun _ => .takeWeekSet _ _ _ _ _ _ _) h).zoneLaw hl
  | dateAdd => exact (KeepsDerived.answered (fun _ => .takeDateAdd _ _ _ _) h).zoneLaw hl
  | dateRemove => exact (KeepsDerived.answered (fun _ => .takeDateRemove _ _ _) h).zoneLaw hl
  | classSet => exact (KeepsDerived.answered (fun _ => .takeClassSet _ _ _ _ _) h).zoneLaw hl
  | trunkSet => exact (KeepsDerived.answered (fun _ => .takeTrunkSet _ _ _ _ _ _) h).zoneLaw hl
  | doorSet => exact (KeepsDerived.answered (fun _ => .takeDoorSet _ _ _ _ _ _ _) h).zoneLaw hl
  | doorClear => exact (KeepsDerived.answered (fun _ => .takeDoorClear _) h).zoneLaw hl
  | zoneSet => exact (KeepsDerived.answered (fun _ => .takeZoneSet _ _ _ _ _ _ _ _) h).zoneLaw hl
  | planStage => exact (KeepsDerived.answered (fun _ => .takePlanStage _ _ _ _) h).zoneLaw hl
  | planLoad => exact (KeepsDerived.answered (fun _ => .takePlanLoad _) h).zoneLaw hl
  | inputSet => exact (KeepsDerived.answered (fun _ => .takeInputSet _ _ _ _ _) h).zoneLaw hl
  | noticeMask => exact (KeepsDerived.answered (fun _ => .takeNoticeMask _) h).zoneLaw hl
  | sweep => exact (KeepsDerived.answered (fun _ => .takeSweep _ _) h).zoneLaw hl
  | cancel => exact (KeepsDerived.answered (fun _ => .takeCancel _) h).zoneLaw hl
  | doorAct => exact (KeepsDerived.answered (fun _ => .takeDoorAct _ _) h).zoneLaw hl
  | holdAdd => exact (KeepsDerived.answered (fun _ => .takeHoldAdd _ _ _ _) h).zoneLaw hl
  | holdEnd => exact (KeepsDerived.answered (fun _ => .takeHoldEnd _) h).zoneLaw hl
  | fireRestore => exact (KeepsDerived.answered (fun _ => .takeFireRestore) h).zoneLaw hl
  | restart => exact (KeepsDerived.answered (fun _ => .takeRestart) h).zoneLaw hl
  | linkCharacter => cases h; exact (KeepsDerived.secondRuns.trans (.linkCharacter _ _)).zoneLaw hl
  | requestFrame => cases h; exact KeepsDerived.requestFrame.zoneLaw hl
  | receiveGap => cases h; exact KeepsDerived.gapPassed.zoneLaw hl
  | quietWaitEnd => cases h; exact KeepsDerived.quietOver.zoneLaw hl
  | replySent => cases h; exact KeepsDerived.replySent.zoneLaw hl
  | linkReset => cases h; exact (KeepsDerived.of_tables (s := s) rfl rfl rfl rfl).zoneLaw hl
  | secondEvent => cases h; exact KeepsDerived.completeSecond.zoneLaw hl
  | exitAllowanceEnd => cases h; exact (KeepsDerived.endAllowance _).zoneLaw hl
  | longPassage => cases h; exact (KeepsDerived.endPassage _).zoneLaw hl
  | ajarReminder => cases h; exact (KeepsDerived.endReminder _).zoneLaw hl
  | warningEnd => cases h; exact (KeepsDerived.endWarning _).zoneLaw hl
  | holdCountdownEnd => cases h; exact (KeepsDerived.endCountedDown _).zoneLaw hl
  | restEnd => cases h; exact (KeepsDerived.endRest _).zoneLaw hl
  | driveTimeout => cases h; exact (KeepsDerived.timeOut _).zoneLaw hl
  | sendFrame => cases h; exact (KeepsDerived.sendFrame _ _).zoneLaw hl
  | frameOutcome => cases h; exact (KeepsDerived.frameOutcome _ _).zoneLaw hl
  | windowEnd => cases h; exact (KeepsDerived.endWindow _ _).zoneLaw hl
  | inputLevelChange => cases h; exact (KeepsDerived.updInput _ _).zoneLaw hl
  | levelAccepted => cases h; exact (KeepsDerived.acceptLevel _).zoneLaw hl

/-- Settles O57: a step is a millisecond or a command, and every operation that changes what a zone's state is derived
from ends in the re-derivation of that zone. -/
theorem zoneLawKept : Obligations.ZoneLawKept := by
  intro s t hl h
  unfold step at h
  split at h
  · cases h
    exact KeepsDerived.tick.zoneLaw hl
  · rename_i c rest _
    exact exec_zoneLaw ((KeepsDerived.of_tables (s' := { s with pending := rest }) rfl rfl rfl rfl).zoneLaw hl) h

end Sys2Proof.Machine


namespace Sys2Proof.Machine

/-! ### The bytes of a request -/

theorem finOfByte_ofNat {z : ZoneNo} : finOfByte 32 (BitVec.ofNat 8 z.val) = some z := by
  have h : (BitVec.ofNat 8 z.val).toNat = z.val := by rw [BitVec.toNat_ofNat]; omega
  simp [finOfByte, h]

theorem finOfByte_lt {n : Nat} {b : Byte} (h : b.toNat < n) : finOfByte n b = some ⟨b.toNat, h⟩ := dif_pos h

theorem finOfByte_ge {n : Nat} {b : Byte} (h : ¬ b.toNat < n) : finOfByte n b = none := dif_neg h

/-! ### The locked period -/

/-- R47 by the two entries of the day. -/
theorem DayPlan.locked_iff (p : DayPlan) (now : Nat) : p.locked now = true ↔
    (∃ l r, p.lockup = some l ∧ p.release = some r ∧ r < l ∧ (l ≤ now ∨ now < r)) ∨
    (∃ l r, p.lockup = some l ∧ p.release = some r ∧ l < r ∧ (l ≤ now ∧ now < r)) ∨
    (∃ l, p.lockup = some l ∧ p.release = none ∧ l ≤ now) ∨
    (∃ r, p.lockup = none ∧ p.release = some r ∧ now < r) := by
  obtain ⟨lockup, release⟩ := p
  cases lockup with
  | none => cases release <;> simp [DayPlan.locked]
  | some l =>
    cases release with
    | none => simp [DayPlan.locked]
    | some r => by_cases h : r < l <;> simp [DayPlan.locked, h] <;> omega

theorem State.inLockedPeriod_iff (s : State) (z : ZoneNo) : s.inLockedPeriod z = true ↔
    s.clock.valid = true ∧ ((s.zone z).live.get s.clock.dayType).locked s.clock.minute = true := Bool.and_eq_true_iff

/-- Byte 14 of a ZONE_READ reply (R178). -/
theorem State.zoneReadReply_locked (s : State) (z : ZoneNo) :
    (s.zoneReadReply z)[14]? = some (flagByte (s.inLockedPeriod z)) := rfl

theorem exec_zoneRead_ok (s : State) (z : ZoneNo) : exec (.zoneRead (BitVec.ofNat 8 z.val)) s =
    .next { s.secondRuns with blockResult := some (okWith (s.secondRuns.zoneReadReply z)) } := by
  have h : takeZoneRead (BitVec.ofNat 8 z.val) s.secondRuns = (s.secondRuns, okWith (s.secondRuns.zoneReadReply z)) := by
    rw [takeZoneRead, finOfByte_ofNat]
  exact congrArg (fun r : State × Answer => Host.Outcome.next { r.1 with blockResult := some r.2 }) h

/-- Settles O16: the table of R47 row by row, and byte 14 of the reply. -/
theorem lockedPeriodByTable : Obligations.LockedPeriodByTable := by
  intro s z
  refine ⟨?_, _, _, exec_zoneRead_ok s z, rfl, s.secondRuns.zoneReadReply_locked z⟩
  rw [State.inLockedPeriod_iff, DayPlan.locked_iff]
  rfl

end Sys2Proof.Machine


namespace Sys2Proof.Machine

/-! ### What the zone state is derived from -/

theorem State.mem_zoneDoors {s : State} {z : ZoneNo} {x : Door} :
    x ∈ s.zoneDoors z ↔ ∃ d, s.IsDoorOf z d ∧ s.door d = x := by
  simp only [State.zoneDoors, List.mem_filter, Vector.mem_toList_iff, Vector.mem_iff_getElem, Bool.and_eq_true,
    beq_iff_eq]
  constructor
  · rintro ⟨⟨i, hi, rfl⟩, hc⟩
    exact ⟨⟨i, hi⟩, hc, rfl⟩
  · rintro ⟨d, hc, rfl⟩
    exact ⟨⟨d.val, d.isLt, rfl⟩, hc⟩

theorem State.fireBarred_iff {s : State} {z : ZoneNo} : s.fireBarred z = true ↔ s.Barred z := by
  simp only [State.fireBarred, State.isFireZone, Bool.and_eq_true, Bool.not_eq_true', beq_eq_false_iff_ne,
    List.any_eq_true, State.mem_zoneDoors]
  exact and_congr_right fun _ => ⟨fun ⟨_, ⟨d, hd, e⟩, hf⟩ => ⟨d, hd.1, hd.2, e ▸ hf⟩,
    fun ⟨d, hc, hz, hf⟩ => ⟨_, ⟨d, ⟨hc, hz⟩, rfl⟩, hf⟩⟩

theorem State.mem_sweeps {s : State} {k : SlotNo} {w : Sweep} : (k, w) ∈ s.sweeps ↔ s.slot k = some w := by
  simp only [State.sweeps, List.mem_filterMap, List.mem_finRange, true_and, Option.map_eq_some_iff, Prod.mk.injEq]
  exact ⟨fun ⟨j, v, hv, hj, hw⟩ => hj ▸ hw ▸ hv, fun h => ⟨k, w, h, rfl, rfl⟩⟩

/-- Two sweeps are of two zones, so that the sweep found for a zone is the one a slot holds. -/
theorem State.sweepOf_eq_some {s : State} (hs : s.SweepLaw) {k : SlotNo} {w : Sweep} (hw : s.slot k = some w) :
    s.sweepOf w.zone = some (k, w) := by
  obtain ⟨⟨j, v⟩, hf⟩ : ∃ e, s.sweepOf w.zone = some e :=
    Option.isSome_iff_exists.mp (List.find?_isSome.mpr ⟨_, State.mem_sweeps.mpr hw, beq_self_eq_true _⟩)
  have hv : s.slot j = some v := State.mem_sweeps.mp (List.mem_of_find?_eq_some hf)
  have hz : v.zone = w.zone := by simpa using List.find?_some hf
  obtain rfl : j = k := hs.1 j k v hv w hw hz
  rw [hf, Option.some.inj (hv.symm.trans hw)]

theorem State.sweepOf_eq_none {s : State} {z : ZoneNo} : s.sweepOf z = none ↔ ¬ s.HasSweep z := by
  simp only [State.sweepOf, List.find?_eq_none, Prod.forall, State.mem_sweeps, State.HasSweep, Option.map_eq_some_iff,
    not_exists, not_and, beq_iff_eq]

/-! ### The zone state of the doors -/

section
variable {l : List Door}

theorem doorsZoneState_nil : doorsZoneState [] = .opened := rfl

theorem doorsZoneState_unknown (h : ∃ x ∈ l, x.state = .unknown) : doorsZoneState l = .unknown := by
  have hu : l.any (fun x => x.state == .unknown) = true := by simpa using h
  have hn : l.isEmpty = false := by
    obtain ⟨x, hx, -⟩ := h
    exact List.isEmpty_eq_false_iff.mpr (List.ne_nil_of_mem hx)
  simp only [doorsZoneState, hn, hu, Bool.false_eq_true, if_false, if_true]

/-- Cases 5 to 7 of R48: doors there are, and none is UNKNOWN. -/
theorem doorsZoneState_known (hn : l ≠ []) (h : ∀ x ∈ l, x.state ≠ .unknown) : doorsZoneState l =
    if l.all (fun x => x.state.matchesDir .lock) then .secured
    else if l.all (fun x => x.state.matchesDir .release) then .opened else .partly := by
  have hu : l.any (fun x => x.state == .unknown) = false := by simpa using h
  simp only [doorsZoneState, List.isEmpty_eq_false_iff.mpr hn, hu, Bool.false_eq_true, if_false]

theorem doorsZoneState_secured (hn : l ≠ []) (h : ∀ x ∈ l, x.state = .secured ∨ x.state = .passage) :
    doorsZoneState l = .secured := by
  have hk : ∀ x ∈ l, x.state ≠ .unknown := fun x hx hu => by simpa [hu] using h x hx
  have ha : l.all (fun x => x.state.matchesDir .lock) = true := by simpa [DoorState.matchesDir] using h
  rw [doorsZoneState_known hn hk, if_pos ha]

theorem doorsZoneState_opened (hn : l ≠ []) (h : ∀ x ∈ l, x.state = .released) : doorsZoneState l = .opened := by
  have hk : ∀ x ∈ l, x.state ≠ .unknown := fun x hx hu => by simpa [hu] using h x hx
  have hl : ¬ l.all (fun x => x.state.matchesDir .lock) = true := by
    obtain ⟨x, hx⟩ := List.exists_mem_of_ne_nil l hn
    exact fun ha => absurd (List.all_eq_true.mp ha x hx) (by rw [h x hx]; decide)
  have ha : l.all (fun x => x.state.matchesDir .release) = true := by simpa [DoorState.matchesDir] using h
  rw [doorsZoneState_known hn hk, if_neg hl, if_pos ha]

theorem doorsZoneState_partly (hl : ∃ x ∈ l, x.state ≠ .secured ∧ x.state ≠ .passage)
    (hr : ∃ x ∈ l, x.state ≠ .released) (h : ∀ x ∈ l, x.state ≠ .unknown) : doorsZoneState l = .partly := by
  have hn : l ≠ [] := by
    obtain ⟨x, hx, -⟩ := hr
    exact List.ne_nil_of_mem hx
  have hlock : ¬ l.all (fun x => x.state.matchesDir .lock) = true := by simpa [DoorState.matchesDir] using hl
  have hrel : ¬ l.all (fun x => x.state.matchesDir .release) = true := by simpa [DoorState.matchesDir] using hr
  rw [doorsZoneState_known hn h, if_neg hlock, if_neg hrel]

end

/-! ### The derived zone state, case by case -/

theorem State.deriveZone_fire {s : State} {z : ZoneNo} (h : s.Barred z) : s.deriveZone z = .fire :=
  if_pos (State.fireBarred_iff.mpr h)

theorem State.deriveZone_sweep {s : State} {k : SlotNo} {w : Sweep} (hs : s.SweepLaw) (hb : ¬ s.Barred w.zone)
    (hw : s.slot k = some w) : s.deriveZone w.zone = w.zoneState := by
  rw [State.deriveZone, if_neg (State.fireBarred_iff.not.mpr hb), State.sweepOf_eq_some hs hw]

theorem State.deriveZone_doors {s : State} {z : ZoneNo} (hb : ¬ s.Barred z) (hs : ¬ s.HasSweep z) :
    s.deriveZone z = doorsZoneState (s.zoneDoors z) := by
  rw [State.deriveZone, if_neg (State.fireBarred_iff.not.mpr hb), State.sweepOf_eq_none.mpr hs]

section
variable {s : State} {z : ZoneNo} {P : Door → Prop}

theorem State.exists_zoneDoors : (∃ x ∈ s.zoneDoors z, P x) ↔ ∃ d, s.IsDoorOf z d ∧ P (s.door d) := by
  simp only [State.mem_zoneDoors]
  exact ⟨fun ⟨_, ⟨d, hd, e⟩, hp⟩ => ⟨d, hd, e ▸ hp⟩, fun ⟨d, hd, hp⟩ => ⟨_, ⟨d, hd, rfl⟩, hp⟩⟩

theorem State.forall_zoneDoors : (∀ x ∈ s.zoneDoors z, P x) ↔ ∀ d, s.IsDoorOf z d → P (s.door d) := by
  simp only [State.mem_zoneDoors]
  exact ⟨fun h d hd => h _ ⟨d, hd, rfl⟩, fun h _ ⟨d, hd, e⟩ => e ▸ h d hd⟩

theorem State.zoneDoors_ne_nil : s.zoneDoors z ≠ [] ↔ ∃ d, s.IsDoorOf z d := by
  constructor
  · intro h
    obtain ⟨x, hx⟩ := List.exists_mem_of_ne_nil _ h
    exact (State.mem_zoneDoors.mp hx).imp fun _ ⟨hd, _⟩ => hd
  · rintro ⟨d, hd⟩
    exact List.ne_nil_of_mem (State.mem_zoneDoors.mpr ⟨d, hd, rfl⟩)

end

/-- Settles O17: the zone state is the derived one, and each case of R48 gives its own. -/
theorem zoneStateByFirstCase : Obligations.ZoneStateByFirstCase := by
  intro s z hz hs
  simp only [hz z]
  refine ⟨State.deriveZone_fire, fun hb k w hw e => ?sweep, fun hb hn => ?doors⟩
  case sweep =>
    subst e
    exact State.deriveZone_sweep hs hb hw
  case doors =>
    rw [State.deriveZone_doors hb hn]
    refine ⟨fun h => ?_, fun h => doorsZoneState_unknown (State.exists_zoneDoors.mpr ?_),
      fun he h => doorsZoneState_secured (State.zoneDoors_ne_nil.mpr ?_) (State.forall_zoneDoors.mpr h),
      fun he h => doorsZoneState_opened (State.zoneDoors_ne_nil.mpr he) (State.forall_zoneDoors.mpr h),
      fun hl hr h => doorsZoneState_partly (State.exists_zoneDoors.mpr ?_) (State.exists_zoneDoors.mpr ?_)
        (State.forall_zoneDoors.mpr h)⟩
    · have he : s.zoneDoors z = [] := not_ne_iff.mp (State.zoneDoors_ne_nil.not.mpr fun ⟨d, hd⟩ => h d hd)
      rw [he, doorsZoneState_nil]
    · exact h.imp fun _ ⟨hd, hu⟩ => ⟨hd, hu⟩
    · exact he
    · exact hl.imp fun _ ⟨hd, hu⟩ => ⟨hd, hu⟩
    · exact hr.imp fun _ ⟨hd, hu⟩ => ⟨hd, hu⟩

end Sys2Proof.Machine


namespace Sys2Proof.Machine

/-! ### A group load, zone by zone -/

/-- A walk over different zones whose every round writes its own zone. -/
theorem zone_forEach {g : ZoneNo → State → State} {f : Zone → Zone}
    (hg : ∀ z s y, (g z s).zone y = if y = z then f (s.zone z) else s.zone y) {l : List ZoneNo} (hl : l.Nodup)
    (s : State) (y : ZoneNo) : (forEach l g s).zone y = if y ∈ l then f (s.zone y) else s.zone y := by
  induction l generalizing s with
  | nil => rfl
  | cons z l ih =>
    obtain ⟨hz, hl⟩ := List.nodup_cons.mp hl
    refine (ih hl (g z s)).trans ?_
    rw [hg]
    by_cases h : y = z
    · subst h
      simp [hz]
    · simp [h]

theorem State.zone_groupLoad (s : State) (l y : ZoneNo) :
    (s.groupLoad l).zone y = if (s.zone y).leader = l then (s.zone y).load else s.zone y := by
  refine (zone_forEach (f := fun x => if x.leader = l then x.load else x) (fun z s y => ?_)
    (List.nodup_finRange 32) s y).trans (if_pos (List.mem_finRange y))
  split
  · rw [State.zone_updZone]
  · split
    · next e => rw [e]
    · rfl

/-- The state with another Zone Table. -/
def State.setZones (s : State) (v : Vector Zone 32) : State := { s with zones := v }

theorem State.setZones_self (s : State) : s.setZones s.zones = s := rfl

/-- A group load writes the Zone Table alone. -/
theorem State.groupLoad_rest (s : State) (l : ZoneNo) : s.groupLoad l = { s with zones := (s.groupLoad l).zones } := by
  have h : (s.groupLoad l).setZones = s.setZones := by
    refine forEach_same _ (fun y s => ?_) s
    split <;> rfl
  exact (State.setZones_self _).symm.trans (congrFun h _)

theorem Zone.load_due {x : Zone} (h : x.loadPending = true) : x.load = { x with live := x.staged, loadPending := false } :=
  if_pos h

theorem Zone.load_idle {x : Zone} (h : x.loadPending = false) : x.load = x := if_neg (by simp [h])

/-! ### The values of the zone requests -/

theorem finOfByte_eq_some {n : Nat} {b : Byte} {z : Fin n} : finOfByte n b = some z ↔ b.toNat = z.val := by
  by_cases h : b.toNat < n
  · simp [finOfByte_lt h, Fin.ext_iff]
  · simp only [finOfByte_ge h, reduceCtorEq, false_iff]
    exact fun e => h (e ▸ z.isLt)

theorem loadRuleOfByte_eq_some {b : Byte} {r : LoadRule} : loadRuleOfByte b = some r ↔ loadRuleByte r = b := by
  constructor
  · intro h
    unfold loadRuleOfByte at h
    split at h <;> cases h <;> (next e => exact BitVec.eq_of_toNat_eq e.symm)
  · rintro rfl
    cases r <;> rfl

theorem loadRuleOfByte_range {b : Byte} : (∃ r, loadRuleOfByte b = some r) ↔ b.toNat ≤ 2 := by
  constructor
  · rintro ⟨r, h⟩
    rw [← loadRuleOfByte_eq_some.mp h]
    cases r <;> decide
  · intro h
    have : b.toNat = 0 ∨ b.toNat = 1 ∨ b.toNat = 2 := by omega
    refine Option.isSome_iff_exists.mp ?_
    rcases this with e | e | e <;> simp [loadRuleOfByte, e]

theorem dayTypeOfByte_eq_some {b : Byte} {k : DayType} : dayTypeOfByte b = some k ↔ dayTypeByte k = b := by
  constructor
  · intro h
    unfold dayTypeOfByte at h
    split at h <;> cases h <;> (next e => exact BitVec.eq_of_toNat_eq e.symm)
  · rintro rfl
    cases k <;> rfl

theorem dayTypeOfByte_range {b : Byte} : (∃ k, dayTypeOfByte b = some k) ↔ b.toNat ≤ 3 := by
  constructor
  · rintro ⟨k, h⟩
    rw [← dayTypeOfByte_eq_some.mp h]
    cases k <;> decide
  · intro h
    have : b.toNat = 0 ∨ b.toNat = 1 ∨ b.toNat = 2 ∨ b.toNat = 3 := by omega
    refine Option.isSome_iff_exists.mp ?_
    rcases this with e | e | e | e <;> simp [dayTypeOfByte, e]

/-- A minute's value in range, read. -/
def minuteRead (w : Word16) : Option Nat := if w = 0xFFFF then none else some w.toNat

theorem minuteOfWord_eq_some {w : Word16} {m : Option Nat} :
    minuteOfWord w = some m ↔ (w = 0xFFFF ∨ w.toNat ≤ 1439) ∧ minuteRead w = m := by
  unfold minuteOfWord minuteRead
  by_cases h : w = 0xFFFF
  · rw [if_pos h, if_pos h]
    simp [h]
  · by_cases g : w.toNat ≤ 1439
    · rw [if_neg h, if_neg h, if_pos g]
      simp [g]
    · rw [if_neg h, if_neg g]
      simp only [reduceCtorEq, h, g, or_self, false_and]

theorem equalMinutes_iff {a b : Word16} :
    equalMinutes (minuteRead a) (minuteRead b) = true ↔ ¬ (a = b → a = 0xFFFF) := by
  unfold equalMinutes minuteRead
  by_cases ha : a = 0xFFFF
  · rw [if_pos ha]
    simp [ha]
  · by_cases hb : b = 0xFFFF
    · have hab : a ≠ b := fun e => ha (e.trans hb)
      rw [if_neg ha, if_pos hb]
      simp [hab]
    · rw [if_neg ha, if_neg hb]
      simp only [Option.isSome_some, Bool.true_and, beq_iff_eq, Option.some.injEq, BitVec.toNat_inj, ha, imp_false, not_not]

theorem answered_taken {take : State → State × Answer} {s t : State} {a : Answer} (h : take s.later = (t, a)) :
    answered take s = .next { t with blockResult := some a } := by
  rw [answered_eq]
  exact congrArg (fun r : State × Answer => Host.Outcome.next { r.1 with blockResult := some r.2 }) h

end Sys2Proof.Machine


namespace Sys2Proof.Machine

/-! ### ZONE_SET (R36) -/

section
variable {zone rank lead chime passage ajar leader rule : Byte} {s : State}

theorem zoneSettingsInRange_iff : zoneSettingsInRange lead chime passage ajar = true ↔
    lead.toNat ≤ 15 ∧ chime.toNat ≤ 7 ∧ 5 ≤ passage.toNat ∧ ajar.toNat ≤ 60 := by
  simp [zoneSettingsInRange, and_assoc]

theorem State.leadsOthers_iff {z : ZoneNo} : s.leadsOthers z = true ↔ ∃ y, y ≠ z ∧ (s.zone y).leader = z := by
  simp [State.leadsOthers]

/-- The values of a ZONE_SET lie in their ranges (R33, R36). -/
abbrev ZoneSetInRange (zone lead chime passage ajar leader rule : Byte) : Prop :=
  zone.toNat < 32 ∧ leader.toNat < 32 ∧ rule.toNat ≤ 2 ∧ lead.toNat ≤ 15 ∧ chime.toNat ≤ 7 ∧
    5 ≤ passage.toNat ∧ ajar.toNat ≤ 60

/-- The checks of R36 after those of the ranges: a leader other than the zone leads its own group, and the zone then
leads no other. -/
abbrev State.LeaderConflict (s : State) (z l : ZoneNo) : Prop :=
  l ≠ z ∧ ((s.zone l).leader ≠ l ∨ ∃ y, y ≠ z ∧ (s.zone y).leader = z)

theorem takeZoneSet_range (h : ¬ ZoneSetInRange zone lead chime passage ajar leader rule) :
    takeZoneSet zone rank lead chime passage ajar leader rule s = (s, refusal .range) := by
  unfold takeZoneSet
  split
  · next z l r hz hl hr =>
      refine if_neg fun hs => h ⟨?_, ?_, loadRuleOfByte_range.mp ⟨r, hr⟩, zoneSettingsInRange_iff.mp hs⟩
      · exact (finOfByte_eq_some.mp hz).symm ▸ z.isLt
      · exact (finOfByte_eq_some.mp hl).symm ▸ l.isLt
  · rfl

/-- In range, the group checks decide. -/
theorem takeZoneSet_inRange (h : ZoneSetInRange zone lead chime passage ajar leader rule) {r : LoadRule}
    (hr : loadRuleByte r = rule) : takeZoneSet zone rank lead chime passage ajar leader rule s =
      let z : ZoneNo := ⟨zone.toNat, h.1⟩
      let l : ZoneNo := ⟨leader.toNat, h.2.1⟩
      if l ≠ z ∧ (s.zone l).leader ≠ l then (s, refusal .conflict)
      else if l ≠ z ∧ s.leadsOthers z then (s, refusal .conflict)
      else (s.updZone z (fun x => { x with
        rank := rank.toNat, lead := lead.toNat, chime := chime.toNat, passageLimit := passage.toNat,
        ajarInterval := ajar.toNat, leader := l, rule := r }), okWith []) := by
  obtain ⟨hz, hl, -, hs⟩ := h
  unfold takeZoneSet
  rw [finOfByte_lt hz, finOfByte_lt hl, loadRuleOfByte_eq_some.mpr hr]
  exact if_pos (zoneSettingsInRange_iff.mpr hs)

theorem takeZoneSet_conflict (h : ZoneSetInRange zone lead chime passage ajar leader rule)
    (hc : s.LeaderConflict ⟨zone.toNat, h.1⟩ ⟨leader.toNat, h.2.1⟩) :
    takeZoneSet zone rank lead chime passage ajar leader rule s = (s, refusal .conflict) := by
  obtain ⟨r, hr⟩ := loadRuleOfByte_range.mpr h.2.2.1
  rw [takeZoneSet_inRange h (loadRuleOfByte_eq_some.mp hr)]
  obtain ⟨hne, hg | hg⟩ := hc
  · exact if_pos ⟨hne, hg⟩
  · dsimp only
    split
    · rfl
    · exact if_pos ⟨hne, State.leadsOthers_iff.mpr hg⟩

theorem takeZoneSet_ok (h : ZoneSetInRange zone lead chime passage ajar leader rule) {r : LoadRule}
    (hr : loadRuleByte r = rule) (hc : ¬ s.LeaderConflict ⟨zone.toNat, h.1⟩ ⟨leader.toNat, h.2.1⟩) :
    takeZoneSet zone rank lead chime passage ajar leader rule s =
      (s.updZone ⟨zone.toNat, h.1⟩ (fun x => { x with
        rank := rank.toNat, lead := lead.toNat, chime := chime.toNat, passageLimit := passage.toNat,
        ajarInterval := ajar.toNat, leader := ⟨leader.toNat, h.2.1⟩, rule := r }), okWith []) := by
  rw [takeZoneSet_inRange h hr]
  exact (if_neg fun hg => hc ⟨hg.1, .inl hg.2⟩).trans
    (if_neg fun hg => hc ⟨hg.1, .inr (State.leadsOthers_iff.mp hg.2)⟩)

end

/-! ### PLAN_STAGE and PLAN_LOAD (R39, R40) -/

section
variable {zone day : Byte} {lock rel : Word16} {s : State}

/-- The values of a PLAN_STAGE lie in their ranges, and its minutes differ (R39). -/
abbrev PlanStageInRange (zone day : Byte) (lock rel : Word16) : Prop :=
  zone.toNat < 32 ∧ day.toNat ≤ 3 ∧ (lock = 0xFFFF ∨ lock.toNat ≤ 1439) ∧ (rel = 0xFFFF ∨ rel.toNat ≤ 1439) ∧
    (lock = rel → lock = 0xFFFF)

/-- The record of a zone with the staging of zone `z`. -/
def State.stagedZone (s : State) (z : ZoneNo) (k : DayType) (p : DayPlan) (y : ZoneNo) : Zone :=
  if y = z then (s.zone z).stage k p else s.zone y

theorem State.zone_updZone_stage (z : ZoneNo) (k : DayType) (p : DayPlan) (y : ZoneNo) :
    (s.updZone z (Zone.stage k p)).zone y = s.stagedZone z k p y := State.zone_updZone s z y _

theorem State.leader_stagedZone (z : ZoneNo) (k : DayType) (p : DayPlan) (y : ZoneNo) :
    (s.stagedZone z k p y).leader = (s.zone y).leader := by
  unfold State.stagedZone
  split
  · next h => rw [h]; rfl
  · rfl

theorem State.rule_stagedZone (z : ZoneNo) (k : DayType) (p : DayPlan) (y : ZoneNo) :
    (s.stagedZone z k p y).rule = (s.zone y).rule := by
  unfold State.stagedZone
  split
  · next h => rw [h]; rfl
  · rfl

/-- The state after a staging: the zone's staged entries, then the load of its group if its leader's rule is
IMMEDIATE (R39, R43). -/
def State.stagePlan (s : State) (z : ZoneNo) (k : DayType) (p : DayPlan) : State :=
  if (s.zone (s.zone z).leader).rule = .immediate then (s.updZone z (Zone.stage k p)).groupLoad (s.zone z).leader
  else s.updZone z (Zone.stage k p)

theorem takePlanStage_range (h : ¬ PlanStageInRange zone day lock rel) :
    takePlanStage zone day lock rel s = (s, refusal .range) := by
  unfold takePlanStage
  split
  · next z k l r hz hk hl hr =>
      obtain ⟨hlr, rfl⟩ := minuteOfWord_eq_some.mp hl
      obtain ⟨hrr, rfl⟩ := minuteOfWord_eq_some.mp hr
      refine if_pos (equalMinutes_iff.mpr fun he => h ⟨?_, dayTypeOfByte_range.mp ⟨k, hk⟩, hlr, hrr, he⟩)
      exact (finOfByte_eq_some.mp hz).symm ▸ z.isLt
  · rfl

theorem takePlanStage_inRange (h : PlanStageInRange zone day lock rel) {k : DayType} (hk : dayTypeByte k = day) :
    takePlanStage zone day lock rel s =
      (s.stagePlan ⟨zone.toNat, h.1⟩ k ⟨minuteRead lock, minuteRead rel⟩, okWith []) := by
  obtain ⟨hz, -, hl, hr, hne⟩ := h
  unfold takePlanStage
  rw [finOfByte_lt hz, dayTypeOfByte_eq_some.mpr hk, minuteOfWord_eq_some.mpr ⟨hl, rfl⟩, minuteOfWord_eq_some.mpr ⟨hr, rfl⟩]
  refine (if_neg (fun he => equalMinutes_iff.mp he hne)).trans ?_
  simp only [State.zone_updZone_stage, State.leader_stagedZone, State.rule_stagedZone]
  rfl

/-- Each zone after a staging: the named one has its entries, and the group of an IMMEDIATE leader is loaded. -/
theorem State.zone_stagePlan (z : ZoneNo) (k : DayType) (p : DayPlan) (y : ZoneNo) : (s.stagePlan z k p).zone y =
    if (s.zone (s.zone z).leader).rule = .immediate ∧ (s.zone y).leader = (s.zone z).leader then
      (s.stagedZone z k p y).load
    else s.stagedZone z k p y := by
  by_cases hi : (s.zone (s.zone z).leader).rule = .immediate
  · rw [State.stagePlan, if_pos hi, State.zone_groupLoad, State.zone_updZone_stage, State.leader_stagedZone]
    exact if_congr (and_iff_right hi).symm rfl rfl
  · rw [State.stagePlan, if_neg hi, State.zone_updZone_stage, if_neg fun h => hi h.1]

theorem State.stagePlan_rest (z : ZoneNo) (k : DayType) (p : DayPlan) :
    s.stagePlan z k p = { s with zones := (s.stagePlan z k p).zones } := by
  unfold State.stagePlan
  split
  · exact State.groupLoad_rest _ _
  · rfl

/-- A staging and a load written as one record. -/
theorem State.stagedZone_eq (z : ZoneNo) (k : DayType) (p : DayPlan) (y : ZoneNo) :
    let staged := if y = z then (s.zone z).staged.set k p else (s.zone y).staged
    s.stagedZone z k p y = { s.zone y with
      staged := staged
      loadPending := if y = z then decide (staged ≠ (s.zone z).live) else (s.zone y).loadPending } := by
  unfold State.stagedZone
  by_cases h : y = z
  · subst h
    simp only [Zone.stage, if_pos, decide_not, beq_eq_decide]
  · simp [h]

/-- A staging zone by zone, as a record. -/
theorem State.zone_stagePlan_eq (z : ZoneNo) (k : DayType) (p : DayPlan) (y : ZoneNo) :
    let staged := if y = z then (s.zone z).staged.set k p else (s.zone y).staged
    let due := if y = z then decide (staged ≠ (s.zone z).live) else (s.zone y).loadPending
    let loads := decide ((s.zone (s.zone z).leader).rule = .immediate ∧ (s.zone y).leader = (s.zone z).leader) && due
    (s.stagePlan z k p).zone y = { s.zone y with
      staged := staged
      live := if loads then staged else (s.zone y).live
      loadPending := if loads then false else due } := by
  intro staged due loads
  have hx : s.stagedZone z k p y = { s.zone y with staged := staged, loadPending := due } := State.stagedZone_eq z k p y
  rw [State.zone_stagePlan, hx]
  by_cases hc : (s.zone (s.zone z).leader).rule = .immediate ∧ (s.zone y).leader = (s.zone z).leader
  · have hl : loads = due := by simp only [loads, decide_eq_true hc, Bool.true_and]
    rw [if_pos hc, hl]
    clear_value due
    cases due <;> rfl
  · have hl : loads = false := by simp only [loads, decide_eq_false hc, Bool.false_and]
    rw [if_neg hc, hl]
    rfl

theorem takePlanLoad_range (h : ¬ zone.toNat < 32) : takePlanLoad zone s = (s, refusal .range) := by
  rw [takePlanLoad, finOfByte_ge h]

theorem takePlanLoad_inRange (h : zone.toNat < 32) :
    takePlanLoad zone s = (s.groupLoad (s.zone ⟨zone.toNat, h⟩).leader, okWith []) := by
  rw [takePlanLoad, finOfByte_lt h]

end

/-! ### The three requests -/

theorem State.zone_answer (u : State) (b : Option Answer) (y : ZoneNo) :
    ({ u with blockResult := b } : State).zone y = u.zone y := rfl

theorem zoneSet_answered (s : State) (zone rank lead chime passage ajar leader rule : Byte) :
    if h : ZoneSetInRange zone lead chime passage ajar leader rule then
      if s.LeaderConflict ⟨zone.toNat, h.1⟩ ⟨leader.toNat, h.2.1⟩ then
        exec (.zoneSet zone rank lead chime passage ajar leader rule) s = .next (s.refusedAs .conflict)
      else ∀ r, loadRuleByte r = rule →
        exec (.zoneSet zone rank lead chime passage ajar leader rule) s = .next { s.later with
          zones := s.zones.set zone.toNat { s.zone ⟨zone.toNat, h.1⟩ with
            rank := rank.toNat, lead := lead.toNat, chime := chime.toNat, passageLimit := passage.toNat
            ajarInterval := ajar.toNat, leader := ⟨leader.toNat, h.2.1⟩, rule := r } h.1
          blockResult := some ⟨.ok, []⟩ }
    else exec (.zoneSet zone rank lead chime passage ajar leader rule) s = .next (s.refusedAs .range) := by
  split
  · next h =>
      split
      · next hc => exact answered_taken (takeZoneSet_conflict (s := s.later) h hc)
      · next hc => exact fun r hr => answered_taken (takeZoneSet_ok (s := s.later) h hr hc)
  · next h => exact answered_taken (takeZoneSet_range h)

theorem planStage_answered (s : State) (zone day : Byte) (lock rel : Word16) :
    ∃ t, exec (.planStage zone day lock rel) s = .next t ∧
      if h : PlanStageInRange zone day lock rel then
        t = { s.later with zones := t.zones, blockResult := some ⟨.ok, []⟩ } ∧
        ∀ k : DayType, dayTypeByte k = day → ∀ y : ZoneNo,
          t.zone y = (s.stagePlan ⟨zone.toNat, h.1⟩ k ⟨minuteRead lock, minuteRead rel⟩).zone y
      else t = s.refusedAs .range := by
  by_cases h : PlanStageInRange zone day lock rel
  · obtain ⟨k, hk⟩ := dayTypeOfByte_range.mpr h.2.1
    have hk := dayTypeOfByte_eq_some.mp hk
    refine ⟨_, answered_taken (takePlanStage_inRange (s := s.later) h hk), ?_⟩
    rw [dif_pos h]
    refine ⟨?rest, fun j hj y => ?zones⟩
    case rest =>
      exact congrArg (fun t : State => { t with blockResult := some ⟨.ok, []⟩ }) (State.stagePlan_rest _ _ _)
    case zones =>
      obtain rfl : j = k := Option.some.inj
        ((dayTypeOfByte_eq_some.mpr hj).symm.trans (dayTypeOfByte_eq_some.mpr hk))
      exact (State.zone_stagePlan (s := s.later) _ _ _ y).trans (State.zone_stagePlan (s := s) _ _ _ y).symm
  · exact ⟨_, answered_taken (takePlanStage_range h), (dif_neg h).mpr rfl⟩

theorem State.zone_groupLoad_eq (s : State) (l y : ZoneNo) : (s.groupLoad l).zone y =
    if (s.zone y).leader = l ∧ (s.zone y).loadPending = true then
      { s.zone y with live := (s.zone y).staged, loadPending := false }
    else s.zone y := by
  rw [State.zone_groupLoad]
  by_cases hl : (s.zone y).leader = l
  · by_cases hp : (s.zone y).loadPending = true
    · rw [if_pos hl, if_pos ⟨hl, hp⟩, Zone.load_due hp]
    · rw [if_pos hl, if_neg fun h => hp h.2, Zone.load_idle (Bool.eq_false_iff.mpr hp)]
  · rw [if_neg hl, if_neg fun h => hl h.1]

theorem planLoad_answered (s : State) (zone : Byte) : ∃ t, exec (.planLoad zone) s = .next t ∧
    if h : zone.toNat < 32 then
      t = { s.later with zones := t.zones, blockResult := some ⟨.ok, []⟩ } ∧
      ∀ y : ZoneNo, t.zone y = (s.groupLoad (s.zone ⟨zone.toNat, h⟩).leader).zone y
    else t = s.refusedAs .range := by
  by_cases h : zone.toNat < 32
  · refine ⟨_, answered_taken (takePlanLoad_inRange (s := s.later) h), ?_⟩
    rw [dif_pos h]
    refine ⟨?rest, fun y => ?zones⟩
    case rest => exact congrArg (fun t : State => { t with blockResult := some ⟨.ok, []⟩ }) (State.groupLoad_rest _ _)
    case zones =>
      exact (State.zone_answer _ _ y).trans ((State.zone_groupLoad s.later _ y).trans (State.zone_groupLoad s _ y).symm)
  · exact ⟨_, answered_taken (takePlanLoad_range h), (dif_neg h).mpr rfl⟩

/-- Settles O18: the checks of each request in order, then the zones it writes. -/
theorem zoneAndPlanRequests : Obligations.ZoneAndPlanRequests := by
  refine ⟨zoneSet_answered, fun s zone day lock rel => ⟨?stage, ?load⟩⟩
  case stage =>
    obtain ⟨t, ht, h⟩ := planStage_answered s zone day lock rel
    refine ⟨t, ht, ?_⟩
    split at h
    · next hr =>
        obtain ⟨hrest, hz⟩ := h
        exact (dif_pos hr).mpr ⟨hrest, fun k hk y => (hz k hk y).trans (State.zone_stagePlan_eq _ _ _ y)⟩
    · next hr => exact (dif_neg hr).mpr h
  case load =>
    obtain ⟨t, ht, h⟩ := planLoad_answered s zone
    refine ⟨t, ht, ?_⟩
    split at h
    · next hr =>
        obtain ⟨hrest, hz⟩ := h
        exact (dif_pos hr).mpr ⟨hrest, fun y => (hz y).trans (State.zone_groupLoad_eq s _ y)⟩
    · next hr => exact (dif_neg hr).mpr h

end Sys2Proof.Machine


namespace Sys2Proof.Machine

/-! ### The entry and the record of a door through the work of others -/

section
variable {d e : DoorNo}

theorem entryOf_cons_ne {x : Entry} (h : x.door ≠ d) (q : List Entry) : entryOf d (x :: q) = entryOf d q :=
  List.find?_cons_of_neg (by simpa using h)

theorem entryOf_cons_self {x : Entry} (h : x.door = d) (q : List Entry) : entryOf d (x :: q) = some x :=
  List.find?_cons_of_pos (by simpa using h)

theorem entriesIn_of_mem {x : Entry} {q : List Entry} (h : x ∈ q) : 1 ≤ entriesIn x.door q := by
  rw [Nat.one_le_iff_ne_zero]
  exact fun h0 => entriesIn_eq_zero.mp h0 x h rfl

/-- A door with one entry at most has the entry that is there. -/
theorem entryOf_eq_some {q : List Entry} (h : entriesIn d q ≤ 1) {x : Entry} :
    entryOf d q = some x ↔ x ∈ q ∧ x.door = d := by
  constructor
  · intro hx
    exact ⟨List.mem_of_find?_eq_some hx, by simpa using List.find?_some hx⟩
  · rintro ⟨hx, rfl⟩
    induction q with
    | nil => cases hx
    | cons y q ih =>
      by_cases hy : y.door = x.door
      · rcases List.mem_cons.mp hx with rfl | hm
        · exact entryOf_cons_self rfl q
        · have := entriesIn_of_mem hm
          rw [entriesIn_cons, if_pos hy] at h
          omega
      · rw [entryOf_cons_ne hy]
        rw [entriesIn_cons, if_neg hy, Nat.zero_add] at h
        rcases List.mem_cons.mp hx with rfl | hm
        · exact absurd rfl hy
        · exact ih hm h

theorem entryOf_perm {p q : List Entry} (h : p.Perm q) (hq : entriesIn d q ≤ 1) : entryOf d p = entryOf d q := by
  refine Option.ext fun x => ?_
  rw [entryOf_eq_some hq, entryOf_eq_some ((entriesIn_perm h).trans_le hq), h.mem_iff]

theorem entryOf_withoutDoor_ne (h : d ≠ e) (q : List Entry) : entryOf d (withoutDoor e q) = entryOf d q := by
  induction q with
  | nil => rfl
  | cons x q ih =>
    by_cases hx : x.door = e
    · rw [withoutDoor, List.filter_cons_of_neg (by simpa using hx), entryOf_cons_ne (hx ▸ h.symm)]
      exact ih
    · rw [withoutDoor, List.filter_cons_of_pos (by simpa using hx)]
      by_cases hd : x.door = d
      · rw [entryOf_cons_self hd, entryOf_cons_self hd]
      · rw [entryOf_cons_ne hd, entryOf_cons_ne hd]
        exact ih

theorem entryOf_turned_ne (h : d ≠ e) (dir : Direction) (q : List Entry) :
    entryOf d (q.map (fun x => if x.door = e then { x with direction := dir } else x)) = entryOf d q := by
  induction q with
  | nil => rfl
  | cons x q ih =>
    rw [List.map_cons]
    by_cases hx : x.door = e
    · rw [if_pos hx, entryOf_cons_ne (by exact hx ▸ h.symm), entryOf_cons_ne (hx ▸ h.symm)]
      exact ih
    · rw [if_neg hx]
      by_cases hd : x.door = d
      · rw [entryOf_cons_self hd, entryOf_cons_self hd]
      · rw [entryOf_cons_ne hd, entryOf_cons_ne hd]
        exact ih

theorem entryOf_joinTail_ne {x : Entry} (h : x.door ≠ d) {q : List Entry} (hq : entriesIn d q ≤ 1) :
    entryOf d (joinTail x q) = entryOf d q := by
  refine (entryOf_perm (joinTail_perm x q) ?_).trans (entryOf_cons_ne h q)
  rwa [entriesIn_cons, if_neg h, Nat.zero_add]

theorem entryOf_joinTail_self {x : Entry} (h : x.door = d) {q : List Entry} (hq : entriesIn d q = 0) :
    entryOf d (joinTail x q) = some x := by
  refine (entryOf_perm (joinTail_perm x q) ?_).trans (entryOf_cons_self h q)
  rw [entriesIn_cons, if_pos h, hq]

theorem entryOf_rejoined_ne (b : Option (List (DoorNo × QueueClass))) {x : Entry} (h : x.door ≠ d) {q : List Entry}
    (hq : entriesIn d q ≤ 1) : entryOf d (rejoined b x q) = entryOf d q := by
  refine (entryOf_perm (rejoined_perm b x q) ?_).trans (entryOf_cons_ne h q)
  rwa [entriesIn_cons, if_neg h, Nat.zero_add]

theorem entryOf_replaceEntry_ne (h : d ≠ e) (dir : Direction) (c : QueueClass) {q : List Entry}
    (hq : entriesIn d q ≤ 1) : entryOf d (replaceEntry e dir c q) = entryOf d q := by
  unfold replaceEntry
  split
  · rfl
  · split
    · refine (entryOf_joinTail_ne h.symm ?_).trans (entryOf_withoutDoor_ne h q)
      rwa [entriesIn_withoutDoor, if_neg h]
    · exact entryOf_turned_ne h dir q

theorem recordOf_append_ne {r : Record} (h : r.door ≠ d) (l : List Record) : recordOf d (l ++ [r]) = recordOf d l := by
  have hr : [r].find? (fun r => r.door == d) = none := by simpa using h
  simp only [recordOf, List.find?_append, hr, Option.or_none]

theorem recordOf_append_self {r : Record} (h : r.door = d) {l : List Record} (hl : recordsIn d l = 0) :
    recordOf d (l ++ [r]) = some r := by
  have hn : l.find? (fun r => r.door == d) = none := recordOf_eq_none.mpr hl
  simp only [recordOf, List.find?_append, hn, Option.none_or]
  exact List.find?_cons_of_pos (by simpa using h)

theorem recordOf_dropped_ne (h : d ≠ e) (l : List Record) :
    recordOf d (l.filter (fun r => !(r.door == e))) = recordOf d l := by
  unfold recordOf
  rw [List.find?_filter]
  refine congrArg (fun p => l.find? p) (funext fun r => ?_)
  by_cases hr : r.door = d
  · simp [hr, h]
  · simp [hr]

/-- Records changed door by door, each keeping its door. -/
theorem recordOf_map {f : Record → Record} (hf : ∀ r, (f r).door = r.door) (d : DoorNo) (l : List Record) :
    recordOf d (l.map f) = (recordOf d l).map f := by
  unfold recordOf
  rw [List.find?_map]
  simp only [Function.comp_def, hf]

theorem recordOf_updRecord_ne (h : d ≠ e) (f : QueueClass → QueueClass) (g : DrivePhase → DrivePhase) (x : TrunkState) :
    recordOf d (x.updRecord e f g).inFlight = recordOf d x.inFlight := by
  show recordOf d (x.inFlight.map _) = _
  rw [recordOf_map (fun r => by split <;> rfl)]
  cases hr : recordOf d x.inFlight with
  | none => rfl
  | some r =>
    have hd : r.door = d := by simpa using List.find?_some hr
    rw [Option.map_some, if_neg (hd ▸ h)]

end

/-- A door's entries and records are as they were. -/
def State.SameWork (s s' : State) (d : DoorNo) : Prop :=
  ∀ u, entryOf d (s'.trunk u).queue = entryOf d (s.trunk u).queue ∧
    recordOf d (s'.trunk u).inFlight = recordOf d (s.trunk u).inFlight

theorem State.SameWork.of_trunks {s s' : State} {d : DoorNo} (hq : ∀ u, (s'.trunk u).queue = (s.trunk u).queue)
    (hi : ∀ u, (s'.trunk u).inFlight = (s.trunk u).inFlight) : s.SameWork s' d :=
  fun u => by rw [hq, hi]; exact ⟨rfl, rfl⟩

theorem State.SameWork.trans {s s' s'' : State} {d : DoorNo} (h : s.SameWork s' d) (g : s'.SameWork s'' d) :
    s.SameWork s'' d := fun u => ⟨(g u).1.trans (h u).1, (g u).2.trans (h u).2⟩

/-- A trunk's change that leaves the door's entry and record leaves its work. -/
theorem State.SameWork.updTrunk {s : State} {d : DoorNo} {t : Trunk} {f : TrunkState → TrunkState}
    (hq : entryOf d (f (s.trunk t)).queue = entryOf d (s.trunk t).queue)
    (hi : recordOf d (f (s.trunk t)).inFlight = recordOf d (s.trunk t).inFlight) : s.SameWork (s.updTrunk t f) d := by
  intro u
  by_cases hu : u = t
  · subst hu
    rw [State.trunk_updTrunk, if_pos rfl]
    exact ⟨hq, hi⟩
  · rw [State.trunk_updTrunk, if_neg hu]
    exact ⟨rfl, rfl⟩

theorem State.SameWork.updDoor {s s' : State} {d e : DoorNo} {f : Door → Door} (h : s.SameWork s' d) :
    s.SameWork (s'.updDoor e f) d := h

theorem State.SameWork.setState {s s' : State} {d e : DoorNo} {st : DoorState} (h : s.SameWork s' d) :
    s.SameWork (s'.setState e st) d := fun u => by rw [State.trunk_setState]; exact h u

/-- The grant of another door's entry leaves a door's work. -/
theorem State.SameWork.grant {s : State} {d : DoorNo} {t : Trunk} {e : Entry} {q : List Entry}
    (hq : (s.trunk t).queue = e :: q) (hne : e.door ≠ d) : s.SameWork (s.grant t e) d := by
  intro u
  rw [State.queue_grant, State.inFlight_grant]
  by_cases hu : u = t
  · subst hu
    rw [if_pos rfl, if_pos rfl, recordOf_append_ne hne, hq, entryOf_cons_ne hne]
    exact ⟨rfl, rfl⟩
  · rw [if_neg hu, if_neg hu]
    exact ⟨rfl, rfl⟩

theorem State.SameWork.dropRecord {s : State} {d e : DoorNo} (hne : d ≠ e) : s.SameWork (s.dropRecord e) d := by
  intro u
  rw [State.queue_dropRecord, State.inFlight_dropRecord]
  split
  · exact ⟨rfl, recordOf_dropped_ne hne _⟩
  · exact ⟨rfl, rfl⟩

/-- A step that does not reach a door leaves its work, unless it is its grant. -/
theorem Prim.sameWork {A : Touch} {s s' : State} (h : Prim A s s') {d : DoorNo} (hd : ¬ A.door d) (hl : s.WorkAt d) :
    s.SameWork s' d ∨ ∃ t e q, (s.trunk t).queue = e :: q ∧ e.door = d ∧ s' = s.grant t e := by
  have hne : ∀ {e : DoorNo}, A.door e → d ≠ e := by rintro e he rfl; exact hd he
  have h1 : ∀ u, entriesIn d (s.trunk u).queue ≤ 1 := hl.entries_le
  cases h with
  | door | doors | timer | derive | load | zone | counts | sweep | raise | change =>
    exact .inl fun _ => ⟨rfl, rfl⟩
  | warn m hc => exact .inl (.updTrunk rfl rfl)
  | pass he h hn => exact .inl (.of_trunks (by simp) (by simp))
  | @add e he dir c hb h => 
    exact .inl (State.SameWork.setState (.updDoor (.updTrunk (entryOf_joinTail_ne (hne he).symm (h1 _)) rfl)))
  | turn he c hb => exact .inl (.updDoor (.updTrunk (entryOf_replaceEntry_ne (hne he) _ c (h1 _)) rfl))
  | record he f g => exact .inl (.updTrunk rfl (recordOf_updRecord_ne (hne he) f g _))
  | @grant t e q hq hg =>
    by_cases hde : e.door = d
    · exact .inr ⟨t, e, q, hq, hde, rfl⟩
    · exact .inl (.grant hq hde)
  | @leave e he st h hst =>
    refine .inl (State.SameWork.setState fun u => ?_)
    rw [State.queue_dropEntry, State.inFlight_dropEntry]
    split
    · exact ⟨entryOf_withoutDoor_ne (hne he) _, rfl⟩
    · exact ⟨rfl, rfl⟩
  | @driveOver e he f hf st h hst => exact .inl (State.SameWork.setState fun u => State.SameWork.dropRecord (hne he) u)
  | @back e he f hf dir c b h hb =>
    refine .inl (State.SameWork.setState ((State.SameWork.dropRecord (hne he)).trans
      (.updTrunk (s := (s.dropRecord e).updDoor e f) (entryOf_rejoined_ne b (hne he).symm ?_) rfl)))
    rw [State.trunk_updDoor, State.queue_dropRecord]
    exact h1 _

/-- What becomes of a door that work does not reach: it stands with its work, or its entry has been granted. -/
inductive State.Spared (s s' : State) (d : DoorNo) : Prop where
  | stands (hd : s'.door d = s.door d) (he : s'.entry d = s.entry d) (hr : s'.record d = s.record d)
  | granted {e : Entry} {c : Nat} (hs : (s.door d).state = .waiting) (he : s.entry d = some e)
      (hd : s'.door d = Door.enter .acting (s.door d)) (hn : s'.entry d = none)
      (hr : s'.record d = some ⟨d, e.direction, e.cls, c, .granted⟩)

/-- The grant of a door's entry, by the law of its work. -/
theorem State.Spared.grant {s : State} {t : Trunk} {e : Entry} {q : List Entry} (hl : s.WorkAt e.door)
    (hq : (s.trunk t).queue = e :: q) : s.Spared (s.grant t e) e.door := by
  have hone : s.entriesOf t e.door ≠ 0 := by
    rw [State.entriesOf_eq, hq, entriesIn_cons, if_pos rfl]
    omega
  have hw : (s.door e.door).trunk = t ∧ (s.door e.door).state = .waiting := by
    by_contra hn
    exact hone ((hl t).1.trans (if_neg hn))
  obtain ⟨ht, hst⟩ := hw
  have hdoor : (s.grant t e).door e.door = Door.enter .acting (s.door e.door) := by
    rw [State.door_grant, if_pos ⟨rfl, by rw [hst]; decide⟩]
  have htr : ((s.grant t e).door e.door).trunk = t := (State.doorTrunk_grant s t e e.door).trans ht
  refine .granted hst (e := e) (c := s.charge t e) ?_ hdoor ?_ ?_
  · rw [State.entry, ht, hq, entryOf_cons_self rfl]
  · rw [State.entry, htr, entryOf_eq_none]
    have := ((hl.grant hq).acting (by rw [hdoor]; rfl) t).1
    exact this
  · rw [State.record, htr, State.inFlight_grant, if_pos rfl]
    have hz : recordsIn e.door (s.trunk t).inFlight = 0 := (hl.waiting hst t).2
    exact recordOf_append_self (d := e.door) rfl hz

theorem State.Spared.trans {s s' s'' : State} {d : DoorNo} (h : s.Spared s' d) (g : s'.Spared s'' d) : s.Spared s'' d := by
  cases h with
  | stands hd he hr =>
    cases g with
    | stands hd' he' hr' => exact .stands (hd'.trans hd) (he'.trans he) (hr'.trans hr)
    | granted hs he' hd' hn hr' => exact .granted (hd ▸ hs) (he ▸ he') (hd ▸ hd') hn hr'
  | granted hs he hd hn hr =>
    cases g with
    | stands hd' he' hr' => exact .granted hs he (hd'.trans hd) (he'.trans hn) (hr'.trans hr)
    | granted hs' he' hd' hn' hr' => rw [hd] at hs'; cases hs'

theorem Prim.spared {A : Touch} {s s' : State} (h : Prim A s s') {d : DoorNo} (hd : ¬ A.door d) (hl : s.WorkAt d) :
    s.Spared s' d := by
  rcases h.sameWork hd hl with hw | ⟨t, e, q, hq, rfl, rfl⟩
  · rcases h.door_outside hd with hs | ⟨t, e, q, hq, -, rfl, rfl⟩
    · refine .stands hs ?_ ?_
      · rw [State.entry, State.entry, hs]; exact (hw _).1
      · rw [State.record, State.record, hs]; exact (hw _).2
    · exact .grant hl hq
  · exact .grant hl hq

/-- Work that does not reach a door spares it. -/
theorem Moves.spared {A : Touch} {s s' : State} (h : Moves A s s') {d : DoorNo} (hd : ¬ A.door d) (hl : s.WorkAt d) :
    s.Spared s' d := by
  induction h with
  | refl => exact .stands rfl rfl rfl
  | tail hm hp ih => exact ih.trans (hp.spared hd (Moves.workAt hm hl))

end Sys2Proof.Machine


namespace Sys2Proof.Machine

/-! ### Work on doors that hands off to some slots alone -/

/-- A zone record without its derived state. -/
def Zone.underived (x : Zone) : Zone := { x with state := .opened }

/-- The operation raises nothing, writes no slot outside `K`, and of the zones the derived states alone. -/
structure State.HandsTo (K : SlotNo → Prop) (s s' : State) : Prop where
  notices : s'.noticeSet = s.noticeSet
  slots : ∀ j, ¬ K j → s'.slot j = s.slot j
  zones : ∀ y, (s'.zone y).underived = (s.zone y).underived

/-- The door is linked to a slot of `K` or to none. -/
def State.LinkedIn (K : SlotNo → Prop) (s : State) (d : DoorNo) : Prop := ∀ l, (s.door d).sweep = some l → K l.slot

theorem State.LinkedIn.of_none {K : SlotNo → Prop} {s : State} {d : DoorNo} (h : (s.door d).sweep = none) :
    s.LinkedIn K d := fun l hl => by rw [h] at hl; cases hl

/-- A hand-off that finds no sweep or no row in its table moves nothing (R68, R69). -/
theorem State.handOffCount_quiet {d : DoorNo} {f : Direction → Count → Option Count} {s : State}
    (h : ∀ l w, (s.door d).sweep = some l → s.slot l.slot = some w → f w.direction l.count = none) :
    s.handOffCount d f = s := by
  unfold State.handOffCount
  split
  · rfl
  · next l w hl =>
      have : f w.direction l.count = none := by
        unfold State.linkedSweep at hl
        split at hl
        · cases hl
        · next l' hs =>
            obtain ⟨v, hv, he⟩ := Option.map_eq_some_iff.mp hl
            cases he
            exact h l w hs hv
      rw [this]

/-- A change of state that no table names is the door's own change, and its zone is derived again. -/
theorem State.changeState_quiet {d : DoorNo} {st : DoorState} {s : State}
    (h : ∀ l w, (s.door d).sweep = some l → s.slot l.slot = some w → countAfterState w.direction l.count st = none) :
    s.changeState d st = if (s.door d).state = st then s else (s.updDoor d (Door.enter st)).rederive (s.door d).zone := by
  rw [State.changeState_eq]
  split
  · rfl
  · next hne =>
      have hset : s.setState d st = s.updDoor d (Door.enter st) := if_neg hne
      have hquiet : (s.updDoor d (Door.enter st)).handOffCount d (fun dir c => countAfterState dir c st) =
          s.updDoor d (Door.enter st) := by
        refine State.handOffCount_quiet fun l w hl hw => h l w ?_ hw
        rw [State.door_updDoor, if_pos rfl] at hl
        exact hl
      rw [hset, hquiet]

theorem State.changeState_unlinked {d : DoorNo} {st : DoorState} {s : State} (h : (s.door d).sweep = none) :
    s.changeState d st = if (s.door d).state = st then s else (s.updDoor d (Door.enter st)).rederive (s.door d).zone :=
  State.changeState_quiet fun l w hl => by rw [h] at hl; cases hl

namespace State.HandsTo

variable {K : SlotNo → Prop} {s s' s'' : State} {d : DoorNo}

theorem refl (s : State) : HandsTo K s s := ⟨rfl, fun _ _ => rfl, fun _ => rfl⟩

theorem trans (h : HandsTo K s s') (g : HandsTo K s' s'') : HandsTo K s s'' :=
  ⟨g.notices.trans h.notices, fun j hj => (g.slots j hj).trans (h.slots j hj), fun y => (g.zones y).trans (h.zones y)⟩

/-- An operation on the tables of doors and trunks alone. -/
theorem of_eq (hn : s'.noticeSet = s.noticeSet) (hs : s'.slots = s.slots) (hz : s'.zones = s.zones) : HandsTo K s s' :=
  ⟨hn, fun j _ => by rw [State.slot, State.slot, hs], fun y => by rw [State.zone, State.zone, hz]⟩

theorem mono {L : SlotNo → Prop} (h : HandsTo L s s') (hk : ∀ j, L j → K j) : HandsTo K s s' :=
  ⟨h.notices, fun j hj => h.slots j fun hl => hj (hk j hl), h.zones⟩

theorem forEach {α : Type} {f : α → State → State} (l : List α) (hf : ∀ a ∈ l, ∀ s, HandsTo K s (f a s)) :
    HandsTo K s (Machine.forEach l f s) := by
  induction l generalizing s with
  | nil => exact refl s
  | cons a l ih => exact (hf a List.mem_cons_self s).trans (ih fun b hb => hf b (List.mem_cons_of_mem a hb))

theorem updDoor (d : DoorNo) (f : Door → Door) : HandsTo K s (s.updDoor d f) := of_eq rfl rfl rfl

theorem updTrunk (t : Trunk) (f : TrunkState → TrunkState) : HandsTo K s (s.updTrunk t f) := of_eq rfl rfl rfl

theorem setSlot {k : SlotNo} (hk : K k) (x : Option Sweep) : HandsTo K s (s.setSlot k x) :=
  ⟨rfl, fun j hj => by rw [State.slot_setSlot, if_neg (by rintro rfl; exact hj hk)], fun _ => rfl⟩

theorem updSlot {k : SlotNo} (hk : K k) (f : Sweep → Sweep) : HandsTo K s (s.updSlot k f) := setSlot hk _

theorem rederive (z : ZoneNo) : HandsTo K s (s.rederive z) :=
  ⟨rfl, fun _ _ => rfl, fun y => by rw [State.zone_rederive]; rfl⟩

theorem moveCount (hl : s.LinkedIn K d) (c : Count) : HandsTo K s (s.moveCount d c) := by
  unfold State.moveCount
  split
  · exact refl s
  · exact (updSlot (hl _ ‹_›) _).trans (updDoor _ _)

theorem handOffCount (hl : s.LinkedIn K d) (f : Direction → Count → Option Count) :
    HandsTo K s (s.handOffCount d f) := by
  unfold State.handOffCount
  split
  · exact refl s
  · split
    · exact refl s
    · exact moveCount hl _

theorem setState (d : DoorNo) (st : DoorState) : HandsTo K s (s.setState d st) :=
  ⟨(apply_ite State.noticeSet _ _ _).trans (ite_self _), fun j _ => State.slot_setState d st s j,
    fun y => by rw [State.zone_setState]⟩

theorem changeState (hl : s.LinkedIn K d) (st : DoorState) : HandsTo K s (s.changeState d st) := by
  rw [State.changeState_eq]
  split
  · exact refl s
  · next h =>
      refine ((setState d st).trans (handOffCount (fun l hs => hl l ?_) _)).trans (rederive _)
      rw [State.door_setState_self, if_neg h] at hs
      exact hs

/-! Grants hand off nothing. -/

theorem changeState_acting (d : DoorNo) : HandsTo K s (s.changeState d .acting) := by
  rw [State.changeState_acting]
  split
  · exact refl s
  · exact (updDoor _ _).trans (rederive _)

theorem grant (t : Trunk) (e : Entry) : HandsTo K s (s.grant t e) :=
  ((updTrunk (s := s) t (TrunkState.toFlight e (s.charge t e))).trans (changeState_acting e.door)).trans
    (updTrunk t fun x => (if e.isUrgent then x else x.countRun).settleRun)

theorem grantLoop (n : Nat) (t : Trunk) : HandsTo K s (State.grantLoop n t s) := by
  induction n generalizing s with
  | zero => exact refl s
  | succ n ih =>
    unfold State.grantLoop
    split
    · exact refl s
    · split
      · exact (grant _ _).trans ih
      · exact refl s

theorem consider (t : Trunk) : HandsTo K s (s.consider t) := grantLoop _ t

theorem considerAll : HandsTo K s s.considerAll := forEach _ (fun t _ _ => consider t)

theorem considerUnless (w : Bool) (t : Trunk) : HandsTo K s (s.considerUnless w t) := by
  unfold State.considerUnless
  split
  · exact refl s
  · exact consider t

theorem considerDoor (d : DoorNo) : HandsTo K s (s.considerDoor d) := consider _

/-! Placements, and the other operations on a linked door. -/

theorem addEntry (hl : s.LinkedIn K d) (dir : Direction) (c : QueueClass) : HandsTo K s (s.addEntry d dir c) := by
  refine ((updTrunk _ _).trans (updDoor _ _)).trans (changeState (fun l h => hl l ?_) _)
  rw [State.door_updDoor, if_pos rfl] at h
  exact h

theorem place (hl : s.LinkedIn K d) (w : Bool) (dir : Direction) (c : QueueClass) : HandsTo K s (s.place w d dir c) := by
  unfold State.place
  split
  · exact refl s
  · split
    · exact ((updTrunk _ _).trans (updDoor _ _)).trans (considerUnless w _)
    · exact updTrunk _ _
    all_goals exact (addEntry hl dir c).trans (considerUnless w _)

theorem placeWarns (z : ZoneNo) (m : Nat) : HandsTo K s (s.placeWarns z m) := forEach _ (fun _ _ _ => updTrunk _ _)

theorem sweepIntent (dir : Direction) (d : DoorNo) : HandsTo K s (s.sweepIntent dir d) := by
  unfold State.sweepIntent
  split
  · split
    · exact refl s
    · exact updDoor _ _
  · exact updDoor _ _

theorem sweepAct (hl : s.LinkedIn K d) (w : Bool) (dir : Direction) (a : SweepAction) :
    HandsTo K s (s.sweepAct w dir d a) := by
  cases a with
  | leave => exact refl s
  | place c => exact place hl w dir c
  | becomeReleased => exact changeState hl _

theorem linkDoor {k : SlotNo} (hk : K k) (d : DoorNo) (c : Count) : HandsTo K s (s.linkDoor k d c) :=
  (updDoor _ _).trans (updSlot hk _)

/-- A door is linked to the slot before it is placed. -/
theorem walkDoor {k : SlotNo} (hk : K k) (dir : Direction) (d : DoorNo) : HandsTo K s (s.walkDoor k dir d) := by
  refine ((sweepIntent dir d).trans (linkDoor hk d _)).trans (sweepAct (fun l h => ?_) _ _ _)
  rw [State.linkDoor, State.door_updSlot, State.door_updDoor, if_pos rfl] at h
  cases h
  exact hk

theorem enterActive {k : SlotNo} (hk : K k) : HandsTo K s (s.enterActive k) := by
  unfold State.enterActive
  split
  · exact refl s
  · exact ((((setSlot hk _).trans (forEach _ fun d _ _ => walkDoor hk _ d)).trans (updSlot hk _)).trans
      (rederive _)).trans considerAll

end State.HandsTo

end Sys2Proof.Machine


namespace Sys2Proof.Machine

/-! ### The classification of a walk, by the tables (R66, R67) -/

/-- What the tables do with a door beside counting it. -/
def State.walkAct (s : State) (dir : Direction) (d : DoorNo) : SweepAction :=
  if s.tableCount dir d = .pending then .place (s.sweepClass dir d)
  else if dir = .release ∧ (s.door d).state = .ajar ∧ s.tableCount dir d = .done then .becomeReleased
  else .leave

theorem State.outOfReach_iff (s : State) (d : DoorNo) : s.outOfReach d = true ↔
    (s.door d).health ≠ .heard ∨ (s.trunk (s.door d).trunk).mode = .down := by
  simp [State.outOfReach]

theorem State.tableCount_lock (s : State) (d : DoorNo) : s.tableCount .lock d =
    if s.held d then .held else match (s.door d).state with
      | .waiting | .acting => .pending
      | .secured | .passage => if s.outOfReach d then .unreachable else .done
      | .ajar | .forced => if s.outOfReach d then .unreachable else .ajar
      | .released | .jammed | .unknown => if s.outOfReach d then .unreachable else .pending := by
  simp only [State.tableCount, ← State.outOfReach_iff]
  generalize (s.door d).state = st
  generalize s.outOfReach d = o
  cases st <;> rfl

theorem State.tableCount_release (s : State) (d : DoorNo) : s.tableCount .release d =
    match (s.door d).state with
      | .waiting | .acting => .pending
      | .released => if s.outOfReach d then .unreachable else .done
      | .ajar => if s.outOfReach d then .unreachable else if (s.door d).bolt = .withdrawn then .done else .pending
      | .forced | .secured | .passage | .jammed | .unknown => if s.outOfReach d then .unreachable else .pending := by
  simp only [State.tableCount, ← State.outOfReach_iff]
  generalize (s.door d).state = st
  generalize s.outOfReach d = o
  cases st <;> simp

theorem State.sweepClass_lock (s : State) (d : DoorNo) : s.sweepClass .lock d = .routine := if_neg fun h => by cases h.1

theorem State.sweepClass_release (s : State) (d : DoorNo) : s.sweepClass .release d = s.releaseClass d := by
  simp [State.sweepClass, State.releaseClass, State.fireLockedOut]

theorem State.classifyLock_eq (s : State) (d : DoorNo) : s.classifyLock d = (s.tableCount .lock d, s.walkAct .lock d) := by
  rw [State.walkAct, State.tableCount_lock, State.sweepClass_lock, State.classifyLock]
  generalize (s.door d).state = st
  generalize s.outOfReach d = o
  generalize s.held d = h
  cases h <;> cases o <;> cases st <;> rfl

theorem State.classifyRelease_eq (s : State) (d : DoorNo) :
    s.classifyRelease d = (s.tableCount .release d, s.walkAct .release d) := by
  rw [State.walkAct, State.tableCount_release, State.sweepClass_release, State.classifyRelease]
  generalize s.outOfReach d = o
  generalize s.releaseClass d = c
  cases hs : (s.door d).state with
  | ajar => cases o <;> cases (s.door d).bolt <;> rfl
  | _ => cases o <;> rfl

theorem State.classify_eq (s : State) (dir : Direction) (d : DoorNo) :
    s.classify dir d = (s.tableCount dir d, s.walkAct dir d) := by
  cases dir with
  | lock => exact s.classifyLock_eq d
  | release => exact s.classifyRelease_eq d

theorem State.walkAct_place {s : State} {dir : Direction} {d : DoorNo} {c : QueueClass} (h : s.walkAct dir d = .place c) :
    s.tableCount dir d = .pending ∧ c = s.sweepClass dir d := by
  unfold State.walkAct at h
  split at h
  · next hp => cases h; exact ⟨hp, rfl⟩
  · split at h <;> cases h

theorem State.walkAct_becomeReleased {s : State} {dir : Direction} {d : DoorNo} (h : s.walkAct dir d = .becomeReleased) :
    dir = .release ∧ (s.door d).state = .ajar ∧ s.tableCount dir d = .done := by
  unfold State.walkAct at h
  split at h
  · cases h
  · split at h
    · assumption
    · cases h

theorem State.walkAct_leave {s : State} {dir : Direction} {d : DoorNo} (h : s.walkAct dir d = .leave) :
    s.tableCount dir d ≠ .pending ∧ ¬ (dir = .release ∧ (s.door d).state = .ajar ∧ s.tableCount dir d = .done) := by
  unfold State.walkAct at h
  split at h
  · cases h
  · next hp =>
      split at h
      · cases h
      · next hr => exact ⟨hp, hr⟩

/-- A door that a LOCK counts pending is not held (R66). -/
theorem State.not_held_of_pending {s : State} {d : DoorNo} (h : s.tableCount .lock d = .pending) : s.held d = false := by
  by_contra hh
  rw [State.tableCount_lock, if_pos (by simpa using hh)] at h
  cases h

/-- What the tables read of a state (R66, R67). -/
structure State.SameTable (s q : State) (d : DoorNo) : Prop where
  held : q.held d = s.held d
  state : (q.door d).state = (s.door d).state
  bolt : (q.door d).bolt = (s.door d).bolt
  reach : q.outOfReach d = s.outOfReach d
  lockedOut : q.fireLockedOut d = s.fireLockedOut d

theorem State.SameTable.tableCount {s q : State} {d : DoorNo} (h : s.SameTable q d) (dir : Direction) :
    q.tableCount dir d = s.tableCount dir d := by
  cases dir with
  | lock => rw [State.tableCount_lock, State.tableCount_lock, h.held, h.state, h.reach]
  | release => rw [State.tableCount_release, State.tableCount_release, h.state, h.bolt, h.reach]

theorem State.SameTable.sweepClass {s q : State} {d : DoorNo} (h : s.SameTable q d) (dir : Direction) :
    q.sweepClass dir d = s.sweepClass dir d := by
  cases dir with
  | lock => rw [State.sweepClass_lock, State.sweepClass_lock]
  | release => rw [State.sweepClass_release, State.sweepClass_release, State.releaseClass, State.releaseClass, h.lockedOut]

theorem State.SameTable.walkAct {s q : State} {d : DoorNo} (h : s.SameTable q d) (dir : Direction) :
    q.walkAct dir d = s.walkAct dir d := by
  rw [State.walkAct, State.walkAct, h.tableCount, h.sweepClass, h.state]

end Sys2Proof.Machine


namespace Sys2Proof.Machine

theorem Work.position_eq {s s' : State} (h : Work s s') (d : DoorNo) : (s'.door d).position = (s.door d).position := by
  have := congrArg Door.position (h.door_eq d); exact this

theorem Work.bolt_eq {s s' : State} (h : Work s s') (d : DoorNo) : (s'.door d).bolt = (s.door d).bolt := by
  have := congrArg Door.bolt (h.door_eq d); exact this

theorem Work.health_eq {s s' : State} (h : Work s s') (d : DoorNo) : (s'.door d).health = (s.door d).health := by
  have := congrArg Door.health (h.door_eq d); exact this

theorem Work.doorCls_eq {s s' : State} (h : Work s s') (d : DoorNo) : (s'.door d).cls = (s.door d).cls := by
  have := congrArg Door.cls (h.door_eq d); exact this

theorem Work.doorRank_eq {s s' : State} (h : Work s s') (d : DoorNo) : (s'.door d).rank = (s.door d).rank := by
  have := congrArg Door.rank (h.door_eq d); exact this

theorem Work.chime_eq {s s' : State} (h : Work s s') (d : DoorNo) : (s'.door d).chime = (s.door d).chime := by
  have := congrArg Door.chime (h.door_eq d); exact this

theorem Work.mode_eq {s s' : State} (h : Work s s') (t : Trunk) : (s'.trunk t).mode = (s.trunk t).mode := by
  have := congrArg TrunkState.mode (h.trunk_eq t); exact this

theorem Work.held_eq {s s' : State} (h : Work s s') (d : DoorNo) : s'.held d = s.held d := by
  have hc : ∀ x : Hold, x.covers d (s'.door d) = x.covers d (s.door d) := fun x => by
    simp only [Hold.covers, h.configured_eq, h.doorZone_eq]
  simp only [State.held, h.holds_eq, hc]

theorem Work.isDoorOf {s s' : State} (h : Work s s') (z : ZoneNo) (d : DoorNo) : s'.IsDoorOf z d ↔ s.IsDoorOf z d := by
  rw [State.IsDoorOf, State.IsDoorOf, h.configured_eq, h.doorZone_eq]

theorem Work.barred {s s' : State} (h : Work s s') (z : ZoneNo) : s'.Barred z ↔ s.Barred z := by
  simp only [State.Barred, h.fire_eq, h.configured_eq, h.doorZone_eq, h.doorFire_eq]

/-- The tables read, beside what work leaves alone, the door's state (R66, R67). -/
theorem Work.sameTable {s q : State} (h : Work s q) {d : DoorNo} (hs : (q.door d).state = (s.door d).state) :
    s.SameTable q d where
  held := h.held_eq d
  state := hs
  bolt := h.bolt_eq d
  reach := by simp only [State.outOfReach, h.health_eq, h.doorTrunk_eq, h.mode_eq]
  lockedOut := State.fireLockedOut_congr h.fire_eq (h.doorFire_eq d)

/-! ### One door of a walk -/

theorem State.setDoor_setDoor (s : State) (d : DoorNo) (x y : Door) : (s.setDoor d x).setDoor d y = s.setDoor d y := by
  simp [State.setDoor]

/-- The door with the intent that a sweep gives it (R65 step 2). -/
def State.wantedDoor (s : State) (dir : Direction) (d : DoorNo) : Door :=
  match dir with
  | .lock => if s.held d then s.door d else (s.door d).wantLock
  | .release => { s.door d with intent := .release }

theorem State.wantedDoor_core (s : State) (dir : Direction) (d : DoorNo) :
    (s.wantedDoor dir d).core = (s.door d).core := by
  cases dir with
  | lock => exact (apply_ite Door.core _ _ _).trans (ite_self _)
  | release => rfl

theorem State.sweepIntent_eq (s : State) (dir : Direction) (d : DoorNo) :
    s.sweepIntent dir d = s.setDoor d (s.wantedDoor dir d) := by
  cases dir with
  | lock =>
    by_cases h : s.held d = true
    · have hw : s.wantedDoor .lock d = s.door d := if_pos h
      rw [hw, State.setDoor_self]
      exact if_pos h
    · have hw : s.wantedDoor .lock d = (s.door d).wantLock := if_neg h
      rw [hw]
      exact if_neg h
  | release => rfl

/-- The door with its intent and its link, before anything is placed (R65 steps 1 to 3). -/
def State.linkedDoor (s : State) (k : SlotNo) (dir : Direction) (d : DoorNo) : Door :=
  { s.wantedDoor dir d with sweep := some ⟨k, s.tableCount dir d⟩, unreached := false }

theorem State.linkedDoor_core (s : State) (k : SlotNo) (dir : Direction) (d : DoorNo) :
    (s.linkedDoor k dir d).core = (s.door d).core := s.wantedDoor_core dir d

/-- The state of a walk before the door's action: its record is linked and it is counted. -/
def State.counted (s : State) (k : SlotNo) (dir : Direction) (d : DoorNo) : State :=
  (s.setDoor d (s.linkedDoor k dir d)).updSlot k
    (fun w => { w with counts := w.counts.upd (s.tableCount dir d) (· + 1) })

theorem State.work_sweepIntent (s : State) (dir : Direction) (d : DoorNo) : Work s (s.sweepIntent dir d) :=
  Moves.work (A := Touch.all) (Moves.sweepIntent trivial dir)

theorem State.linkDoor_sweepIntent (s : State) (k : SlotNo) (dir : Direction) (d : DoorNo) :
    (s.sweepIntent dir d).linkDoor k d (s.tableCount dir d) = s.counted k dir d := by
  rw [State.sweepIntent_eq]
  simp only [State.linkDoor, State.updDoor, State.door_setDoor, if_pos, State.setDoor_setDoor]
  rfl

theorem State.work_counted (s : State) (k : SlotNo) (dir : Direction) (d : DoorNo) : Work s (s.counted k dir d) := by
  rw [← State.linkDoor_sweepIntent]
  exact (s.work_sweepIntent dir d).trans (Moves.work (A := Touch.all) (Moves.linkDoor trivial k _))

theorem State.walkDoor_eq (s : State) (k : SlotNo) (dir : Direction) (d : DoorNo) :
    s.walkDoor k dir d = (s.counted k dir d).sweepAct true dir d (s.walkAct dir d) := by
  have hs : ((s.sweepIntent dir d).door d).state = (s.door d).state := by
    rw [State.sweepIntent_eq, State.door_setDoor, if_pos rfl]
    have := congrArg Door.state (s.wantedDoor_core dir d)
    exact this
  have ht : s.SameTable (s.sweepIntent dir d) d := (s.work_sweepIntent dir d).sameTable hs
  unfold State.walkDoor
  simp only [State.classify_eq, ht.tableCount, ht.walkAct, State.linkDoor_sweepIntent]

end Sys2Proof.Machine


namespace Sys2Proof.Machine

/-- A door that is placed inside a walk (R5, R31, R32). -/
def Door.placed (x : Door) : Door :=
  match x.state with
  | .acting => x
  | .waiting => { x with attempts := 0 }
  | .unknown | .released | .secured | .ajar | .passage | .jammed | .forced => Door.enter .waiting { x with attempts := 0 }

/-- A linked door after the walk's action on it. -/
def Door.acted : SweepAction → Door → Door
  | .leave, x => x
  | .becomeReleased, x => Door.enter .released x
  | .place _, x => x.placed

/-- A door's trunk after a placement inside a walk. -/
def TrunkState.placed (d : DoorNo) (dir : Direction) (c : QueueClass) (st : DoorState) (x : TrunkState) : TrunkState :=
  match st with
  | .acting =>
    match recordOf d x.inFlight with
    | none => x
    | some r => if c = .urgent ∧ r.direction = dir then x.updRecord d (fun _ => .urgent) id else x
  | .waiting => { x with queue := replaceEntry d dir c x.queue }
  | .unknown | .released | .secured | .ajar | .passage | .jammed | .forced =>
    { x with queue := joinTail ⟨d, dir, c⟩ x.queue }

/-- A door's trunk after the walk's action on the door. -/
def TrunkState.acted (d : DoorNo) (dir : Direction) (st : DoorState) : SweepAction → TrunkState → TrunkState
  | .leave, x => x
  | .becomeReleased, x => x
  | .place c, x => x.placed d dir c st

/-- A state in which a door's record and its trunk alone have been written, and derived zone states. -/
structure State.Wrote (q t : State) (d : DoorNo) (x : Door) (y : TrunkState) : Prop where
  self : t.door d = x
  others : ∀ e, e ≠ d → t.door e = q.door e
  trunk : ∀ u, t.trunk u = if u = (q.door d).trunk then y else q.trunk u
  slot : ∀ j, t.slot j = q.slot j

section
variable {q : State} {d : DoorNo} {dir : Direction} {c : QueueClass}

theorem Door.placed_waiting {x : Door} (h : x.state = .waiting) : x.placed = { x with attempts := 0 } := by
  cases x; cases h; rfl

theorem Door.placed_acting {x : Door} (h : x.state = .acting) : x.placed = x := by
  cases x; cases h; rfl

theorem Door.placed_idle {x : Door} (h : x.state.busy = false) :
    x.placed = Door.enter .waiting { x with attempts := 0 } := by
  cases x with
  | mk cf tr ad zn rk cl fr ex ch st => cases st <;> first | rfl | cases h

theorem TrunkState.placed_idle {st : DoorState} (h : st.busy = false) (x : TrunkState) :
    x.placed d dir c st = { x with queue := joinTail ⟨d, dir, c⟩ x.queue } := by
  cases st <;> first | rfl | cases h

theorem State.place_idle (hb : q.placementBlocked d dir = false) (h : (q.door d).state.busy = false) :
    q.place true d dir c = q.addEntry d dir c := by
  unfold State.place
  rw [hb]
  cases hs : (q.door d).state <;> first | rfl | (rw [hs] at h; cases h)

theorem State.Wrote.addEntry {k : SlotNo} (hl : (q.door d).sweep = some ⟨k, .pending⟩)
    (h : (q.door d).state.busy = false) : q.Wrote (q.addEntry d dir c) d (Door.enter .waiting { q.door d with attempts := 0 })
      { q.trunk (q.door d).trunk with queue := joinTail ⟨d, dir, c⟩ (q.trunk (q.door d).trunk).queue } := by
  have hne : (q.door d).state ≠ .waiting := by rintro e; rw [e] at h; cases h
  unfold State.addEntry
  rw [State.changeState_quiet fun l w hs hw => ?_, if_neg ?_]
  · constructor
    · simp [Door.enter, Door.clearTimers]
    · intro e he; simp [he]
    · intro u
      simp only [State.trunk_rederive, State.trunk_updDoor, State.trunk_updTrunk]
    · exact fun _ => rfl
  · rw [State.door_updDoor, if_pos rfl]
    exact hne
  · rw [State.door_updDoor, if_pos rfl] at hs
    have hs : (q.door d).sweep = some l := hs
    rw [hl] at hs
    cases hs
    cases w.direction <;> rfl

theorem State.Wrote.place {k : SlotNo} (hb : q.placementBlocked d dir = false)
    (hl : (q.door d).sweep = some ⟨k, .pending⟩) : q.Wrote (q.place true d dir c) d (q.door d).placed
      ((q.trunk (q.door d).trunk).placed d dir c (q.door d).state) := by
  cases hs : (q.door d).state with
  | waiting =>
    have he : q.place true d dir c = q.replacePlacement d dir c := by
      unfold State.place
      rw [hb, hs]
      rfl
    rw [he, Door.placed_waiting hs]
    refine ⟨by simp [State.replacePlacement], fun e he => by simp [State.replacePlacement, he], fun u => ?_, fun _ => rfl⟩
    rw [State.replacePlacement, State.trunk_updDoor, State.trunk_updTrunk]
    rfl
  | acting =>
    have he : q.place true d dir c = q.raiseRecord d dir c := by
      unfold State.place
      rw [hb, hs]
      rfl
    rw [he, Door.placed_acting hs]
    refine ⟨rfl, fun _ _ => rfl, fun u => ?_, fun _ => rfl⟩
    rw [State.raiseRecord, State.trunk_updTrunk]
    rfl
  | _ =>
    have hi : (q.door d).state.busy = false := by rw [hs]; rfl
    rw [State.place_idle hb hi, Door.placed_idle hi, ← hs, TrunkState.placed_idle hi]
    exact .addEntry hl hi

/-- The walk's action on a linked and counted door. -/
theorem State.Wrote.sweepAct {k : SlotNo} {a : SweepAction} {n : Count} (hl : (q.door d).sweep = some ⟨k, n⟩)
    (hp : ∀ c, a = .place c → n = .pending ∧ q.placementBlocked d dir = false)
    (hr : a = .becomeReleased → n = .done ∧ (q.door d).state = .ajar) :
    q.Wrote (q.sweepAct true dir d a) d (Door.acted a (q.door d))
      ((q.trunk (q.door d).trunk).acted d dir (q.door d).state a) := by
  cases a with
  | leave =>
    refine ⟨rfl, fun _ _ => rfl, fun u => ?_, fun _ => rfl⟩
    split
    · next hu => rw [hu]; rfl
    · rfl
  | place c =>
    obtain ⟨rfl, hb⟩ := hp c rfl
    exact .place hb hl
  | becomeReleased =>
    obtain ⟨rfl, hs⟩ := hr rfl
    have he : q.sweepAct true dir d .becomeReleased = (q.updDoor d (Door.enter .released)).rederive (q.door d).zone := by
      refine (State.changeState_quiet fun l w hs hw => ?_).trans (if_neg (by rw [hs]; decide))
      rw [hl] at hs
      cases hs
      cases w.direction <;> rfl
    rw [he]
    refine ⟨by simp; rfl, fun e he => by simp [he], fun u => ?_, fun _ => rfl⟩
    split
    · next hu => rw [hu]; rfl
    · rfl

end

/-! ### What the walk of one door writes -/

section
variable (s : State) (k : SlotNo) (dir : Direction) (d : DoorNo)

theorem State.door_counted (e : DoorNo) : (s.counted k dir d).door e = if e = d then s.linkedDoor k dir d else s.door e := by
  rw [State.counted, State.door_updSlot, State.door_setDoor]

theorem State.trunk_counted (u : Trunk) : (s.counted k dir d).trunk u = s.trunk u := rfl

theorem State.slot_counted (j : SlotNo) : (s.counted k dir d).slot j =
    if j = k then (s.slot k).map (fun w => { w with counts := w.counts.upd (s.tableCount dir d) (· + 1) }) else s.slot j := by
  rw [State.counted, State.slot_updSlot]
  rfl

theorem State.state_linkedDoor : (s.linkedDoor k dir d).state = (s.door d).state := by
  have := congrArg Door.state (s.linkedDoor_core k dir d)
  exact this

theorem State.doorTrunk_linkedDoor : (s.linkedDoor k dir d).trunk = (s.door d).trunk := by
  have := congrArg Door.trunk (s.linkedDoor_core k dir d)
  exact this

/-- The walk of one door writes its record, its trunk and its slot's count. -/
theorem State.Wrote.walkDoor (hb : dir = .lock → s.fireLockedOut d = false) :
    (s.counted k dir d).Wrote (s.walkDoor k dir d) d (Door.acted (s.walkAct dir d) (s.linkedDoor k dir d))
      ((s.trunk (s.door d).trunk).acted d dir (s.door d).state (s.walkAct dir d)) := by
  have hd : (s.counted k dir d).door d = s.linkedDoor k dir d := by rw [State.door_counted, if_pos rfl]
  have hw := s.work_counted k dir d
  have h := State.Wrote.sweepAct (q := s.counted k dir d) (d := d) (dir := dir) (k := k) (n := s.tableCount dir d)
    (a := s.walkAct dir d) (by rw [hd]; rfl) (fun c hc => ?_) (fun hc => ?_)
  · rwa [hd, State.state_linkedDoor, State.doorTrunk_linkedDoor, State.trunk_counted, ← State.walkDoor_eq] at h
  · obtain ⟨hp, -⟩ := State.walkAct_place hc
    refine ⟨hp, ?_⟩
    cases dir with
    | release => rfl
    | lock =>
      have hs : ((s.counted k .lock d).door d).state = (s.door d).state := by rw [hd, State.state_linkedDoor]
      have ht := hw.sameTable hs
      simp [State.placementBlocked, State.lockBlocked, ht.held, ht.lockedOut, hb rfl, State.not_held_of_pending hp]
  · obtain ⟨-, hs, hdone⟩ := State.walkAct_becomeReleased hc
    exact ⟨hdone, by rw [hd, State.state_linkedDoor, hs]⟩

end

end Sys2Proof.Machine


namespace Sys2Proof.Machine

/-! ### A walk over doors -/

/-- The counts after one more door of each of a list. -/
def Counts.addAll (f : DoorNo → Count) (l : List DoorNo) (c : Counts) : Counts :=
  l.foldl (fun c d => c.upd (f d) (· + 1)) c

/-- A trunk after the walk's actions on a list of doors. -/
def State.walkedTrunk (q : State) (dir : Direction) (l : List DoorNo) (u : Trunk) : TrunkState :=
  l.foldl (fun x d => if (q.door d).trunk = u then x.acted d dir (q.door d).state (q.walkAct dir d) else x) (q.trunk u)

/-- What a walk over a list of doors has written. -/
structure State.Walked (q : State) (k : SlotNo) (dir : Direction) (l : List DoorNo) (p : State) : Prop where
  work : Work q p
  inside : ∀ d ∈ l, p.door d = Door.acted (q.walkAct dir d) (q.linkedDoor k dir d)
  outside : ∀ d, d ∉ l → p.door d = q.door d
  trunk : ∀ u, p.trunk u = q.walkedTrunk dir l u
  slot : p.slot k = (q.slot k).map (fun w => { w with counts := w.counts.addAll (q.tableCount dir) l })

theorem forEach_append {α : Type} (f : α → State → State) (l m : List α) (s : State) :
    forEach (l ++ m) f s = forEach m f (forEach l f s) := List.foldl_append

theorem Counts.addAll_append (f : DoorNo → Count) (l : List DoorNo) (d : DoorNo) (c : Counts) :
    c.addAll f (l ++ [d]) = (c.addAll f l).upd (f d) (· + 1) := List.foldl_append

theorem State.walkedTrunk_append (q : State) (dir : Direction) (l : List DoorNo) (d : DoorNo) (u : Trunk) :
    q.walkedTrunk dir (l ++ [d]) u = if (q.door d).trunk = u then
      (q.walkedTrunk dir l u).acted d dir (q.door d).state (q.walkAct dir d) else q.walkedTrunk dir l u := List.foldl_append

theorem State.work_walkDoor (s : State) (k : SlotNo) (dir : Direction) (d : DoorNo) : Work s (s.walkDoor k dir d) :=
  Moves.work (A := Touch.all) (Moves.walkDoor trivial k dir)

theorem State.wantedDoor_congr {q p : State} {d : DoorNo} (hd : p.door d = q.door d) (hh : p.held d = q.held d)
    (dir : Direction) : p.wantedDoor dir d = q.wantedDoor dir d := by
  cases dir with
  | lock =>
    show (if p.held d then p.door d else (p.door d).wantLock) = _
    rw [hd, hh]
    rfl
  | release =>
    show ({ p.door d with intent := .release } : Door) = _
    rw [hd]
    rfl

theorem State.linkedDoor_congr {q p : State} {d : DoorNo} (hw : Work q p) (hd : p.door d = q.door d) (k : SlotNo)
    (dir : Direction) : p.linkedDoor k dir d = q.linkedDoor k dir d := by
  show ({ p.wantedDoor dir d with sweep := some ⟨k, p.tableCount dir d⟩, unreached := false } : Door) = _
  rw [State.wantedDoor_congr hd (hw.held_eq d), (hw.sameTable (by rw [hd])).tableCount]
  rfl

theorem State.walked_forEach (q : State) (k : SlotNo) (dir : Direction) {l : List DoorNo} (hl : l.Nodup)
    (hb : ∀ d ∈ l, dir = .lock → q.fireLockedOut d = false) :
    q.Walked k dir l (forEach l (State.walkDoor k dir) q) := by
  induction l using List.reverseRecOn with
  | nil =>
    refine ⟨.refl q, fun _ h => absurd h List.not_mem_nil, fun _ _ => rfl, fun _ => rfl, ?_⟩
    cases h : q.slot k <;> exact h
  | append_singleton l d ih =>
    rw [forEach_append]
    have hnd : d ∉ l := fun h => (List.nodup_append.mp hl).2.2 d h d (List.mem_singleton.mpr rfl) rfl
    have h := ih (List.nodup_append.mp hl).1 fun e he => hb e (List.mem_append_left _ he)
    generalize forEach l (State.walkDoor k dir) q = p at h
    have hd : p.door d = q.door d := h.outside d hnd
    have ht : q.SameTable p d := h.work.sameTable (by rw [hd])
    have hw := State.Wrote.walkDoor p k dir d fun e => by
      rw [ht.lockedOut]; exact hb d (List.mem_append_right _ (List.mem_singleton.mpr rfl)) e
    rw [State.linkedDoor_congr h.work hd, ht.walkAct, hd, h.trunk] at hw
    refine ⟨h.work.trans (p.work_walkDoor k dir d), fun e he => ?_, fun e he => ?_, fun u => ?_, ?_⟩
    · rcases List.mem_append.mp he with hm | hm
      · have hne : e ≠ d := by rintro rfl; exact hnd hm
        exact ((hw.others e hne).trans ((State.door_counted p k dir d e).trans (if_neg hne))).trans (h.inside e hm)
      · obtain rfl := List.mem_singleton.mp hm
        exact hw.self
    · obtain ⟨he, hne⟩ : e ∉ l ∧ e ≠ d := by simpa using he
      exact ((hw.others e hne).trans ((State.door_counted p k dir d e).trans (if_neg hne))).trans (h.outside e he)
    · have hu : ((p.counted k dir d).door d).trunk = (q.door d).trunk := by
        rw [State.door_counted, if_pos rfl, State.doorTrunk_linkedDoor, hd]
      refine (hw.trunk u).trans ?_
      rw [hu, State.walkedTrunk_append, State.trunk_counted, h.trunk]
      by_cases hu : (q.door d).trunk = u
      · rw [if_pos hu.symm, if_pos hu, hu]
      · rw [if_neg (Ne.symm hu), if_neg hu]
    · refine (hw.slot k).trans ?_
      rw [State.slot_counted, if_pos rfl, h.slot, ht.tableCount, Option.map_map]
      simp only [Function.comp_def, Counts.addAll_append]

end Sys2Proof.Machine


namespace Sys2Proof.Machine

/-! ### The queue after a walk, in the words of the tables -/

/-- The entry of a placed door turned to the sweep's direction in its place. -/
def Entry.turnedBy (placed : DoorNo → Bool) (dir : Direction) (e : Entry) : Entry :=
  if placed e.door then { e with direction := dir } else e

/-- A ROUTINE entry of a door that an URGENT placement raises (R31). -/
def Entry.raisedBy (raises : DoorNo → Bool) (e : Entry) : Bool := raises e.door && decide (e.cls = .routine)

/-- The entries of a class that keep their place. -/
def turnedPart (placed raises : DoorNo → Bool) (dir : Direction) (c : QueueClass) (q : List Entry) : List Entry :=
  (q.filter (fun e => decide (e.cls = c) && !e.raisedBy raises)).map (Entry.turnedBy placed dir)

/-- The placed door joins the queue: it has no work, or its entry is raised. -/
def State.joins (s : State) (raises : DoorNo → Bool) (d : DoorNo) : Bool :=
  !decide ((s.door d).state = .waiting ∨ (s.door d).state = .acting) || (s.entry d).any (Entry.raisedBy raises)

/-- The entries of a class that join, in the order of the walk. -/
def State.joinedPart (s : State) (placed raises : DoorNo → Bool) (dir : Direction) (u : Trunk) (c : QueueClass)
    (l : List DoorNo) : List Entry :=
  (l.filter (fun d => decide ((s.door d).trunk = u) && placed d && decide (s.sweepClass dir d = c) &&
    s.joins raises d)).map (fun d => ⟨d, dir, c⟩)

/-- The doors of a list that the tables count pending. -/
def State.placedIn (s : State) (dir : Direction) (l : List DoorNo) (d : DoorNo) : Bool :=
  decide (d ∈ l ∧ s.tableCount dir d = .pending)

/-- Of them, those of an URGENT placement. -/
def State.raisedIn (s : State) (dir : Direction) (l : List DoorNo) (d : DoorNo) : Bool :=
  s.placedIn dir l d && decide (s.sweepClass dir d = .urgent)

/-- The queue after the walk over a list. -/
def State.walkQueue (s : State) (dir : Direction) (l : List DoorNo) (u : Trunk) : List Entry :=
  let turned := fun c => turnedPart (s.placedIn dir l) (s.raisedIn dir l) dir c (s.trunk u).queue
  let joined := fun c => s.joinedPart (s.placedIn dir l) (s.raisedIn dir l) dir u c l
  turned .urgent ++ joined .urgent ++ (turned .routine ++ joined .routine)

/-- The records after the walk over a list. -/
def State.walkFlight (s : State) (dir : Direction) (l : List DoorNo) (u : Trunk) : List Record :=
  (s.trunk u).inFlight.map (fun r =>
    if s.raisedIn dir l r.door = true ∧ r.direction = dir then { r with cls := .urgent } else r)

theorem State.placedIn_append (s : State) (dir : Direction) (l : List DoorNo) (d x : DoorNo) :
    s.placedIn dir (l ++ [d]) x = (s.placedIn dir l x || decide (x = d ∧ s.tableCount dir d = .pending)) := by
  show decide _ = (decide _ || decide _)
  rw [← Bool.decide_or]
  refine decide_eq_decide.mpr ?_
  rw [List.mem_append, List.mem_singleton, or_and_right]
  exact or_congr_right (and_congr_right fun h => by rw [h])

theorem State.placedIn_append_ne (s : State) (dir : Direction) (l : List DoorNo) {d x : DoorNo} (h : x ≠ d) :
    s.placedIn dir (l ++ [d]) x = s.placedIn dir l x := by
  rw [State.placedIn_append, decide_eq_false (fun g => h g.1), Bool.or_false]

theorem State.raisedIn_append_ne (s : State) (dir : Direction) (l : List DoorNo) {d x : DoorNo} (h : x ≠ d) :
    s.raisedIn dir (l ++ [d]) x = s.raisedIn dir l x := by
  show (_ && _) = (_ && _)
  rw [State.placedIn_append_ne s dir l h]

theorem State.placedIn_append_idle (s : State) (dir : Direction) (l : List DoorNo) {d : DoorNo}
    (h : s.tableCount dir d ≠ .pending) : s.placedIn dir (l ++ [d]) = s.placedIn dir l := by
  funext x
  rw [State.placedIn_append, decide_eq_false (fun g => h g.2), Bool.or_false]

theorem State.placedIn_of_notMem (s : State) (dir : Direction) {l : List DoorNo} {d : DoorNo} (h : d ∉ l) :
    s.placedIn dir l d = false := decide_eq_false fun g => h g.1

theorem State.raisedIn_of_notMem (s : State) (dir : Direction) {l : List DoorNo} {d : DoorNo} (h : d ∉ l) :
    s.raisedIn dir l d = false := by
  show (_ && _) = false
  rw [State.placedIn_of_notMem s dir h, Bool.false_and]

end Sys2Proof.Machine


namespace Sys2Proof.Machine

/-! ### One more door in the tables' words -/

/-- The entry of one door turned. -/
def Entry.turnedOne (d : DoorNo) (dir : Direction) (x : Entry) : Entry :=
  if x.door = d then { x with direction := dir } else x

theorem Entry.door_turnedBy (placed : DoorNo → Bool) (dir : Direction) (e : Entry) :
    (e.turnedBy placed dir).door = e.door := (apply_ite Entry.door _ _ _).trans (ite_self _)

theorem Entry.cls_turnedBy (placed : DoorNo → Bool) (dir : Direction) (e : Entry) :
    (e.turnedBy placed dir).cls = e.cls := (apply_ite Entry.cls _ _ _).trans (ite_self _)

theorem Entry.turnedBy_of_not {placed : DoorNo → Bool} {e : Entry} (h : placed e.door = false) (dir : Direction) :
    e.turnedBy placed dir = e := if_neg (by rw [h]; decide)

theorem Entry.turnedBy_of {placed : DoorNo → Bool} {e : Entry} (h : placed e.door = true) (dir : Direction) :
    e.turnedBy placed dir = { e with direction := dir } := if_pos h

theorem Entry.raisedBy_congr {R R' : DoorNo → Bool} {e : Entry} (h : R' e.door = R e.door) :
    e.raisedBy R' = e.raisedBy R := congrArg (· && decide (e.cls = .routine)) h

theorem Entry.raisedBy_of_not {R : DoorNo → Bool} {e : Entry} (h : R e.door = false) : e.raisedBy R = false :=
  congrArg (· && decide (e.cls = .routine)) h

section
variable {P P' R R' : DoorNo → Bool} {dir : Direction} {c : QueueClass} {d : DoorNo} {q : List Entry}

theorem turnedPart_eq (P R : DoorNo → Bool) (dir : Direction) (c : QueueClass) (q : List Entry) : turnedPart P R dir c q =
    (q.filter (fun e => decide (e.cls = c) && !e.raisedBy R)).map (Entry.turnedBy P dir) := rfl

theorem mem_turnedPart {x : Entry} : x ∈ turnedPart P R dir c q ↔
    ∃ e ∈ q, e.cls = c ∧ e.raisedBy R = false ∧ e.turnedBy P dir = x := by
  simp [turnedPart_eq, and_assoc]

theorem cls_of_mem_turnedPart {x : Entry} (h : x ∈ turnedPart P R dir c q) : x.cls = c := by
  obtain ⟨e, -, rfl, -, rfl⟩ := mem_turnedPart.mp h
  exact e.cls_turnedBy P dir

/-- With no entry of the placed door in the queue, the kept entries are as they were. -/
theorem turnedPart_congr (hP : ∀ x, x ≠ d → P' x = P x) (hR : ∀ x, x ≠ d → R' x = R x) (hq : ∀ e ∈ q, e.door ≠ d) :
    turnedPart P' R' dir c q = turnedPart P R dir c q := by
  rw [turnedPart_eq, turnedPart_eq]
  have hf : q.filter (fun e => decide (e.cls = c) && !e.raisedBy R') = q.filter (fun e => decide (e.cls = c) && !e.raisedBy R) :=
    List.filter_congr fun e he => by rw [Entry.raisedBy_congr (hR _ (hq e he))]
  rw [hf]
  refine List.map_congr_left fun e he => ?_
  have hd := hP _ (hq e (List.mem_of_mem_filter he))
  exact if_congr (by rw [hd]) rfl rfl

/-- The placed door's entry is turned where it stands. -/
theorem turnedPart_turned (hP : ∀ x, x ≠ d → P' x = P x) (hd : P d = false) (hd' : P' d = true)
    (hR : ∀ e ∈ q, e.raisedBy R' = e.raisedBy R) :
    turnedPart P' R' dir c q = (turnedPart P R dir c q).map (Entry.turnedOne d dir) := by
  rw [turnedPart_eq, turnedPart_eq, List.map_map]
  have hf : q.filter (fun e => decide (e.cls = c) && !e.raisedBy R') = q.filter (fun e => decide (e.cls = c) && !e.raisedBy R) :=
    List.filter_congr fun e he => by rw [hR e he]
  rw [hf]
  refine List.map_congr_left fun e _ => ?_
  by_cases he : e.door = d
  · rw [Entry.turnedBy_of (he ▸ hd'), Function.comp_apply, Entry.turnedBy_of_not (he ▸ hd)]
    exact (if_pos he).symm
  · have hne : (e.turnedBy P dir).door ≠ d := by rwa [Entry.door_turnedBy]
    exact (if_congr (by rw [hP _ he]) rfl rfl).trans (if_neg hne).symm

/-- The placed door's entry is raised, and leaves its place. -/
theorem turnedPart_raised (hP : ∀ x, x ≠ d → P' x = P x) (hR : ∀ x, x ≠ d → R' x = R x)
    (hd : ∀ e ∈ q, e.door = d → e.raisedBy R' = true) :
    turnedPart P' R' dir c q = withoutDoor d (turnedPart P R dir c q) := by
  rw [turnedPart_eq, turnedPart_eq, withoutDoor, List.filter_map, List.filter_filter]
  have hf : q.filter (fun e => decide (e.cls = c) && !e.raisedBy R') =
      q.filter (fun e => ((fun e : Entry => !(e.door == d)) ∘ Entry.turnedBy P dir) e && (decide (e.cls = c) && !e.raisedBy R)) := by
    refine List.filter_congr fun e he => ?_
    rw [Function.comp_apply, Entry.door_turnedBy]
    by_cases hed : e.door = d
    · rw [hd e he hed]
      simp [hed]
    · rw [Entry.raisedBy_congr (hR _ hed)]
      simp [hed]
  rw [hf]
  refine List.map_congr_left fun e he => ?_
  obtain ⟨-, he⟩ := List.mem_filter.mp he
  have hed : e.door ≠ d := by
    rw [Function.comp_apply, Entry.door_turnedBy] at he
    simpa using (Bool.and_eq_true_iff.mp he).1
  exact if_congr (by rw [hP _ hed]) rfl rfl

variable {s : State} {u : Trunk} {l : List DoorNo}

theorem State.joinedPart_eq (s : State) (P R : DoorNo → Bool) (dir : Direction) (u : Trunk) (c : QueueClass)
    (l : List DoorNo) : s.joinedPart P R dir u c l = (l.filter (fun d => decide ((s.door d).trunk = u) && P d &&
      decide (s.sweepClass dir d = c) && s.joins R d)).map (fun d => ⟨d, dir, c⟩) := rfl

theorem State.joins_congr (hR : ∀ x, x ≠ d → R' x = R x) {x : DoorNo} (h : x ≠ d) : s.joins R' x = s.joins R x := by
  show (_ || Option.any _ _) = (_ || Option.any _ _)
  cases he : s.entry x with
  | none => rfl
  | some e =>
    have hx : e.door = x := by simpa using List.find?_some he
    rw [Option.any_some, Option.any_some, Entry.raisedBy_congr (hR _ (hx ▸ h))]

/-- One more door joins at the tail of its class, or none. -/
theorem State.joinedPart_append (hP : ∀ x, x ≠ d → P' x = P x) (hR : ∀ x, x ≠ d → R' x = R x) (hd : d ∉ l) :
    s.joinedPart P' R' dir u c (l ++ [d]) = s.joinedPart P R dir u c l ++
      if ((s.door d).trunk = u ∧ P' d = true) ∧ s.sweepClass dir d = c ∧ s.joins R' d = true then [⟨d, dir, c⟩] else [] := by
  rw [State.joinedPart_eq, State.joinedPart_eq, List.filter_append, List.map_append]
  congr 1
  · refine congrArg (List.map _) (List.filter_congr fun x hx => ?_)
    have hne : x ≠ d := by rintro rfl; exact hd hx
    rw [hP x hne, State.joins_congr hR hne]
  · split
    · next h => rw [List.filter_cons_of_pos (by simpa [and_assoc] using h)]; rfl
    · next h => rw [List.filter_cons_of_neg (by simpa [and_assoc] using h)]; rfl

theorem State.mem_joinedPart {x : Entry} (h : x ∈ s.joinedPart P R dir u c l) : x.door ∈ l ∧ x.cls = c := by
  rw [State.joinedPart_eq, List.mem_map] at h
  obtain ⟨d, hd, rfl⟩ := h
  exact ⟨List.mem_of_mem_filter hd, rfl⟩

end

end Sys2Proof.Machine


namespace Sys2Proof.Machine

/-! ### The trunk after a walk is the tables' -/

theorem recordOf_of_mem {d : DoorNo} {l : List Record} (h : recordsIn d l ≤ 1) {r : Record} (hr : r ∈ l) (hd : r.door = d) :
    recordOf d l = some r := by
  induction l with
  | nil => cases hr
  | cons x l ih =>
    by_cases hx : x.door = d
    · have hz : recordsIn d l = 0 := by
        simp only [recordsIn, List.filter_cons, hx, beq_self_eq_true, if_true, List.length_cons] at h
        exact Nat.le_zero.mp (Nat.le_of_succ_le_succ h)
      rcases List.mem_cons.mp hr with rfl | hm
      · exact List.find?_cons_of_pos (by simpa using hd)
      · exact absurd hd (recordsIn_eq_zero.mp hz r hm)
    · have hl : recordsIn d l ≤ 1 := by
        simpa only [recordsIn, List.filter_cons, beq_eq_false_iff_ne.mpr hx, Bool.false_eq_true, if_false] using h
      rcases List.mem_cons.mp hr with rfl | hm
      · exact absurd hd hx
      · exact (List.find?_cons_of_neg (by simpa using hx)).trans (ih hl hm)

theorem urgentPart_append (p q : List Entry) : urgentPart (p ++ q) = urgentPart p ++ urgentPart q := List.filter_append p q

theorem routinePart_append (p q : List Entry) : routinePart (p ++ q) = routinePart p ++ routinePart q := List.filter_append p q

theorem withoutDoor_append (d : DoorNo) (p q : List Entry) : withoutDoor d (p ++ q) = withoutDoor d p ++ withoutDoor d q :=
  List.filter_append p q

theorem urgentPart_of_urgent {q : List Entry} (h : ∀ e ∈ q, e.cls = .urgent) : urgentPart q = q :=
  List.filter_eq_self.mpr fun e he => by simp [Entry.isUrgent, h e he]

theorem routinePart_of_urgent {q : List Entry} (h : ∀ e ∈ q, e.cls = .urgent) : routinePart q = [] :=
  List.filter_eq_nil_iff.mpr fun e he => by simp [Entry.isUrgent, h e he]

theorem urgentPart_of_routine {q : List Entry} (h : ∀ e ∈ q, e.cls = .routine) : urgentPart q = [] :=
  List.filter_eq_nil_iff.mpr fun e he => by simp [Entry.isUrgent, h e he]

theorem routinePart_of_routine {q : List Entry} (h : ∀ e ∈ q, e.cls = .routine) : routinePart q = q :=
  List.filter_eq_self.mpr fun e he => by simp [Entry.isUrgent, h e he]

theorem withoutDoor_of_notMem {d : DoorNo} {q : List Entry} (h : ∀ e ∈ q, e.door ≠ d) : withoutDoor d q = q :=
  List.filter_eq_self.mpr fun e he => by simpa using h e he

theorem map_turnedOne_of_notMem {d : DoorNo} {q : List Entry} (h : ∀ e ∈ q, e.door ≠ d) (dir : Direction) :
    q.map (Entry.turnedOne d dir) = q :=
  (List.map_congr_left fun e he => if_neg (h e he)).trans (List.map_id q)

/-- A tail of a class in a queue of two parts (R85). -/
theorem joinTail_parts {p q : List Entry} (hp : ∀ e ∈ p, e.cls = .urgent) (hq : ∀ e ∈ q, e.cls = .routine) (x : Entry) :
    joinTail x (p ++ q) = if x.cls = .urgent then p ++ [x] ++ q else p ++ (q ++ [x]) := by
  unfold joinTail
  rw [urgentPart_append, routinePart_append, urgentPart_of_urgent hp, routinePart_of_urgent hp, urgentPart_of_routine hq,
    routinePart_of_routine hq, List.append_nil, List.nil_append]
  refine if_congr (by simp [Entry.isUrgent]) ?_ rfl
  rw [List.append_assoc]
  rfl

section
variable {s : State} {dir : Direction} {l : List DoorNo} {d : DoorNo}

/-- The URGENT part of a walked queue. -/
def State.walkUrgent (s : State) (dir : Direction) (l : List DoorNo) (u : Trunk) : List Entry :=
  turnedPart (s.placedIn dir l) (s.raisedIn dir l) dir .urgent (s.trunk u).queue ++
    s.joinedPart (s.placedIn dir l) (s.raisedIn dir l) dir u .urgent l

/-- The ROUTINE part of a walked queue. -/
def State.walkRoutine (s : State) (dir : Direction) (l : List DoorNo) (u : Trunk) : List Entry :=
  turnedPart (s.placedIn dir l) (s.raisedIn dir l) dir .routine (s.trunk u).queue ++
    s.joinedPart (s.placedIn dir l) (s.raisedIn dir l) dir u .routine l

theorem State.walkQueue_eq (s : State) (dir : Direction) (l : List DoorNo) (u : Trunk) :
    s.walkQueue dir l u = s.walkUrgent dir l u ++ s.walkRoutine dir l u := rfl

theorem State.cls_walkUrgent {u : Trunk} : ∀ e ∈ s.walkUrgent dir l u, e.cls = .urgent := by
  intro e he
  rcases List.mem_append.mp he with he | he
  · exact cls_of_mem_turnedPart he
  · exact (State.mem_joinedPart he).2

theorem State.cls_walkRoutine {u : Trunk} : ∀ e ∈ s.walkRoutine dir l u, e.cls = .routine := by
  intro e he
  rcases List.mem_append.mp he with he | he
  · exact cls_of_mem_turnedPart he
  · exact (State.mem_joinedPart he).2

/-- A door that is not of the list has the entries in the walked queue that it had. -/
theorem State.mem_walkQueue (hd : d ∉ l) {u : Trunk} {e : Entry} (he : e.door = d) :
    e ∈ s.walkQueue dir l u ↔ e ∈ (s.trunk u).queue := by
  have hP := s.placedIn_of_notMem dir hd
  have hR := s.raisedIn_of_notMem dir hd
  have hj : ∀ c, e ∉ s.joinedPart (s.placedIn dir l) (s.raisedIn dir l) dir u c l :=
    fun c hm => hd (he ▸ (State.mem_joinedPart hm).1)
  have ht : ∀ c, e ∈ turnedPart (s.placedIn dir l) (s.raisedIn dir l) dir c (s.trunk u).queue ↔
      e ∈ (s.trunk u).queue ∧ e.cls = c := fun c => by
    rw [mem_turnedPart]
    constructor
    · rintro ⟨x, hx, hc, -, hxe⟩
      have hxd : x.door = d := by rw [← he, ← hxe, Entry.door_turnedBy]
      rw [Entry.turnedBy_of_not (hxd ▸ hP)] at hxe
      exact hxe ▸ ⟨hx, hc⟩
    · rintro ⟨hx, hc⟩
      exact ⟨e, hx, hc, Entry.raisedBy_of_not (he ▸ hR), Entry.turnedBy_of_not (he ▸ hP) dir⟩
  simp only [State.walkQueue_eq, State.walkUrgent, State.walkRoutine, List.mem_append, ht, hj, or_false, ← and_or_left]
  exact and_iff_left (by cases e.cls <;> simp)

/-- The entry found is the one that all the door's entries are. -/
theorem entryOf_of_unique {q : List Entry} {e : Entry} (hm : e ∈ q) (he : e.door = d)
    (hu : ∀ x ∈ q, x.door = d → x = e) : entryOf d q = some e := by
  obtain ⟨x, hx⟩ : ∃ x, entryOf d q = some x :=
    Option.isSome_iff_exists.mp (List.find?_isSome.mpr ⟨e, hm, by simpa using he⟩)
  rw [hx, hu x (List.mem_of_find?_eq_some hx) (by simpa using List.find?_some hx)]

/-- The tables' queue and records in a trunk. -/
def State.walkTrunkOn (s : State) (dir : Direction) (l : List DoorNo) (u : Trunk) : TrunkState :=
  { s.trunk u with queue := s.walkQueue dir l u, inFlight := s.walkFlight dir l u }

theorem State.entriesOf_zero {u : Trunk} (h : s.entriesOf u d = 0) : ∀ e ∈ (s.trunk u).queue, e.door ≠ d :=
  entriesIn_eq_zero.mp h

theorem State.recordsOf_zero {u : Trunk} (h : s.recordsOf u d = 0) : ∀ r ∈ (s.trunk u).inFlight, r.door ≠ d :=
  recordsIn_eq_zero.mp h

theorem State.walkFlight_eq (s : State) (dir : Direction) (l : List DoorNo) (u : Trunk) : s.walkFlight dir l u =
    (s.trunk u).inFlight.map (fun r =>
      if s.raisedIn dir l r.door = true ∧ r.direction = dir then { r with cls := .urgent } else r) := rfl

/-- With no record of the door, the records are as without it. -/
theorem State.walkFlight_append_of_none {u : Trunk} (h : s.recordsOf u d = 0) :
    s.walkFlight dir (l ++ [d]) u = s.walkFlight dir l u :=
  List.map_congr_left fun r hr => by rw [State.raisedIn_append_ne s dir l (State.recordsOf_zero h r hr)]

/-- With no entry of the door and none joining, the queue is as without it. -/
theorem State.walkQueue_append_of_none (hd : d ∉ l) {u : Trunk} (h : s.entriesOf u d = 0)
    (hj : (s.door d).trunk = u → s.joins (s.raisedIn dir (l ++ [d])) d = false) :
    s.walkQueue dir (l ++ [d]) u = s.walkQueue dir l u := by
  have ht : ∀ c, turnedPart (s.placedIn dir (l ++ [d])) (s.raisedIn dir (l ++ [d])) dir c (s.trunk u).queue =
      turnedPart (s.placedIn dir l) (s.raisedIn dir l) dir c (s.trunk u).queue := fun c =>
    turnedPart_congr (fun _ => State.placedIn_append_ne s dir l) (fun _ => State.raisedIn_append_ne s dir l)
      (State.entriesOf_zero h)
  have hjoin : ∀ c, s.joinedPart (s.placedIn dir (l ++ [d])) (s.raisedIn dir (l ++ [d])) dir u c (l ++ [d]) =
      s.joinedPart (s.placedIn dir l) (s.raisedIn dir l) dir u c l := fun c => by
    rw [State.joinedPart_append (fun _ => State.placedIn_append_ne s dir l) (fun _ => State.raisedIn_append_ne s dir l) hd,
      if_neg (fun g => by rw [hj g.1.1] at g; cases g.2.2), List.append_nil]
  show turnedPart _ _ _ _ _ ++ State.joinedPart _ _ _ _ _ _ _ ++ (turnedPart _ _ _ _ _ ++ State.joinedPart _ _ _ _ _ _ _) = _
  rw [ht, ht, hjoin, hjoin]
  rfl

/-- A door that is not placed leaves the tables' trunk as without it. -/
theorem State.walkTrunkOn_append_idle (hd : d ∉ l) (h : s.tableCount dir d ≠ .pending) (u : Trunk) :
    s.walkTrunkOn dir (l ++ [d]) u = s.walkTrunkOn dir l u := by
  have hP := State.placedIn_append_idle s dir l h
  have hR : s.raisedIn dir (l ++ [d]) = s.raisedIn dir l := funext fun x => by
    show (_ && _) = (_ && _)
    rw [hP]
  have hj : ∀ c, s.joinedPart (s.placedIn dir (l ++ [d])) (s.raisedIn dir (l ++ [d])) dir u c (l ++ [d]) =
      s.joinedPart (s.placedIn dir l) (s.raisedIn dir l) dir u c l := fun c => by
    rw [State.joinedPart_append (fun _ => State.placedIn_append_ne s dir l) (fun _ => State.raisedIn_append_ne s dir l) hd,
      if_neg (fun g => by rw [hP, State.placedIn_of_notMem s dir hd] at g; cases g.1.2), List.append_nil]
  have hq : s.walkQueue dir (l ++ [d]) u = s.walkQueue dir l u := by
    show turnedPart _ _ _ _ _ ++ State.joinedPart _ _ _ _ _ _ _ ++ (turnedPart _ _ _ _ _ ++ State.joinedPart _ _ _ _ _ _ _) = _
    rw [hj, hj, hP, hR]
    rfl
  have hf : s.walkFlight dir (l ++ [d]) u = s.walkFlight dir l u := by
    rw [State.walkFlight_eq, hR]
    rfl
  show ({ s.trunk u with queue := _, inFlight := _ } : TrunkState) = _
  rw [hq, hf]
  rfl

end

end Sys2Proof.Machine


namespace Sys2Proof.Machine

section
variable {s : State} {dir : Direction} {l : List DoorNo} {d : DoorNo}

theorem State.placedIn_append_self (hp : s.tableCount dir d = .pending) : s.placedIn dir (l ++ [d]) d = true :=
  decide_eq_true ⟨List.mem_append_right _ (List.mem_singleton.mpr rfl), hp⟩

theorem State.raisedIn_append_self (hp : s.tableCount dir d = .pending) :
    s.raisedIn dir (l ++ [d]) d = decide (s.sweepClass dir d = .urgent) := by
  show (_ && _) = _
  rw [State.placedIn_append_self hp, Bool.true_and]

theorem State.walkQueue_parts (s : State) (dir : Direction) (l : List DoorNo) (u : Trunk) : s.walkQueue dir l u =
    turnedPart (s.placedIn dir l) (s.raisedIn dir l) dir .urgent (s.trunk u).queue ++
      s.joinedPart (s.placedIn dir l) (s.raisedIn dir l) dir u .urgent l ++
    (turnedPart (s.placedIn dir l) (s.raisedIn dir l) dir .routine (s.trunk u).queue ++
      s.joinedPart (s.placedIn dir l) (s.raisedIn dir l) dir u .routine l) := rfl

/-- The classes' joining entries after one more door that joins. -/
theorem State.joinedPart_append_join (hd : d ∉ l) (hp : s.tableCount dir d = .pending)
    (hj : s.joins (s.raisedIn dir (l ++ [d])) d = true) (c : QueueClass) :
    s.joinedPart (s.placedIn dir (l ++ [d])) (s.raisedIn dir (l ++ [d])) dir (s.door d).trunk c (l ++ [d]) =
      s.joinedPart (s.placedIn dir l) (s.raisedIn dir l) dir (s.door d).trunk c l ++
        if s.sweepClass dir d = c then [⟨d, dir, c⟩] else [] := by
  rw [State.joinedPart_append (fun _ => State.placedIn_append_ne s dir l) (fun _ => State.raisedIn_append_ne s dir l) hd]
  congr 1
  exact if_congr ⟨fun h => h.2.1, fun h => ⟨⟨rfl, State.placedIn_append_self hp⟩, h, hj⟩⟩ rfl rfl

/-- The same of one that does not. -/
theorem State.joinedPart_append_stay (hd : d ∉ l) {u : Trunk} (hj : s.joins (s.raisedIn dir (l ++ [d])) d = false)
    (c : QueueClass) : s.joinedPart (s.placedIn dir (l ++ [d])) (s.raisedIn dir (l ++ [d])) dir u c (l ++ [d]) =
      s.joinedPart (s.placedIn dir l) (s.raisedIn dir l) dir u c l := by
  rw [State.joinedPart_append (fun _ => State.placedIn_append_ne s dir l) (fun _ => State.raisedIn_append_ne s dir l) hd,
    if_neg (fun h => by rw [hj] at h; cases h.2.2), List.append_nil]

theorem State.door_mem_joinedPart (hd : d ∉ l) {P R : DoorNo → Bool} {u : Trunk} {c : QueueClass} :
    ∀ e ∈ s.joinedPart P R dir u c l, e.door ≠ d := by
  rintro e he rfl
  exact hd (State.mem_joinedPart he).1

/-- A placed door without work joins the tail of its class (R5). -/
theorem State.walkQueue_append_new (hd : d ∉ l) (hp : s.tableCount dir d = .pending)
    (hs : (s.door d).state.busy = false) (h : s.WorkAt d) : s.walkQueue dir (l ++ [d]) (s.door d).trunk =
      joinTail ⟨d, dir, s.sweepClass dir d⟩ (s.walkQueue dir l (s.door d).trunk) := by
  have hj : s.joins (s.raisedIn dir (l ++ [d])) d = true := by
    show (_ || _) = true
    have hn : ¬ ((s.door d).state = .waiting ∨ (s.door d).state = .acting) := by
      rintro (e | e) <;> (rw [e] at hs; cases hs)
    rw [decide_eq_false hn]
    rfl
  have ht : ∀ c, turnedPart (s.placedIn dir (l ++ [d])) (s.raisedIn dir (l ++ [d])) dir c (s.trunk (s.door d).trunk).queue =
      turnedPart (s.placedIn dir l) (s.raisedIn dir l) dir c (s.trunk (s.door d).trunk).queue := fun c =>
    turnedPart_congr (fun _ => State.placedIn_append_ne s dir l) (fun _ => State.raisedIn_append_ne s dir l)
      (State.entriesOf_zero (h.idle hs _).1)
  rw [State.walkQueue_parts, ht, ht, State.joinedPart_append_join hd hp hj, State.joinedPart_append_join hd hp hj,
    State.walkQueue_eq s dir l, joinTail_parts State.cls_walkUrgent State.cls_walkRoutine]
  cases s.sweepClass dir d with
  | urgent => simp [State.walkUrgent, State.walkRoutine]
  | routine => simp [State.walkUrgent, State.walkRoutine]

/-- A placed WAITING door has its entry turned in its place, or raised to the tail of the URGENT ones (R31). -/
theorem State.walkQueue_append_turn (hd : d ∉ l) (hp : s.tableCount dir d = .pending)
    (hs : (s.door d).state = .waiting) (h : s.WorkAt d) : s.walkQueue dir (l ++ [d]) (s.door d).trunk =
      replaceEntry d dir (s.sweepClass dir d) (s.walkQueue dir l (s.door d).trunk) := by
  have h1 := h.entries_le (s.door d).trunk
  obtain ⟨e, he⟩ : ∃ e, s.entry d = some e := by
    refine Option.ne_none_iff_exists'.mp fun hn => ?_
    have hone : s.entriesOf (s.door d).trunk d = 1 := (h.waiting hs _).1.trans (if_pos rfl)
    have hzero : s.entriesOf (s.door d).trunk d = 0 := entryOf_eq_none.mp hn
    omega
  obtain ⟨hm, hed⟩ : e ∈ (s.trunk (s.door d).trunk).queue ∧ e.door = d := (entryOf_eq_some h1).mp he
  have hu : ∀ x ∈ (s.trunk (s.door d).trunk).queue, x.door = d → x = e := fun x hx hxd =>
    Option.some.inj (((entryOf_eq_some h1).mpr ⟨hx, hxd⟩).symm.trans he)
  have hent : entryOf d (s.walkQueue dir l (s.door d).trunk) = some e :=
    entryOf_of_unique ((State.mem_walkQueue hd hed).mpr hm) hed fun x hx hxd =>
      hu x ((State.mem_walkQueue hd hxd).mp hx) hxd
  have hraise : e.raisedBy (s.raisedIn dir (l ++ [d])) =
      (decide (s.sweepClass dir d = .urgent) && decide (e.cls = .routine)) := by
    show (_ && _) = _
    rw [hed, State.raisedIn_append_self hp]
  have hjoin : s.joins (s.raisedIn dir (l ++ [d])) d = e.raisedBy (s.raisedIn dir (l ++ [d])) := by
    show (_ || _) = _
    rw [decide_eq_true (.inl hs), he]
    rfl
  have hrep : replaceEntry d dir (s.sweepClass dir d) (s.walkQueue dir l (s.door d).trunk) =
      if s.sweepClass dir d = .urgent ∧ e.cls = .routine then
        joinTail ⟨d, dir, .urgent⟩ (withoutDoor d (s.walkQueue dir l (s.door d).trunk))
      else (s.walkQueue dir l (s.door d).trunk).map (Entry.turnedOne d dir) := by
    unfold replaceEntry
    rw [hent]
    rfl
  rw [hrep]
  by_cases hc : s.sweepClass dir d = .urgent ∧ e.cls = .routine
  case pos =>
    have hr : e.raisedBy (s.raisedIn dir (l ++ [d])) = true := by
      rw [hraise, decide_eq_true hc.1, decide_eq_true hc.2]
      rfl
    have ht : ∀ c, turnedPart (s.placedIn dir (l ++ [d])) (s.raisedIn dir (l ++ [d])) dir c (s.trunk (s.door d).trunk).queue =
        withoutDoor d (turnedPart (s.placedIn dir l) (s.raisedIn dir l) dir c (s.trunk (s.door d).trunk).queue) := fun c =>
      turnedPart_raised (fun _ => State.placedIn_append_ne s dir l) (fun _ => State.raisedIn_append_ne s dir l)
        fun x hx hxd => (hu x hx hxd).symm ▸ hr
    have hw : ∀ q : List Entry, (∀ c, (∀ x ∈ q, x.cls = c) → ∀ x ∈ withoutDoor d q, x.cls = c) :=
      fun q c hq x hx => hq x (List.mem_of_mem_filter hx)
    rw [if_pos hc, State.walkQueue_eq s dir l, withoutDoor_append,
      joinTail_parts (hw _ _ State.cls_walkUrgent) (hw _ _ State.cls_walkRoutine), if_pos rfl, State.walkQueue_parts, ht, ht,
      State.joinedPart_append_join hd hp (hjoin.trans hr), State.joinedPart_append_join hd hp (hjoin.trans hr), hc.1]
    simp only [State.walkUrgent, State.walkRoutine, withoutDoor_append, withoutDoor_of_notMem (State.door_mem_joinedPart hd)]
    simp
  case neg =>
    have hr : e.raisedBy (s.raisedIn dir (l ++ [d])) = false := by
      rw [hraise, ← Bool.decide_and]
      exact decide_eq_false hc
    have ht : ∀ c, turnedPart (s.placedIn dir (l ++ [d])) (s.raisedIn dir (l ++ [d])) dir c (s.trunk (s.door d).trunk).queue =
        (turnedPart (s.placedIn dir l) (s.raisedIn dir l) dir c (s.trunk (s.door d).trunk).queue).map (Entry.turnedOne d dir) :=
      fun c => turnedPart_turned (fun _ => State.placedIn_append_ne s dir l) (State.placedIn_of_notMem s dir hd)
        (State.placedIn_append_self hp) fun x hx => by
          by_cases hxd : x.door = d
          · rw [hu x hx hxd, hr, Entry.raisedBy_of_not (hed ▸ State.raisedIn_of_notMem s dir hd)]
          · exact Entry.raisedBy_congr (State.raisedIn_append_ne s dir l hxd)
    rw [if_neg hc, State.walkQueue_parts, ht, ht, State.joinedPart_append_stay hd (hjoin.trans hr),
      State.joinedPart_append_stay hd (hjoin.trans hr), State.walkQueue_parts s dir l]
    simp only [List.map_append, map_turnedOne_of_notMem (State.door_mem_joinedPart hd)]

end

end Sys2Proof.Machine


namespace Sys2Proof.Machine

section
variable {s : State} {dir : Direction} {l : List DoorNo} {d : DoorNo}

/-- A placed ACTING door has its record raised by an URGENT placement of the drive's direction (R32). -/
theorem State.walkFlight_append_acting (hd : d ∉ l) (hp : s.tableCount dir d = .pending)
    (hs : (s.door d).state = .acting) (h : s.WorkAt d) (x : TrunkState)
    (hx : x.inFlight = s.walkFlight dir l (s.door d).trunk) :
    x.placed d dir (s.sweepClass dir d) .acting = { x with inFlight := s.walkFlight dir (l ++ [d]) (s.door d).trunk } := by
  obtain ⟨hent, hrec⟩ := h.acting hs (s.door d).trunk
  rw [if_pos rfl] at hrec
  obtain ⟨r, hr⟩ : ∃ r, s.record d = some r := Option.ne_none_iff_exists'.mp fun hn => by
    have hzero : s.recordsOf (s.door d).trunk d = 0 := recordOf_eq_none.mp hn
    omega
  have hrd : r.door = d := by simpa using List.find?_some hr
  have hu : ∀ y ∈ (s.trunk (s.door d).trunk).inFlight, y.door = d → y = r := fun y hy hyd =>
    Option.some.inj ((recordOf_of_mem (le_of_eq hrec) hy hyd).symm.trans hr)
  have hfound : recordOf d x.inFlight = some r := by
    rw [hx, State.walkFlight_eq, recordOf_map (fun y => by split <;> rfl)]
    refine (congrArg _ hr).trans ?_
    rw [Option.map_some, if_neg (fun g => by rw [hrd, State.raisedIn_of_notMem s dir hd] at g; cases g.1)]
  have hplaced : x.placed d dir (s.sweepClass dir d) .acting =
      if s.sweepClass dir d = .urgent ∧ r.direction = dir then x.updRecord d (fun _ => .urgent) id else x := by
    show (match recordOf d x.inFlight with | none => x | some r => _) = _
    rw [hfound]
  rw [hplaced]
  have hself : s.raisedIn dir (l ++ [d]) d = true ↔ s.sweepClass dir d = .urgent := by
    rw [State.raisedIn_append_self hp, decide_eq_true_iff]
  split
  · next hc =>
      show ({ x with inFlight := _ } : TrunkState) = _
      rw [hx, State.walkFlight_eq, State.walkFlight_eq, List.map_map]
      refine congrArg (fun q => ({ x with inFlight := q } : TrunkState)) (List.map_congr_left fun y hy => ?_)
      by_cases hyd : y.door = d
      · obtain rfl := hu y hy hyd
        have hno : ¬ (s.raisedIn dir l y.door = true ∧ y.direction = dir) := fun g => by
          rw [hrd, State.raisedIn_of_notMem s dir hd] at g
          cases g.1
        rw [Function.comp_apply, if_neg hno, if_pos hyd, if_pos ⟨by rw [hyd]; exact hself.mpr hc.1, hc.2⟩]
        rfl
      · rw [Function.comp_apply, State.raisedIn_append_ne s dir l hyd]
        refine if_neg ?_
        split <;> exact hyd
  · next hc =>
      have hsame : s.walkFlight dir (l ++ [d]) (s.door d).trunk = s.walkFlight dir l (s.door d).trunk := by
        refine List.map_congr_left fun y hy => ?_
        by_cases hyd : y.door = d
        · obtain rfl := hu y hy hyd
          have hno : ¬ (s.raisedIn dir (l ++ [d]) y.door = true ∧ y.direction = dir) := fun g => by
            rw [hyd] at g
            exact hc ⟨hself.mp g.1, g.2⟩
          have hno' : ¬ (s.raisedIn dir l y.door = true ∧ y.direction = dir) := fun g => by
            rw [hyd, State.raisedIn_of_notMem s dir hd] at g
            cases g.1
          rw [if_neg hno, if_neg hno']
        · rw [State.raisedIn_append_ne s dir l hyd]
      rw [hsame, ← hx]

theorem State.walkTrunkOn_eq (s : State) (dir : Direction) (l : List DoorNo) (u : Trunk) :
    s.walkTrunkOn dir l u = { s.trunk u with queue := s.walkQueue dir l u, inFlight := s.walkFlight dir l u } := rfl

/-- The tables' trunk takes one more door as the walk does. -/
theorem State.walkTrunkOn_append (hd : d ∉ l) (h : s.WorkAt d) (u : Trunk) : s.walkTrunkOn dir (l ++ [d]) u =
    if (s.door d).trunk = u then (s.walkTrunkOn dir l u).acted d dir (s.door d).state (s.walkAct dir d)
    else s.walkTrunkOn dir l u := by
  cases ha : s.walkAct dir d with
  | leave =>
    rw [State.walkTrunkOn_append_idle hd (State.walkAct_leave ha).1]
    exact (ite_self _).symm
  | becomeReleased =>
    have hne : s.tableCount dir d ≠ .pending := by
      rw [(State.walkAct_becomeReleased ha).2.2]
      decide
    rw [State.walkTrunkOn_append_idle hd hne]
    exact (ite_self _).symm
  | place c =>
    obtain ⟨hp, rfl⟩ := State.walkAct_place ha
    by_cases hu : (s.door d).trunk = u
    case neg =>
      have h0 : s.entriesOf u d = 0 ∧ s.recordsOf u d = 0 := by
        obtain ⟨he, hr⟩ := h u
        rw [if_neg (fun g => hu g.1)] at he hr
        exact ⟨he, hr⟩
      rw [if_neg hu, State.walkTrunkOn_eq, State.walkQueue_append_of_none hd h0.1 (fun g => absurd g hu),
        State.walkFlight_append_of_none h0.2, ← State.walkTrunkOn_eq]
    case pos =>
      subst hu
      rw [if_pos rfl]
      show _ = (s.walkTrunkOn dir l (s.door d).trunk).placed d dir (s.sweepClass dir d) (s.door d).state
      cases hs : (s.door d).state with
      | acting =>
        rw [State.walkFlight_append_acting hd hp hs h _ rfl, State.walkTrunkOn_eq,
          State.walkQueue_append_of_none hd (h.acting hs _).1 fun _ => ?_]
        · rfl
        · show (_ || _) = false
          have hn : s.entry d = none := entryOf_eq_none.mpr (h.acting hs _).1
          rw [decide_eq_true (.inr hs), hn]
          rfl
      | waiting =>
        rw [State.walkTrunkOn_eq, State.walkQueue_append_turn hd hp hs h,
          State.walkFlight_append_of_none (h.waiting hs _).2]
        rfl
      | _ =>
        have hi : (s.door d).state.busy = false := by rw [hs]; rfl
        rw [State.walkTrunkOn_eq, State.walkQueue_append_new hd hp hi h, State.walkFlight_append_of_none (h.idle hi _).2]
        rfl

/-- With no door placed, the tables' trunk is the trunk. -/
theorem State.walkTrunkOn_nil (dir : Direction) {u : Trunk} (h : (s.trunk u).QueueLaw) :
    s.walkTrunkOn dir [] u = s.trunk u := by
  have hP : ∀ x, s.placedIn dir [] x = false := fun x => State.placedIn_of_notMem s dir List.not_mem_nil
  have hR : ∀ x, s.raisedIn dir [] x = false := fun x => State.raisedIn_of_notMem s dir List.not_mem_nil
  have ht : ∀ c, turnedPart (s.placedIn dir []) (s.raisedIn dir []) dir c (s.trunk u).queue =
      (s.trunk u).queue.filter (fun e => decide (e.cls = c)) := fun c => by
    rw [turnedPart_eq]
    have hf : (s.trunk u).queue.filter (fun e => decide (e.cls = c) && !e.raisedBy (s.raisedIn dir [])) =
        (s.trunk u).queue.filter (fun e => decide (e.cls = c)) :=
      List.filter_congr fun e _ => by rw [Entry.raisedBy_of_not (hR _)]; simp
    rw [hf]
    exact (List.map_congr_left fun e _ => Entry.turnedBy_of_not (hP _) dir).trans (List.map_id _)
  have hq : s.walkQueue dir [] u = (s.trunk u).queue := by
    rw [State.walkQueue_parts, ht, ht]
    show (_ ++ []) ++ (_ ++ []) = _
    rw [List.append_nil, List.append_nil]
    refine Eq.trans ?_ h.1.symm
    refine congrArg₂ (· ++ ·) (List.filter_congr fun e _ => ?_) (List.filter_congr fun e _ => ?_)
    all_goals cases e with | mk _ _ c => cases c <;> rfl
  have hf : s.walkFlight dir [] u = (s.trunk u).inFlight := by
    rw [State.walkFlight_eq]
    exact (List.map_congr_left fun r _ => if_neg fun g => by rw [hR] at g; cases g.1).trans (List.map_id _)
  rw [State.walkTrunkOn_eq, hq, hf]

/-- A walk leaves each trunk as the tables say (R65 to R67). -/
theorem State.walkedTrunk_eq (hl : l.Nodup) (hw : s.WorkLaw) {u : Trunk} (h : (s.trunk u).QueueLaw) :
    s.walkedTrunk dir l u = s.walkTrunkOn dir l u := by
  induction l using List.reverseRecOn with
  | nil => exact (State.walkTrunkOn_nil dir h).symm
  | append_singleton l d ih =>
    have hd : d ∉ l := fun g => (List.nodup_append.mp hl).2.2 d g d (List.mem_singleton.mpr rfl) rfl
    rw [State.walkedTrunk_append, ih (List.nodup_append.mp hl).1, State.walkTrunkOn_append hd (hw d)]

end

/-- The obligations' word for a trunk after a sweep's walk is the tables' over the doors of the zone. -/
theorem State.walkTrunk_eq (s : State) (z : ZoneNo) (dir : Direction) {l : List DoorNo} (h : ∀ d, d ∈ l ↔ s.IsDoorOf z d)
    (u : Trunk) : s.walkTrunk z dir l u = s.walkTrunkOn dir l u := by
  have hP : (fun d => decide (s.IsDoorOf z d ∧ s.tableCount dir d = .pending)) = s.placedIn dir l := funext fun d =>
    decide_eq_decide.mpr (and_congr_left fun _ => (h d).symm)
  show ({ s.trunk u with queue := _, inFlight := _ } : TrunkState) = _
  rw [hP]
  rfl

end Sys2Proof.Machine


namespace Sys2Proof.Machine

/-! ### The order and the counts of a walk -/

/-- Before another by key, and by number at equal keys. -/
abbrev Before {n : Nat} (key : Fin n → Nat) (a b : Fin n) : Prop := key a < key b ∨ (key a = key b ∧ a < b)

theorem mem_insertByKey {α : Type} {key : α → Nat} {a b : α} {l : List α} : b ∈ insertByKey key a l ↔ b = a ∨ b ∈ l :=
  (insertByKey_perm key a l).mem_iff.trans List.mem_cons

theorem pairwise_insertByKey {n : Nat} {key : Fin n → Nat} {a : Fin n} {l : List (Fin n)} (ha : ∀ b ∈ l, a < b)
    (hl : l.Pairwise (Before key)) : (insertByKey key a l).Pairwise (Before key) := by
  induction l with
  | nil => exact List.pairwise_singleton _ _
  | cons b l ih =>
    obtain ⟨hb, hl⟩ := List.pairwise_cons.mp hl
    have hab : a < b := ha b List.mem_cons_self
    unfold insertByKey
    split
    · next hk =>
        refine List.pairwise_cons.mpr ⟨fun c hc => ?_, List.pairwise_cons.mpr ⟨hb, hl⟩⟩
        have hac : a < c := ha c hc
        rcases List.mem_cons.mp hc with rfl | hm
        · rcases Nat.lt_or_eq_of_le hk with h | h
          · exact .inl h
          · exact .inr ⟨h, hac⟩
        · rcases hb c hm with h | ⟨h, -⟩
          · exact .inl (Nat.lt_of_le_of_lt hk h)
          · rcases Nat.lt_or_eq_of_le (h ▸ hk) with h | h
            · exact .inl h
            · exact .inr ⟨h, hac⟩
    · next hk =>
        refine List.pairwise_cons.mpr ⟨fun c hc => ?_, ih (fun c hc => ha c (List.mem_cons_of_mem b hc)) hl⟩
        rcases mem_insertByKey.mp hc with rfl | hm
        · exact .inl (Nat.lt_of_not_le hk)
        · exact hb c hm

/-- A stable sort of an ascending list stands by key, and by number at equal keys. -/
theorem pairwise_sortByKey {n : Nat} (key : Fin n → Nat) {l : List (Fin n)} (hl : l.Pairwise (· < ·)) :
    (sortByKey key l).Pairwise (Before key) := by
  induction l with
  | nil => exact .nil
  | cons a l ih =>
    obtain ⟨ha, hl⟩ := List.pairwise_cons.mp hl
    exact pairwise_insertByKey (fun b hb => ha b (mem_sortByKey.mp hb)) (ih hl)

theorem finRange_pairwise (n : Nat) : (List.finRange n).Pairwise (· < ·) := List.pairwise_lt_finRange n

theorem State.doorsWhere_pairwise (s : State) (p : DoorNo → Door → Bool) : (s.doorsWhere p).Pairwise (· < ·) := by
  rw [State.doorsWhere_eq]
  exact (finRange_pairwise 256).filter _

theorem State.zoneWalk_eq (s : State) (z : ZoneNo) :
    s.zoneWalk z = sortByKey (fun d => (s.door d).rank) (s.doorsWhere (fun _ x => x.zone == z)) := rfl

/-- The walk goes by door rank, then by door number (R65). -/
theorem State.zoneWalk_pairwise (s : State) (z : ZoneNo) : (s.zoneWalk z).Pairwise (Before fun d => (s.door d).rank) := by
  rw [State.zoneWalk_eq]
  exact pairwise_sortByKey _ (s.doorsWhere_pairwise _)

theorem State.zoneWalk_perm (s : State) (z : ZoneNo) :
    (s.zoneWalk z).Perm ((List.finRange 256).filter (fun d => decide (s.IsDoorOf z d))) := by
  rw [State.zoneWalk_eq]
  refine (sortByKey_perm _ _).trans ?_
  rw [State.doorsWhere_eq]
  have : (fun d => (s.door d).configured && (s.door d).zone == z) = fun d => decide (s.IsDoorOf z d) := by
    funext d
    simp [State.IsDoorOf, Bool.decide_and, beq_eq_decide]
  rw [this]

theorem State.zoneWalk_nodup (s : State) (z : ZoneNo) : (s.zoneWalk z).Nodup :=
  (s.zoneWalk_perm z).nodup_iff.mpr ((List.nodup_finRange 256).filter _)

theorem State.length_zoneWalk (s : State) (z : ZoneNo) :
    (s.zoneWalk z).length = ((List.finRange 256).filter (fun d => decide (s.IsDoorOf z d))).length :=
  (s.zoneWalk_perm z).length_eq

theorem Counts.ext_get {a b : Counts} (h : ∀ n, a.get n = b.get n) : a = b := by
  obtain ⟨a1, a2, a3, a4, a5, a6⟩ := a
  obtain ⟨b1, b2, b3, b4, b5, b6⟩ := b
  have h1 := h .done
  have h2 := h .pending
  have h3 := h .ajar
  have h4 := h .jammed
  have h5 := h .held
  have h6 := h .unreachable
  simp only [Counts.get] at h1 h2 h3 h4 h5 h6
  subst h1 h2 h3 h4 h5 h6
  rfl

theorem Counts.get_upd (c : Counts) (m n : Count) (f : Nat → Nat) :
    (c.upd m f).get n = if n = m then f (c.get n) else c.get n := by cases m <;> cases n <;> rfl

theorem Counts.get_addAll (f : DoorNo → Count) (l : List DoorNo) (c : Counts) (n : Count) :
    (c.addAll f l).get n = c.get n + (l.filter (fun d => decide (f d = n))).length := by
  induction l using List.reverseRecOn with
  | nil => rfl
  | append_singleton l d ih =>
    rw [Counts.addAll_append, Counts.get_upd, ih, List.filter_append, List.length_append]
    by_cases h : f d = n
    · subst h
      simp [Nat.add_assoc]
    · simp [h, Ne.symm h]

theorem Counts.get_zero (n : Count) : Counts.zero.get n = 0 := by cases n <;> rfl

theorem State.get_walkCounts (s : State) (z : ZoneNo) (dir : Direction) (n : Count) :
    (s.walkCounts z dir).get n = s.tableTotal z dir n := by cases n <;> rfl

/-- The counts of a walk over the zone are those of the tables (R65, R66, R67). -/
theorem State.addAll_zoneWalk (s : State) (z : ZoneNo) (dir : Direction) :
    Counts.zero.addAll (s.tableCount dir) (s.zoneWalk z) = s.walkCounts z dir := by
  refine Counts.ext_get fun n => ?_
  rw [Counts.get_addAll, Counts.get_zero, Nat.zero_add, State.get_walkCounts, State.tableTotal,
    ((s.zoneWalk_perm z).filter _).length_eq, List.filter_filter]
  refine congrArg List.length (List.filter_congr fun d _ => ?_)
  rw [← Bool.decide_and]
  exact decide_eq_decide.mpr and_comm

end Sys2Proof.Machine


namespace Sys2Proof.Machine

/-! ### The arbiter of a trunk reads and writes its trunk alone (R89) -/

theorem State.trunk_grant (s : State) (t u : Trunk) (e : Entry) : (s.grant t e).trunk u =
    if u = t then ((fun x : TrunkState => if e.isUrgent then x else x.countRun)
      ((s.trunk t).toFlight e (s.charge t e))).settleRun else s.trunk u := by
  by_cases h : u = t
  · subst h
    simp [State.grant]
  · simp [State.grant, h]

/-- Where two states agree in a trunk and in what its charges are read from, its grants agree. -/
structure State.SameArbiter (p q : State) (u : Trunk) : Prop where
  trunk : q.trunk u = p.trunk u
  cost : ∀ d, q.lockClass (q.door d).cls = p.lockClass (p.door d).cls

theorem State.SameArbiter.charge {p q : State} {u : Trunk} (h : p.SameArbiter q u) (e : Entry) :
    q.charge u e = p.charge u e := by
  rw [State.charge, State.charge, h.cost, h.trunk]

theorem State.SameArbiter.grantable {p q : State} {u : Trunk} (h : p.SameArbiter q u) (e : Entry) :
    q.grantable u e = p.grantable u e := by
  rw [State.grantable, State.grantable, h.charge, h.trunk]

theorem State.cost_of_work {p q : State} (h : Work p q) (d : DoorNo) :
    q.lockClass (q.door d).cls = p.lockClass (p.door d).cls := by rw [h.lockClass_eq, h.doorCls_eq]

theorem State.work_grantLoop (n : Nat) (t : Trunk) (s : State) : Work s (State.grantLoop n t s) :=
  Moves.work (A := Touch.all) (Moves.grantLoop n t)

theorem State.SameArbiter.grantLoop {p q : State} {u : Trunk} (h : p.SameArbiter q u) (n : Nat) :
    (State.grantLoop n u q).trunk u = (State.grantLoop n u p).trunk u := by
  induction n generalizing p q with
  | zero => exact h.trunk
  | succ n ih =>
    unfold State.grantLoop
    rw [h.trunk]
    split
    · exact h.trunk
    · next e l hq =>
        rw [h.grantable]
        split
        · next hg =>
            have hwp : Work p (p.grant u e) := Work.grant hq hg
            have hwq : Work q (q.grant u e) := Work.grant (h.trunk ▸ hq) ((h.grantable e).trans hg)
            refine ih ⟨?_, fun d => ?_⟩
            · rw [State.trunk_grant, State.trunk_grant, if_pos rfl, if_pos rfl, h.charge, h.trunk]
            · rw [State.cost_of_work hwq, State.cost_of_work hwp, h.cost]
        · exact h.trunk

theorem State.SameArbiter.consider {p q : State} {u : Trunk} (h : p.SameArbiter q u) :
    (q.consider u).trunk u = (p.consider u).trunk u := by
  rw [State.consider, State.consider, h.trunk]
  exact h.grantLoop _

/-- The arbiter of one trunk leaves the others. -/
theorem State.trunk_grantLoop_ne {t u : Trunk} (h : u ≠ t) (n : Nat) (s : State) :
    (State.grantLoop n t s).trunk u = s.trunk u := by
  induction n generalizing s with
  | zero => rfl
  | succ n ih =>
    unfold State.grantLoop
    split
    · rfl
    · split
      · rw [ih, State.trunk_grant, if_neg h]
      · rfl

theorem State.trunk_consider_ne {t u : Trunk} (h : u ≠ t) (s : State) : (s.consider t).trunk u = s.trunk u :=
  State.trunk_grantLoop_ne h _ s

theorem State.trunk_considers (u : Trunk) {l : List Trunk} (hl : l.Nodup) (s : State) :
    (forEach l State.consider s).trunk u = if u ∈ l then (s.consider u).trunk u else s.trunk u := by
  induction l generalizing s with
  | nil => rfl
  | cons t l ih =>
    obtain ⟨ht, hl⟩ := List.nodup_cons.mp hl
    refine (ih hl (s.consider t)).trans ?_
    by_cases hu : u = t
    · subst hu
      rw [if_neg ht, if_pos List.mem_cons_self]
    · have hc : s.SameArbiter (s.consider t) u :=
        ⟨State.trunk_consider_ne hu s, State.cost_of_work (State.work_grantLoop _ t s)⟩
      rw [hc.consider, hc.trunk]
      exact if_congr (by simp [hu]) rfl rfl

/-- Considering every arbiter considers each trunk's once. -/
theorem State.trunk_considerAll (s : State) (u : Trunk) : s.considerAll.trunk u = (s.consider u).trunk u := by
  have hn : allTrunks.Nodup := by decide
  exact (State.trunk_considers u hn s).trans (if_pos (by cases u <;> decide))

end Sys2Proof.Machine


namespace Sys2Proof.Machine

/-! ### The work of a door through a walk -/

/-- What the walk of a sweep has done with a door's entry and record (R31, R32, R66, R67). -/
structure State.WalkedWork (q p : State) (dir : Direction) (d : DoorNo) : Prop where
  kept : q.tableCount dir d ≠ .pending → p.entry d = q.entry d ∧ p.record d = q.record d
  acting : q.tableCount dir d = .pending → (q.door d).state = .acting → p.record d = (q.record d).map (fun r =>
    if q.sweepClass dir d = .urgent ∧ r.direction = dir then { r with cls := .urgent } else r)
  waiting : q.tableCount dir d = .pending → (q.door d).state = .waiting → ∀ e, q.entry d = some e →
    p.entry d = some ⟨d, dir, if q.sweepClass dir d = .urgent then .urgent else e.cls⟩
  idle : q.tableCount dir d = .pending → (q.door d).state.busy = false → p.entry d = some ⟨d, dir, q.sweepClass dir d⟩

section
variable {d : DoorNo} {dir : Direction} {c : QueueClass}

theorem entryOf_map {f : Entry → Entry} (hf : ∀ e, (f e).door = e.door) (d : DoorNo) (q : List Entry) :
    entryOf d (q.map f) = (entryOf d q).map f := by
  unfold entryOf
  rw [List.find?_map]
  simp only [Function.comp_def, hf]

/-- A replacement turns the door's entry, or raises it as well (R31). -/
theorem entryOf_replaceEntry_self {q : List Entry} {e : Entry} (h : entryOf d q = some e) :
    entryOf d (replaceEntry d dir c q) = some ⟨d, dir, if c = .urgent then .urgent else e.cls⟩ := by
  have hd : e.door = d := by simpa using List.find?_some h
  unfold replaceEntry
  rw [h]
  dsimp only
  split
  · next hc =>
      rw [if_pos hc.1]
      exact entryOf_joinTail_self (d := d) rfl ((entriesIn_withoutDoor d d q).trans (if_pos rfl))
  · next hc =>
      rw [entryOf_map (fun x => by split <;> rfl), h, Option.map_some, if_pos hd]
      refine congrArg some ?_
      obtain ⟨_, _, k⟩ := e
      subst hd
      by_cases hu : c = .urgent
      · rw [if_pos hu]
        cases k with
        | urgent => rfl
        | routine => exact absurd ⟨hu, rfl⟩ hc
      · rw [if_neg hu]

theorem recordOf_placed_acting (x : TrunkState) : recordOf d (x.placed d dir c .acting).inFlight =
    (recordOf d x.inFlight).map (fun r => if c = .urgent ∧ r.direction = dir then { r with cls := .urgent } else r) := by
  show recordOf d (match recordOf d x.inFlight with | none => x | some r => _ : TrunkState).inFlight = _
  cases hr : recordOf d x.inFlight with
  | none => exact hr
  | some r =>
    have hd : r.door = d := by simpa using List.find?_some hr
    dsimp only
    by_cases hc : c = .urgent ∧ r.direction = dir
    · rw [if_pos hc, Option.map_some, if_pos hc]
      show recordOf d (x.inFlight.map _) = _
      rw [recordOf_map (fun y => by split <;> rfl), hr, Option.map_some, if_pos hd]
      rfl
    · rw [if_neg hc, Option.map_some, if_neg hc]
      exact hr

end

/-- The walk of a door does with its own work what the tables say. -/
theorem State.WalkedWork.walkDoor {s : State} {d : DoorNo} (k : SlotNo) {dir : Direction}
    (hb : dir = .lock → s.fireLockedOut d = false) (h : s.WorkAt d) : s.WalkedWork (s.walkDoor k dir d) dir d := by
  have hw := State.Wrote.walkDoor s k dir d hb
  have hx : ((s.walkDoor k dir d).door d).trunk = (s.door d).trunk := (s.work_walkDoor k dir d).doorTrunk_eq d
  have ht : (s.walkDoor k dir d).trunk (s.door d).trunk =
      (s.trunk (s.door d).trunk).acted d dir (s.door d).state (s.walkAct dir d) := by
    refine (hw.trunk _).trans (if_pos ?_)
    rw [State.door_counted, if_pos rfl, State.doorTrunk_linkedDoor]
  have he : (s.walkDoor k dir d).entry d =
      entryOf d ((s.trunk (s.door d).trunk).acted d dir (s.door d).state (s.walkAct dir d)).queue := by
    rw [State.entry, hx, ht]
  have hr : (s.walkDoor k dir d).record d =
      recordOf d ((s.trunk (s.door d).trunk).acted d dir (s.door d).state (s.walkAct dir d)).inFlight := by
    rw [State.record, hx, ht]
  have hact : s.tableCount dir d = .pending → s.walkAct dir d = .place (s.sweepClass dir d) := fun hp => if_pos hp
  constructor
  · intro hp
    rw [he, hr]
    cases ha : s.walkAct dir d with
    | place c => exact absurd (State.walkAct_place ha).1 hp
    | leave => exact ⟨rfl, rfl⟩
    | becomeReleased => exact ⟨rfl, rfl⟩
  · intro hp hs
    rw [hr, hact hp, hs]
    exact recordOf_placed_acting _
  · intro hp hs e hent
    rw [he, hact hp, hs]
    exact entryOf_replaceEntry_self hent
  · intro hp hs
    rw [he, hact hp]
    show entryOf d ((s.trunk (s.door d).trunk).placed d dir _ (s.door d).state).queue = _
    rw [TrunkState.placed_idle hs]
    exact entryOf_joinTail_self (d := d) rfl (h.idle hs _).1

/-- The walk of a door leaves the work of any other. -/
theorem State.walkDoor_others {s : State} {d e : DoorNo} (k : SlotNo) {dir : Direction}
    (hb : dir = .lock → s.fireLockedOut d = false) (h : s.WorkAt e) (hne : e ≠ d) :
    (s.walkDoor k dir d).entry e = s.entry e ∧ (s.walkDoor k dir d).record e = s.record e := by
  have hd : (s.walkDoor k dir d).door e = s.door e :=
    ((State.Wrote.walkDoor s k dir d hb).others e hne).trans ((s.door_counted k dir d e).trans (if_neg hne))
  have hm : Moves ⟨(· = d), fun _ => False, fun _ => False⟩ s (s.walkDoor k dir d) := Moves.walkDoor rfl k dir
  cases hm.spared hne h with
  | stands _ he hr => exact ⟨he, hr⟩
  | granted hs _ hg =>
    rw [hd] at hg
    rw [hg] at hs
    cases hs

theorem State.WalkedWork.of_same {q p r : State} {dir : Direction} {d : DoorNo} (h : q.WalkedWork p dir d)
    (he : r.entry d = p.entry d) (hr : r.record d = p.record d) : q.WalkedWork r dir d :=
  ⟨fun hp => by rw [he, hr]; exact h.kept hp, fun hp hs => by rw [hr]; exact h.acting hp hs,
    fun hp hs e hq => by rw [he]; exact h.waiting hp hs e hq, fun hp hs => by rw [he]; exact h.idle hp hs⟩

/-- What the walk of a door does at its turn is what the tables say of the state before the walk. -/
theorem State.WalkedWork.congr {q p r : State} {dir : Direction} {d : DoorNo} (h : p.WalkedWork r dir d)
    (ht : q.SameTable p d) (he : p.entry d = q.entry d) (hr : p.record d = q.record d) : q.WalkedWork r dir d := by
  obtain ⟨hk, ha, hw, hi⟩ := h
  rw [ht.tableCount, he, hr] at hk
  rw [ht.tableCount, ht.sweepClass, ht.state, hr] at ha
  rw [ht.tableCount, ht.sweepClass, ht.state, he] at hw
  rw [ht.tableCount, ht.sweepClass, ht.state] at hi
  exact ⟨hk, ha, hw, hi⟩

/-- A walk over doors does with the work of each what the tables say, and leaves that of the others. -/
theorem State.walkedWork_forEach (q : State) (hq : q.WorkLaw) (k : SlotNo) (dir : Direction) {l : List DoorNo}
    (hl : l.Nodup) (hb : ∀ d ∈ l, dir = .lock → q.fireLockedOut d = false) (d : DoorNo) :
    (d ∈ l → q.WalkedWork (forEach l (State.walkDoor k dir) q) dir d) ∧
    (d ∉ l → (forEach l (State.walkDoor k dir) q).entry d = q.entry d ∧
      (forEach l (State.walkDoor k dir) q).record d = q.record d) := by
  induction l using List.reverseRecOn with
  | nil => exact ⟨fun h => absurd h List.not_mem_nil, fun _ => ⟨rfl, rfl⟩⟩
  | append_singleton l a ih =>
    have hn := (List.nodup_append.mp hl).1
    have ha : a ∉ l := fun h => (List.nodup_append.mp hl).2.2 a h a (List.mem_singleton.mpr rfl) rfl
    have hbl : ∀ d ∈ l, dir = .lock → q.fireLockedOut d = false := fun e he => hb e (List.mem_append_left _ he)
    have hwalk := State.walked_forEach q k dir hn hbl
    have hm : Moves Touch.all q (forEach l (State.walkDoor k dir) q) := Moves.forEach l fun e _ s => Moves.walkDoor trivial k dir
    obtain ⟨hin, hout⟩ := ih hn hbl
    rw [forEach_append]
    generalize forEach l (State.walkDoor k dir) q = p at hwalk hm hin hout
    have hp : p.WorkLaw := hm.workLaw hq
    have ht : q.SameTable p a := hwalk.work.sameTable (by rw [hwalk.outside a ha])
    have hba : dir = .lock → p.fireLockedOut a = false := fun e => by
      rw [ht.lockedOut]
      exact hb a (List.mem_append_right _ (List.mem_singleton.mpr rfl)) e
    by_cases hda : d = a
    · subst hda
      obtain ⟨he, hr⟩ := hout ha
      exact ⟨fun _ => (State.WalkedWork.walkDoor k hba (hp d)).congr ht he hr,
        fun h => absurd (List.mem_append_right _ (List.mem_singleton.mpr rfl)) h⟩
    · obtain ⟨he, hr⟩ := State.walkDoor_others k hba (hp d) hda
      refine ⟨fun h => (hin ?_).of_same he hr, fun h => ?_⟩
      · exact (List.mem_append.mp h).resolve_right fun g => hda (List.mem_singleton.mp g)
      · obtain ⟨he', hr'⟩ := hout fun g => h (List.mem_append_left _ g)
        exact ⟨he.trans he', hr.trans hr'⟩

end Sys2Proof.Machine


namespace Sys2Proof.Machine

/-! ### The walk of a zone -/

/-- The state after the walk of a sweep's zone, before the arbiters are considered (R65). -/
def State.walkedZone (k : SlotNo) (w : Sweep) (s : State) : State :=
  State.rederive w.zone ((forEach (s.zoneWalk w.zone) (State.walkDoor k w.direction)
    (s.setSlot k (some { w with phase := .active, total := 0, counts := Counts.zero }))).updSlot k
      (fun w' => { w' with total := (s.zoneWalk w.zone).length }))

theorem State.walkedZone_eq (k : SlotNo) (w : Sweep) (s : State) : s.walkedZone k w =
    State.rederive w.zone ((forEach (s.zoneWalk w.zone) (State.walkDoor k w.direction)
      (s.setSlot k (some { w with phase := .active, total := 0, counts := Counts.zero }))).updSlot k
        (fun w' => { w' with total := (s.zoneWalk w.zone).length })) := rfl

theorem State.enterActive_eq {s : State} {k : SlotNo} {w : Sweep} (h : s.slot k = some w) :
    s.enterActive k = (s.walkedZone k w).considerAll := by
  unfold State.enterActive
  rw [h]
  rfl

/-- What the walk of a zone has written, `s` being the state before it as far as the tables read it. -/
structure State.WalkEnd (s : State) (z : ZoneNo) (dir : Direction) (o : Origin) (k : SlotNo) (r : State) : Prop where
  work : Work s r
  inside : ∀ d, s.IsDoorOf z d → r.door d = Door.acted (s.walkAct dir d) (s.linkedDoor k dir d)
  outside : ∀ d, ¬ s.IsDoorOf z d → r.door d = s.door d
  workLaw : s.WorkLaw → r.WorkLaw
  worked : s.WorkLaw → ∀ d, s.IsDoorOf z d → s.WalkedWork r dir d
  spared : s.WorkLaw → ∀ d, ¬ s.IsDoorOf z d → r.entry d = s.entry d ∧ r.record d = s.record d
  trunk : s.WorkLaw → s.SupplyLaw → ∀ u, r.trunk u = s.walkTrunk z dir (s.zoneWalk z) u
  slot : r.slot k = some ⟨z, dir, o, .active, ((List.finRange 256).filter (fun d => decide (s.IsDoorOf z d))).length,
    s.walkCounts z dir⟩

theorem State.lockedOut_of_not_barred {s : State} {z : ZoneNo} {d : DoorNo} (hb : ¬ s.Barred z) (hd : s.IsDoorOf z d) :
    s.fireLockedOut d = false := by
  by_contra h
  obtain ⟨hf, hn⟩ : (s.door d).fire = true ∧ s.fire ≠ .normal := by simpa [State.fireLockedOut] using h
  exact hb ⟨hn, d, hd.1, hd.2, hf⟩

/-- The walk of a zone, from a state that differs from `s` in the tables of zones and sweeps alone. -/
theorem State.walkEnd {s : State} {zones : Vector Zone 32} {slots : Vector (Option Sweep) 8} {k : SlotNo} {w : Sweep}
    (hsq : Work s { s with zones := zones, slots := slots }) (hb : w.direction = .lock → ¬ s.Barred w.zone) :
    s.WalkEnd w.zone w.direction w.origin k (State.walkedZone k w { s with zones := zones, slots := slots }) := by
  rw [State.walkedZone_eq]
  have hmem : ∀ d, d ∈ s.zoneWalk w.zone ↔ s.IsDoorOf w.zone d := fun d => State.mem_zoneWalk
  let v : Sweep := { w with phase := .active, total := 0, counts := Counts.zero }
  let q : State := State.setSlot { s with zones := zones, slots := slots } k (some v)
  have hwq : Work s q := hsq.trans (.setSlot k (some v))
  have hbl : ∀ d ∈ s.zoneWalk w.zone, w.direction = .lock → q.fireLockedOut d = false := fun d hd e =>
    State.lockedOut_of_not_barred (hb e) ((hmem d).mp hd)
  have hwalk : q.Walked k w.direction (s.zoneWalk w.zone) (forEach (s.zoneWalk w.zone) (State.walkDoor k w.direction) q) :=
    State.walked_forEach q k w.direction (s.zoneWalk_nodup w.zone) hbl
  have hm : Moves Touch.all q (forEach (s.zoneWalk w.zone) (State.walkDoor k w.direction) q) :=
    Moves.forEach _ fun e _ s => Moves.walkDoor trivial k w.direction
  have hworked := fun hl : q.WorkLaw => State.walkedWork_forEach q hl k w.direction (s.zoneWalk_nodup w.zone) hbl
  show s.WalkEnd w.zone w.direction w.origin k (State.rederive w.zone
    ((forEach (s.zoneWalk w.zone) (State.walkDoor k w.direction) q).updSlot k _))
  generalize forEach (s.zoneWalk w.zone) (State.walkDoor k w.direction) q = p at hwalk hm hworked
  refine ⟨(hwq.trans hwalk.work).trans ((Work.updSlot k _).trans (.rederive _)), fun d hd => hwalk.inside d ((hmem d).mpr hd),
    fun d hd => hwalk.outside d fun g => hd ((hmem d).mp g), fun hl => hm.workLaw hl,
    fun hl d hd => (((hworked hl d).1 ((hmem d).mpr hd)).congr (hwq.sameTable rfl) rfl rfl).of_same rfl rfl,
    fun hl d hd => (hworked hl d).2 fun g => hd ((hmem d).mp g), fun hl hs u => ?_, ?_⟩
  · rw [s.walkTrunk_eq w.zone w.direction hmem u]
    exact (hwalk.trunk u).trans (State.walkedTrunk_eq (s := s) (s.zoneWalk_nodup w.zone) hl (hs u).2)
  · rw [State.slot_rederive, State.slot_updSlot, if_pos rfl, hwalk.slot]
    have hq : q.slot k = some v := by rw [State.slot_setSlot, if_pos rfl]
    rw [hq, Option.map_some, Option.map_some]
    show some (Sweep.mk _ _ _ _ (s.zoneWalk w.zone).length (Counts.zero.addAll (s.tableCount w.direction) (s.zoneWalk w.zone))) = _
    rw [s.length_zoneWalk, s.addAll_zoneWalk]

end Sys2Proof.Machine


namespace Sys2Proof.Machine

/-! ### A walked door through what follows the walk -/

/-- A door record without its link to a sweep. -/
def Door.unlinked (x : Door) : Door := { x with sweep := none, unreached := false }

theorem Door.eq_of_unlinked {x y : Door} (h : y.unlinked = x.unlinked) :
    y = { x with sweep := y.sweep, unreached := y.unreached } := by
  have hy : y = { y.unlinked with sweep := y.sweep, unreached := y.unreached } := rfl
  rw [h] at hy
  exact hy

/-- As `State.Spared`, but for the door's link, which the end of its sweep takes away. -/
inductive State.SparedButLink (s s' : State) (d : DoorNo) : Prop where
  | stands (hd : (s'.door d).unlinked = (s.door d).unlinked) (he : s'.entry d = s.entry d) (hr : s'.record d = s.record d)
  | granted {e : Entry} {c : Nat} (hs : (s.door d).state = .waiting) (he : s.entry d = some e)
      (hd : (s'.door d).unlinked = (Door.enter .acting (s.door d)).unlinked) (hn : s'.entry d = none)
      (hr : s'.record d = some ⟨d, e.direction, e.cls, c, .granted⟩)

theorem State.Spared.butLink {s s' : State} {d : DoorNo} (h : s.Spared s' d) : s.SparedButLink s' d := by
  cases h with
  | stands hd he hr => exact .stands (congrArg Door.unlinked hd) he hr
  | granted hs he hd hn hr => exact .granted hs he (congrArg Door.unlinked hd) hn hr

theorem State.SparedButLink.trans {s s' s'' : State} {d : DoorNo} (h : s.SparedButLink s' d) (g : s'.SparedButLink s'' d) :
    s.SparedButLink s'' d := by
  have hstate : ∀ {x y : Door}, y.unlinked = x.unlinked → y.state = x.state := fun h => by
    have := congrArg Door.state h
    exact this
  have henter : ∀ {x y : Door}, y.unlinked = x.unlinked →
      (Door.enter .acting y).unlinked = (Door.enter .acting x).unlinked := fun h => by
    rw [Door.eq_of_unlinked h]
    rfl
  cases h with
  | stands hd he hr =>
    cases g with
    | stands hd' he' hr' => exact .stands (hd'.trans hd) (he'.trans he) (hr'.trans hr)
    | granted hs he' hd' hn hr' => exact .granted (hstate hd ▸ hs) (he ▸ he') (hd'.trans (henter hd)) hn hr'
  | granted hs he hd hn hr =>
    cases g with
    | stands hd' he' hr' => exact .granted hs he (hd'.trans hd) (he'.trans hn) (hr'.trans hr)
    | granted hs' he' hd' hn' hr' =>
      rw [hstate hd] at hs'
      cases hs'

section
variable {s t r : State} {d : DoorNo} {dir : Direction}

/-- A door with an entry has its work, whether it waits or has been granted. -/
theorem State.SparedButLink.hasWork (h : r.SparedButLink t d) {c : QueueClass} (hs : (r.door d).state = .waiting)
    (he : r.entry d = some ⟨d, dir, c⟩) : t.hasWork d dir c := by
  cases h with
  | stands hd he' hr =>
    have := congrArg Door.state hd
    exact .inl ⟨Eq.trans this hs, ⟨d, dir, c⟩, he'.trans he, rfl, rfl⟩
  | granted hs' he' hd hn hr =>
    have := congrArg Door.state hd
    rw [he] at he'
    cases he'
    exact .inr ⟨this, _, hr, rfl, rfl⟩

theorem State.SparedButLink.stands_of_ne (h : r.SparedButLink t d) (hs : (r.door d).state ≠ .waiting) :
    (t.door d).unlinked = (r.door d).unlinked ∧ t.entry d = r.entry d ∧ t.record d = r.record d := by
  cases h with
  | stands hd he hr => exact ⟨hd, he, hr⟩
  | granted hs' => exact absurd hs' hs

theorem State.SparedButLink.attempts (h : r.SparedButLink t d) : (t.door d).attempts = (r.door d).attempts := by
  cases h with
  | stands hd => have := congrArg Door.attempts hd; exact this
  | granted _ _ hd => have := congrArg Door.attempts hd; exact this

theorem State.SparedButLink.marks (h : r.SparedButLink t d) :
    (t.door d).intent = (r.door d).intent ∧ (t.door d).keepOpen = (r.door d).keepOpen := by
  cases h with
  | stands hd =>
    have h1 := congrArg Door.intent hd
    have h2 := congrArg Door.keepOpen hd
    exact ⟨h1, h2⟩
  | granted _ _ hd =>
    have h1 := congrArg Door.intent hd
    have h2 := congrArg Door.keepOpen hd
    exact ⟨h1, h2⟩

/-- The door before its placement differs from the door in its marks and its link. -/
theorem State.linkedDoor_eq (s : State) (k : SlotNo) (dir : Direction) (d : DoorNo) : s.linkedDoor k dir d =
    { s.door d with
      intent := (s.wantedDoor dir d).intent, keepOpen := (s.wantedDoor dir d).keepOpen
      sweep := some ⟨k, s.tableCount dir d⟩, unreached := false } := by
  have h : s.wantedDoor dir d =
      { s.door d with intent := (s.wantedDoor dir d).intent, keepOpen := (s.wantedDoor dir d).keepOpen } := by
    cases dir with
    | lock =>
      by_cases hh : s.held d = true
      · have hw : s.wantedDoor .lock d = s.door d := if_pos hh
        rw [hw]
      · have hw : s.wantedDoor .lock d = (s.door d).wantLock := if_neg hh
        rw [hw]
        rfl
    | release => rfl
  show ({ s.wantedDoor dir d with sweep := _, unreached := _ } : Door) = _
  rw [h]

theorem State.attempts_linkedDoor (s : State) (k : SlotNo) (dir : Direction) (d : DoorNo) :
    (s.linkedDoor k dir d).attempts = (s.door d).attempts := by rw [State.linkedDoor_eq]

end

/-- A door that the walk has placed (R31, R32, R66, R67). -/
theorem State.walkedDoor_pending {s t r : State} {d : DoorNo} {dir : Direction} {k : SlotNo} (hw : Work s t)
    (hp : s.tableCount dir d = .pending) (hr : r.door d = Door.acted (s.walkAct dir d) (s.linkedDoor k dir d))
    (hd : s.WalkedWork r dir d) (h : r.SparedButLink t d) : s.WalkedDoor t dir d := by
  have hact : s.walkAct dir d = .place (s.sweepClass dir d) := if_pos hp
  have hr : r.door d = (s.linkedDoor k dir d).placed := by rw [hr, hact]; rfl
  have hst : (s.linkedDoor k dir d).state = (s.door d).state := s.state_linkedDoor k dir d
  refine ⟨hw.position_eq d, hw.bolt_eq d, hw.health_eq d, ?_⟩
  rw [if_pos hp]
  have hidle : (s.door d).state.busy = false → (t.door d).attempts = 0 ∧ t.hasWork d dir (s.sweepClass dir d) := fun hb => by
    rw [Door.placed_idle (hst ▸ hb)] at hr
    exact ⟨h.attempts.trans (by rw [hr]; rfl), h.hasWork (by rw [hr]; rfl) (hd.idle hp hb)⟩
  cases hs : (s.door d).state with
  | acting =>
    rw [Door.placed_acting (hst.trans hs)] at hr
    have hrs : (r.door d).state = .acting := by rw [hr, hst, hs]
    obtain ⟨hdoor, -, hrec⟩ := h.stands_of_ne (by rw [hrs]; decide)
    have hts : (t.door d).state = (r.door d).state := by
      have := congrArg Door.state hdoor
      exact this
    exact ⟨hts.trans hrs, h.attempts.trans (by rw [hr, State.attempts_linkedDoor]), hrec.trans (hd.acting hp hs)⟩
  | waiting =>
    rw [Door.placed_waiting (hst.trans hs)] at hr
    have hrs : (r.door d).state = .waiting := by rw [hr]; exact hst.trans hs
    exact ⟨h.attempts.trans (by rw [hr]), fun e he => h.hasWork hrs (hd.waiting hp hs e he)⟩
  | unknown => exact hidle (by rw [hs]; rfl)
  | released => exact hidle (by rw [hs]; rfl)
  | secured => exact hidle (by rw [hs]; rfl)
  | ajar => exact hidle (by rw [hs]; rfl)
  | passage => exact hidle (by rw [hs]; rfl)
  | jammed => exact hidle (by rw [hs]; rfl)
  | forced => exact hidle (by rw [hs]; rfl)

end Sys2Proof.Machine


namespace Sys2Proof.Machine

/-- A door that the walk has not placed (R66, R67). -/
theorem State.walkedDoor_kept {s t r : State} {d : DoorNo} {dir : Direction} {k : SlotNo} (hw : Work s t)
    (hp : s.tableCount dir d ≠ .pending) (hr : r.door d = Door.acted (s.walkAct dir d) (s.linkedDoor k dir d))
    (hd : s.WalkedWork r dir d) (h : r.SparedButLink t d) : s.WalkedDoor t dir d := by
  obtain ⟨hent, hrec⟩ := hd.kept hp
  have hst : (s.linkedDoor k dir d).state = (s.door d).state := s.state_linkedDoor k dir d
  have hact : s.walkAct dir d = if dir = .release ∧ (s.door d).state = .ajar ∧ s.tableCount dir d = .done then
      .becomeReleased else .leave := if_neg hp
  have hattempts : (t.door d).attempts = (s.door d).attempts := by
    refine h.attempts.trans ?_
    rw [hr, hact]
    split
    · exact s.attempts_linkedDoor k dir d
    · exact s.attempts_linkedDoor k dir d
  refine ⟨hw.position_eq d, hw.bolt_eq d, hw.health_eq d, ?_⟩
  rw [if_neg hp]
  refine ⟨hattempts, ?_⟩
  have hleave : (s.door d).state ≠ .ajar → r.door d = s.linkedDoor k dir d := fun hne => by
    rw [hr, hact, if_neg fun g => hne g.2.1]
    rfl
  have hidle : (s.door d).state.busy = false → t.door d =
      if dir = .release ∧ (s.door d).state = .ajar ∧ s.tableCount dir d = .done then
        { s.door d with
          intent := (t.door d).intent, keepOpen := (t.door d).keepOpen, sweep := (t.door d).sweep
          unreached := (t.door d).unreached, state := .released, passage := none, allowance := none, reminder := none }
      else { s.door d with
        state := (s.door d).state, intent := (t.door d).intent, keepOpen := (t.door d).keepOpen, sweep := (t.door d).sweep
        unreached := (t.door d).unreached } := fun hb => by
    have hrs : (r.door d).state ≠ .waiting := by
      rw [hr, hact]
      split
      · exact fun e => by cases e
      · exact fun e => by rw [← hst, show (s.linkedDoor k dir d).state = .waiting from e] at hb; cases hb
    obtain ⟨hdoor, -, -⟩ := h.stands_of_ne hrs
    have hy := Door.eq_of_unlinked hdoor
    rw [hr, hact, State.linkedDoor_eq] at hy
    split
    · next hc =>
        rw [if_pos hc] at hy
        rw [hy]
        rfl
    · next hc =>
        rw [if_neg hc] at hy
        rw [hy]
        rfl
  cases hs : (s.door d).state with
  | acting =>
    have hrd := hleave (by rw [hs]; decide)
    have hrs : (r.door d).state = .acting := by rw [hrd, hst, hs]
    obtain ⟨hdoor, -, hrt⟩ := h.stands_of_ne (by rw [hrs]; decide)
    have hts : (t.door d).state = (r.door d).state := by
      have := congrArg Door.state hdoor
      exact this
    exact ⟨hts.trans hrs, hrt.trans hrec⟩
  | waiting =>
    have hrs : (r.door d).state = .waiting := by rw [hleave (by rw [hs]; decide), hst, hs]
    intro e he
    have hed : e.door = d := by simpa using List.find?_some he
    exact h.hasWork hrs (hent.trans (he.trans (congrArg some (by rw [← hed]))))
  | unknown | released | secured | ajar | passage | jammed | forced =>
    have := hidle (by rw [hs]; rfl)
    rw [hs] at this
    exact this

theorem State.walkedDoor {s t r : State} {z : ZoneNo} {dir : Direction} {o : Origin} {k : SlotNo}
    (hr : s.WalkEnd z dir o k r) (hl : s.WorkLaw) (hw : Work s t) {d : DoorNo} (hd : s.IsDoorOf z d)
    (h : r.SparedButLink t d) : s.WalkedDoor t dir d := by
  by_cases hp : s.tableCount dir d = .pending
  · exact State.walkedDoor_pending hw hp (hr.inside d hd) (hr.worked hl d hd) h
  · exact State.walkedDoor_kept hw hp (hr.inside d hd) (hr.worked hl d hd) h

end Sys2Proof.Machine


namespace Sys2Proof.Machine

/-! ### A sweep that goes on after its walk -/

/-- A door that work does not reach stands, or has become ACTING by a grant. -/
theorem Moves.door_outside {A : Touch} {s s' : State} (h : Moves A s s') {d : DoorNo} (hd : ¬ A.door d) :
    s'.door d = s.door d ∨ s'.door d = Door.enter .acting (s.door d) := by
  induction h with
  | refl => exact .inl rfl
  | tail _ hp ih =>
    rcases hp.door_outside hd with hs | ⟨t, e, q, -, -, -, rfl⟩
    · rw [hs]
      exact ih
    · rw [State.door_grant]
      split
      · rcases ih with ih | ih
        · exact .inr (by rw [ih])
        · exact .inr (by rw [ih]; rfl)
      · exact ih

/-- The fields of a door that grants leave. -/
theorem Moves.marks_outside {A : Touch} {s s' : State} (h : Moves A s s') {d : DoorNo} (hd : ¬ A.door d) :
    (s'.door d).intent = (s.door d).intent ∧ (s'.door d).keepOpen = (s.door d).keepOpen ∧
    (s'.door d).sweep = (s.door d).sweep ∧ (s'.door d).unreached = (s.door d).unreached := by
  rcases h.door_outside hd with h | h
  · rw [h]; exact ⟨rfl, rfl, rfl, rfl⟩
  · rw [h]; exact ⟨rfl, rfl, rfl, rfl⟩

/-- An operation that grants and does nothing else to doors, markers and slots. -/
def Touch.nothing : Touch := ⟨fun _ => False, fun _ => False, fun _ => False⟩

theorem Moves.grants (s : State) : Moves Touch.nothing s s.considerAll := Moves.considerAll

theorem Door.acted_marks (a : SweepAction) (x : Door) : (Door.acted a x).intent = x.intent ∧
    (Door.acted a x).keepOpen = x.keepOpen ∧ (Door.acted a x).sweep = x.sweep ∧ (Door.acted a x).unreached = x.unreached := by
  cases a with
  | leave => exact ⟨rfl, rfl, rfl, rfl⟩
  | becomeReleased => exact ⟨rfl, rfl, rfl, rfl⟩
  | place c =>
    cases hs : x.state with
    | acting =>
      have h : Door.acted (.place c) x = x := Door.placed_acting hs
      rw [h]; exact ⟨rfl, rfl, rfl, rfl⟩
    | waiting =>
      have h : Door.acted (.place c) x = { x with attempts := 0 } := Door.placed_waiting hs
      rw [h]; exact ⟨rfl, rfl, rfl, rfl⟩
    | _ =>
      have h : Door.acted (.place c) x = Door.enter .waiting { x with attempts := 0 } := Door.placed_idle (by rw [hs]; rfl)
      rw [h]; exact ⟨rfl, rfl, rfl, rfl⟩

/-- The marks that a sweep leaves a door of its zone (R65 step 2). -/
theorem State.wantedDoor_marks (s : State) (dir : Direction) (d : DoorNo) (y : Door) :
    y.intent = (s.wantedDoor dir d).intent → y.keepOpen = (s.wantedDoor dir d).keepOpen → match dir with
    | .lock => y.intent = (if s.held d then (s.door d).intent else .lock) ∧ y.keepOpen = (s.held d && (s.door d).keepOpen)
    | .release => y.intent = .release ∧ y.keepOpen = (s.door d).keepOpen := by
  intro hi hk
  cases dir with
  | lock =>
    by_cases hh : s.held d = true
    · have hw : s.wantedDoor .lock d = s.door d := if_pos hh
      rw [hw] at hi hk
      exact ⟨by rw [hi, if_pos hh], by rw [hk, hh, Bool.true_and]⟩
    · have hw : s.wantedDoor .lock d = (s.door d).wantLock := if_neg hh
      rw [hw] at hi hk
      exact ⟨by rw [hi, if_neg hh]; rfl, by rw [hk, Bool.eq_false_iff.mpr hh]; rfl⟩
  | release => exact ⟨hi, hk⟩

theorem State.WalkEnd.marks {s r : State} {z : ZoneNo} {dir : Direction} {o : Origin} {k : SlotNo}
    (hr : s.WalkEnd z dir o k r) {d : DoorNo} (hd : s.IsDoorOf z d) :
    (r.door d).intent = (s.wantedDoor dir d).intent ∧ (r.door d).keepOpen = (s.wantedDoor dir d).keepOpen ∧
    (r.door d).sweep = some ⟨k, s.tableCount dir d⟩ ∧ (r.door d).unreached = false := by
  obtain ⟨hi, hk, hs, hu⟩ := Door.acted_marks (s.walkAct dir d) (s.linkedDoor k dir d)
  rw [hr.inside d hd]
  exact ⟨hi, hk, hs, hu⟩

/-- The plans of a zone are as they were. -/
def Zone.SamePlans (x y : Zone) : Prop := y.staged = x.staged ∧ y.live = x.live ∧ y.loadPending = x.loadPending

theorem Zone.SamePlans.of_underived {x y : Zone} (h : y.underived = x.underived) : x.SamePlans y := by
  have h1 := congrArg Zone.staged h
  have h2 := congrArg Zone.live h
  have h3 := congrArg Zone.loadPending h
  exact ⟨h1, h2, h3⟩

theorem Zone.SamePlans.trans {x y z : Zone} (h : x.SamePlans y) (g : y.SamePlans z) : x.SamePlans z :=
  ⟨g.1.trans h.1, g.2.1.trans h.2.1, g.2.2.trans h.2.2⟩

/-- With the plans as they were, nothing is loaded (R42). -/
theorem State.LoadedAfter.of_plans {s t : State} (h : ∀ y, (s.zone y).SamePlans (t.zone y)) :
    s.LoadedAfter t (fun _ => False) := fun y => by
  obtain ⟨hs, hl, hp⟩ := h y
  exact ⟨hs, fun g => g.1.elim, fun _ => ⟨hl, hp⟩⟩

/-- A walk whose zone has a pending door leaves its sweep in the slot. -/
theorem State.walkedTo_going {s r : State} {z : ZoneNo} {dir : Direction} {o : Origin} {k : SlotNo}
    (hr : s.WalkEnd z dir o k r) (hplans : ∀ y, (s.zone y).SamePlans (r.zone y))
    (hp : (s.walkCounts z dir).pending ≠ 0) : s.WalkedTo r.considerAll z dir o k := by
  have hm := Moves.grants r
  have hh : r.HandsTo (fun _ => False) r.considerAll := .considerAll
  have hw : Work s r.considerAll := hr.work.trans hm.work
  refine ⟨fun d hd => ?marks, fun hl d hd => State.walkedDoor hr hl hw hd (hm.spared id (hr.workLaw hl d)).butLink, ?_⟩
  case marks =>
    obtain ⟨hi, hk, -, -⟩ := hm.marks_outside (d := d) id
    obtain ⟨hi', hk', -, -⟩ := hr.marks hd
    exact s.wantedDoor_marks dir d _ (hi.trans hi') (hk.trans hk')
  rw [if_neg hp]
  refine ⟨(hh.slots k id).trans hr.slot, fun d hd => ?link, .of_plans fun y => (hplans y).trans (.of_underived (hh.zones y)),
    fun hl d hd => ?others, fun hl hs => ⟨s.zoneWalk z, fun d => State.mem_zoneWalk, s.zoneWalk_pairwise z, fun u => ?trunk⟩⟩
  case link =>
    obtain ⟨-, -, hs, hu⟩ := hm.marks_outside (d := d) id
    obtain ⟨-, -, hs', hu'⟩ := hr.marks hd
    exact ⟨hs.trans hs', hu.trans hu'⟩
  case others =>
    rw [← hr.outside d hd]
    cases hm.spared (d := d) id (hr.workLaw hl d) with
    | stands hd => exact .inl hd
    | granted hs _ hd => exact .inr ⟨hs, hd⟩
  case trunk =>
    rw [State.trunk_considerAll]
    refine State.SameArbiter.consider (p := s.setTrunk u (s.walkTrunk z dir (s.zoneWalk z) u)) ⟨?_, fun d => ?_⟩
    · rw [State.trunk_setTrunk, if_pos rfl]
      exact hr.trunk hl hs u
    · exact State.cost_of_work hr.work d

end Sys2Proof.Machine


namespace Sys2Proof.Machine

/-! ### What a notice set tells, and goes on telling (R158 to R160) -/

theorem NoticeSet.mask_raise (n : NoticeSet) (st : Option Nat) (k : NoticeKind) (u : Subject) (v : Detail) :
    (n.raise st k u v).mask = n.mask := by
  unfold NoticeSet.raise NoticeSet.raiseFull NoticeSet.enter
  dsimp only
  repeat' split
  all_goals rfl

theorem NoticeSet.mem_enter {x y : Notice} {n : NoticeSet} : y ∈ (n.enter x).notices ↔ y = x ∨ y ∈ n.notices := by
  simp only [NoticeSet.enter, List.mem_append, List.mem_cons, List.mem_filter, decide_eq_true_eq, Bool.not_eq_true',
    decide_eq_false_iff_not]
  tauto

theorem NoticeSet.length_enter (x : Notice) (n : NoticeSet) : (n.enter x).notices.length = n.notices.length + 1 := by
  have h := (List.filter_append_perm (fun y : Notice => decide (y.kind.priority ≤ x.kind.priority)) n.notices).length_eq
  simp only [List.length_append] at h
  simp only [NoticeSet.enter, List.length_append, List.length_cons]
  omega

/-- A raise that finds the set full leaves it full, and the loss flagged (R159). -/
theorem NoticeSet.raiseFull_tells {x : Notice} {n : NoticeSet} (h : 48 ≤ n.notices.length) :
    48 ≤ (n.raiseFull x).notices.length ∧ (n.raiseFull x).lost = true := by
  unfold NoticeSet.raiseFull
  split
  · exact ⟨h, rfl⟩
  · split
    · have := NoticeSet.length_enter x { n with notices := n.notices.dropLast }
      simp only [List.length_dropLast] at this
      exact ⟨by dsimp only; omega, rfl⟩
    · exact ⟨h, rfl⟩

/-- The taking of a raise, case by case (R158). -/
theorem NoticeSet.raise_eq (n : NoticeSet) (st : Option Nat) (k : NoticeKind) (u : Subject) (v : Detail) :
    n.raise st k u v =
      if n.masks k then n
      else if n.notices.any (Notice.isFor k u) then
        { n with notices := n.notices.map (fun x => if x.isFor k u then x.merge st v else x) }
      else if n.notices.length < 48 then n.enter ⟨k, u, st, st, 1, v⟩ else n.raiseFull ⟨k, u, st, st, 1, v⟩ := rfl

theorem Notice.isFor_iff {k : NoticeKind} {u : Subject} {x : Notice} : x.isFor k u = true ↔ x.kind = k ∧ x.subject = u := by
  simp [Notice.isFor]

theorem NoticeSet.Tells.of_masked {n : NoticeSet} {st : Option Nat} {k : NoticeKind} {u : Subject} {v : Detail}
    (h : n.masks k = true) : n.Tells st k u v := .inl h

/-- After a raise the set tells it. -/
theorem NoticeSet.Tells.raised (n : NoticeSet) (st : Option Nat) (k : NoticeKind) (u : Subject) (v : Detail) :
    (n.raise st k u v).Tells st k u v := by
  rw [NoticeSet.raise_eq]
  split
  · exact .of_masked ‹_›
  · split
    · next h =>
        obtain ⟨x, hx, hf⟩ := List.any_eq_true.mp h
        obtain ⟨hk, hu⟩ := Notice.isFor_iff.mp hf
        exact .inr (.inl ⟨x.merge st v, List.mem_map.mpr ⟨x, hx, if_pos hf⟩, hk, hu, rfl, rfl⟩)
    · split
      · exact .inr (.inl ⟨_, NoticeSet.mem_enter.mpr (.inl rfl), rfl, rfl, rfl, rfl⟩)
      · exact .inr (.inr (NoticeSet.raiseFull_tells (Nat.le_of_not_lt ‹_›)))

/-- A raise of another kind or subject leaves what the set tells. -/
theorem NoticeSet.Tells.raise {n : NoticeSet} {st st' : Option Nat} {k k' : NoticeKind} {u u' : Subject} {v v' : Detail}
    (h : n.Tells st k u v) (hne : ¬ (k = k' ∧ u = u')) : (n.raise st' k' u' v').Tells st k u v := by
  rcases h with h | ⟨x, hx, hk, hu, hv, hl⟩ | ⟨hfull, hlost⟩
  · exact .inl (by rw [NoticeSet.mask_raise]; exact h)
  · rw [NoticeSet.raise_eq]
    split
    · exact .inr (.inl ⟨x, hx, hk, hu, hv, hl⟩)
    · split
      · refine .inr (.inl ⟨x, List.mem_map.mpr ⟨x, hx, if_neg fun hf => hne ?_⟩, hk, hu, hv, hl⟩)
        obtain ⟨hk', hu'⟩ := Notice.isFor_iff.mp hf
        exact ⟨hk.symm.trans hk', hu.symm.trans hu'⟩
      · split
        · exact .inr (.inl ⟨x, NoticeSet.mem_enter.mpr (.inr hx), hk, hu, hv, hl⟩)
        · exact .inr (.inr (NoticeSet.raiseFull_tells (Nat.le_of_not_lt ‹_›)))
  · rw [NoticeSet.raise_eq]
    split
    · exact .inr (.inr ⟨hfull, hlost⟩)
    · split
      · exact .inr (.inr ⟨by rw [List.length_map]; exact hfull, hlost⟩)
      · split
        · omega
        · exact .inr (.inr (NoticeSet.raiseFull_tells (Nat.le_of_not_lt ‹_›)))

/-- The raises that an operation makes are about zones of `Z`. -/
inductive RaisedOf (Z : ZoneNo → Prop) : NoticeSet → NoticeSet → Prop where
  | refl (n : NoticeSet) : RaisedOf Z n n
  | raise {n m : NoticeSet} (h : RaisedOf Z n m) (st : Option Nat) (k : NoticeKind) {z : ZoneNo} (hz : Z z) (v : Detail) :
      RaisedOf Z n (m.raise st k (.zone z) v)

theorem RaisedOf.trans {Z : ZoneNo → Prop} {a b c : NoticeSet} (h : RaisedOf Z a b) (g : RaisedOf Z b c) : RaisedOf Z a c := by
  induction g with
  | refl => exact h
  | raise _ st k hz v ih => exact ih.raise st k hz v

theorem RaisedOf.tells {Z : ZoneNo → Prop} {n m : NoticeSet} (h : RaisedOf Z n m) {z : ZoneNo} (hz : ¬ Z z)
    {st : Option Nat} {k : NoticeKind} {v : Detail} (ht : n.Tells st k (.zone z) v) : m.Tells st k (.zone z) v := by
  induction h with
  | refl => exact ht
  | raise _ _ _ hy _ ih => exact ih.raise fun g => hz (by cases g.2; exact hy)

end Sys2Proof.Machine


namespace Sys2Proof.Machine

/-! ### The ends of sweeps and the offers of their slots (R59, R74) -/

theorem Work.leader_eq {s s' : State} (h : Work s s') (z : ZoneNo) : (s'.zone z).leader = (s.zone z).leader := by
  have := congrArg Zone.leader (h.zone_eq z); exact this

theorem Work.rule_eq {s s' : State} (h : Work s s') (z : ZoneNo) : (s'.zone z).rule = (s.zone z).rule := by
  have := congrArg Zone.rule (h.zone_eq z); exact this

theorem Work.staged_eq {s s' : State} (h : Work s s') (z : ZoneNo) : (s'.zone z).staged = (s.zone z).staged := by
  have := congrArg Zone.staged (h.zone_eq z); exact this

theorem Work.lead_eq {s s' : State} (h : Work s s') (z : ZoneNo) : (s'.zone z).lead = (s.zone z).lead := by
  have := congrArg Zone.lead (h.zone_eq z); exact this

theorem Work.zoneRank_eq {s s' : State} (h : Work s s') (z : ZoneNo) : (s'.zone z).rank = (s.zone z).rank := by
  have := congrArg Zone.rank (h.zone_eq z); exact this

theorem Work.zoneChime_eq {s s' : State} (h : Work s s') (z : ZoneNo) : (s'.zone z).chime = (s.zone z).chime := by
  have := congrArg Zone.chime (h.zone_eq z); exact this

/-- What starts and ends of sweeps within `A` do beside their moves: they write no slot outside `A`, raise notices about
zones of `A` alone, and load no plan but under AFTER_SWEEP. -/
structure State.Tended (A : Touch) (s s' : State) : Prop where
  moves : Moves A s s'
  slots : ∀ j, ¬ A.slot j → s'.slot j = s.slot j
  notices : RaisedOf A.zone s.noticeSet s'.noticeSet
  plans : ∀ y, (s.zone (s.zone y).leader).rule ≠ .afterSweep → (s.zone y).SamePlans (s'.zone y)

theorem Zone.SamePlans.refl (x : Zone) : x.SamePlans x := ⟨rfl, rfl, rfl⟩

namespace State.Tended

variable {A : Touch} {s s' s'' : State} {k : SlotNo} {z : ZoneNo}

theorem refl (s : State) : Tended A s s := ⟨.refl s, fun _ _ => rfl, .refl _, fun _ _ => .refl _⟩

theorem trans (h : Tended A s s') (g : Tended A s' s'') : Tended A s s'' where
  moves := h.moves.trans g.moves
  slots j hj := (g.slots j hj).trans (h.slots j hj)
  notices := h.notices.trans g.notices
  plans y hy := (h.plans y hy).trans (g.plans y (by rw [h.moves.work.leader_eq, h.moves.work.rule_eq]; exact hy))

/-- Work on doors that hands off to slots of `A`. -/
theorem of_handsTo (hm : Moves A s s') (h : s.HandsTo A.slot s') : Tended A s s' :=
  ⟨hm, h.slots, by rw [h.notices]; exact .refl _, fun y _ => .of_underived (h.zones y)⟩

/-- A zone's marker or last direction is written. -/
theorem updZone (hz : A.zone z) {f : Zone → Zone} (hf : ∀ x, (f x).fixed = x.fixed) (hp : ∀ x, Zone.SamePlans x (f x)) :
    Tended A s (s.updZone z f) := by
  refine ⟨.zone hz hf, fun _ _ => rfl, .refl _, fun y _ => ?_⟩
  rw [State.zone_updZone]
  split
  · next h => rw [h]; exact hp _
  · exact .refl _

theorem dropMarker (hz : A.zone z) : Tended A s (s.updZone z (fun x => { x with marker := none })) :=
  updZone hz (fun _ => rfl) fun _ => ⟨rfl, rfl, rfl⟩

theorem leaveDoors (h : ∀ d, (s.door d).linkedTo k = true → A.door d) : Tended A s (s.leaveDoors k) :=
  of_handsTo (.leaveDoors h) (.of_eq rfl rfl rfl)

theorem closeSweep {w : Sweep} (hk : A.slot k) (hz : A.zone w.zone) (c : Bool) : Tended A s (s.closeSweep k w c) := by
  refine ⟨.closeSweep hk hz c, fun j hj => ?_, (RaisedOf.refl _).raise _ _ hz _, fun y _ => ?_⟩
  · rw [State.slot_closeSweep, if_neg (by rintro rfl; exact hj hk)]
  · have h : ((s.closeSweep k w c).zone y).underived =
        ((s.updZone w.zone (fun x => { x with last := some w.direction })).zone y).underived :=
      (HandsTo.rederive (K := fun _ => False) (s := (s.updZone w.zone (fun x => { x with last := some w.direction })).setSlot k
        none) w.zone).zones y
    refine Zone.SamePlans.trans ?_ (.of_underived h)
    rw [State.zone_updZone]
    split
    · next e => rw [e]; exact ⟨rfl, rfl, rfl⟩
    · exact .refl _

theorem loadUnder (z : ZoneNo) : Tended A s (s.loadUnder .afterSweep z) := by
  refine ⟨.loadUnder _ _, fun j _ => State.slot_loadUnder _ _ _ _,
    by rw [State.loadUnder_same (g := State.noticeSet) (fun _ _ => rfl)]; exact .refl _, fun y hy => ?_⟩
  unfold State.loadUnder
  split
  · next h =>
      rw [State.zone_groupLoad, if_neg]
      · exact .refl _
      · intro e
        rw [e] at hy
        exact hy h.2
  · exact .refl _

theorem enterActive (hk : A.slot k) (hd : ∀ w ∈ s.slot k, ∀ d, s.IsDoorOf w.zone d → A.door d) :
    Tended A s (s.enterActive k) := of_handsTo (.enterActive hk hd) (.enterActive hk)

theorem startIn (hk : A.slot k) (hz : A.zone z) (hd : ∀ d, s.IsDoorOf z d → A.door d) (dir : Direction) (o : Origin) :
    Tended A s (s.startIn k z dir o) := by
  have hm : Moves A s (s.startIn k z dir o) := .startIn hk hz hd dir o
  have h0 : Tended A s (s.updZone z (fun x => { x with marker := none })) := dropMarker hz
  have h1 : (s.updZone z (fun x => { x with marker := none })).HandsTo A.slot (s.startIn k z dir o) := by
    unfold State.startIn
    dsimp only
    split
    · exact ((HandsTo.setSlot hk _).trans (.placeWarns z _)).trans (.rederive z)
    · exact ((HandsTo.setSlot hk _).trans (.rederive z)).trans (.enterActive hk)
  refine ⟨hm, fun j hj => (h1.slots j hj).trans (h0.slots j hj), ?_, fun y hy => (h0.plans y hy).trans (.of_underived (h1.zones y))⟩
  rw [h1.notices]
  exact h0.notices

end State.Tended

end Sys2Proof.Machine


namespace Sys2Proof.Machine

/-- A sweep after moves is of a zone of the reach, or its slot held one of its zone before. -/
theorem Moves.slot_zone {A : Touch} {s s' : State} (h : Moves A s s') {k : SlotNo} {w : Sweep} (hw : s'.slot k = some w) :
    A.zone w.zone ∨ ∃ v, s.slot k = some v ∧ v.zone = w.zone := by
  induction h generalizing w with
  | refl => exact .inr ⟨w, hw, rfl⟩
  | tail _ hp ih =>
    rcases hp.slot k with ⟨g, hg⟩ | ⟨-, hz, -⟩
    · rw [hw] at hg
      obtain ⟨v, hv, rfl⟩ := Option.map_eq_some_iff.mp hg.symm
      have := ih hv
      exact this
    · rcases hz w hw with hz | ⟨v, hv, hvw⟩
      · exact .inl hz
      · exact hvw ▸ ih hv

/-- Of a zone outside the reach the marker and the last direction stand. -/
theorem Moves.zone_outside {A : Touch} {s s' : State} (h : Moves A s s') {z : ZoneNo} (hz : ¬ A.zone z) :
    (s'.zone z).marker = (s.zone z).marker ∧ (s'.zone z).last = (s.zone z).last := by
  induction h with
  | refl => exact ⟨rfl, rfl⟩
  | tail _ hp ih =>
    obtain ⟨hm, hl⟩ := hp.zone_outside hz
    exact ⟨hm.trans ih.1, hl.trans ih.2⟩

theorem Door.linkedTo_congr {x y : Door} (h : y.sweep = x.sweep) (k : SlotNo) : y.linkedTo k = x.linkedTo k := by
  rw [Door.linkedTo, Door.linkedTo, h]

/-- What an offer may touch, it may touch after moves within its reach. -/
theorem Touch.Offers.moves {A : Touch} {k : SlotNo} {s s' : State} (h : A.Offers k s) (hm : Moves A s s') :
    A.Offers k s' where
  slot := h.slot
  sweep w hw := by
    rcases hm.slot_zone hw with hz | ⟨v, hv, hvw⟩
    · exact hz
    · exact hvw ▸ h.sweep v hv
  zone z hz := by
    by_contra hn
    rw [(hm.zone_outside hn).1] at hz
    exact hn (h.zone z hz)
  door z hz d hd := h.door z hz d ((hm.work.isDoorOf z d).mp hd)
  linked d hd := by
    by_contra hn
    rw [Door.linkedTo_congr (hm.marks_outside hn).2.2.1] at hd
    exact hn (h.linked d hd)

namespace State.Tended

variable {A : Touch} {s s' : State} {k : SlotNo}

/-- The waiting zone that takes a slot still has its marker; those dropped before it had one each (R59). -/
theorem takeWaiting (hz : ∀ z, (s.zone z).marker.isSome = true → A.zone z) (l : List ZoneNo) :
    Tended A s (State.takeWaiting l s).1 ∧ ∀ e, (State.takeWaiting l s).2 = some e →
      ((State.takeWaiting l s).1.zone e.1).marker = some e.2 := by
  induction l generalizing s with
  | nil => exact ⟨refl s, fun e h => by cases h⟩
  | cons z l ih =>
    unfold State.takeWaiting
    split
    · exact ih hz
    · next m hm =>
        split
        · have h0 : Tended A s (s.updZone z (fun x => { x with marker := none })) := dropMarker (hz z (by rw [hm]; rfl))
          obtain ⟨h, hr⟩ := ih (s := s.updZone z (fun x => { x with marker := none })) fun y hy => by
            rw [State.zone_updZone] at hy
            split at hy
            · cases hy
            · exact hz y hy
          exact ⟨h0.trans h, hr⟩
        · exact ⟨refl s, fun e h => by cases h; exact hm⟩

/-- The sweep of a slot is left by its doors and closed. -/
theorem close {w : Sweep} (h : A.Offers k s) (hw : s.slot k = some w) (c : Bool) :
    Tended A s ((s.leaveDoors k).closeSweep k w c) :=
  (leaveDoors h.linked).trans (closeSweep h.slot (h.sweep w hw) c)

theorem offerLoop (n : Nat) (h : A.Offers k s) : Tended A s (State.offerLoop n k s) := by
  induction n generalizing s with
  | zero => exact refl s
  | succ n ih =>
    obtain ⟨htake, hmark⟩ := takeWaiting h.zone (s.zonesInRankOrder s.waitingZones)
    unfold State.offerLoop
    split
    · next q hq => rw [hq] at htake; exact htake
    · next q z m hq =>
        rw [hq] at htake hmark
        have hq : A.Offers k q := h.moves htake.moves
        have hz : A.zone z := hq.zone z (by rw [hmark _ rfl]; rfl)
        have hs : Tended A q (q.startIn k z m.direction m.origin) := startIn h.slot hz (hq.door z hz) _ _
        have hstart := htake.trans hs
        have hqs := hq.moves hs.moves
        dsimp only
        split
        · split
          · exact hstart
          · next w hw =>
              have hc := close hqs hw false
              exact ((hstart.trans hc).trans (ih (hqs.moves hc.moves))).trans (loadUnder _)
        · exact hstart

theorem offer (h : A.Offers k s) : Tended A s (s.offer k) := by
  unfold State.offer
  split
  · exact refl s
  · exact offerLoop 33 h

theorem finish (h : A.Offers k s) : Tended A s (s.finish k) := by
  unfold State.finish
  split
  · exact refl s
  · next w hw =>
      have hc := close h hw false
      exact (hc.trans (offer (h.moves hc.moves))).trans (loadUnder _)

theorem finishIfDone (h : A.Offers k s) : Tended A s (s.finishIfDone k) := by
  unfold State.finishIfDone
  split
  · exact finish h
  · exact refl s

end State.Tended

end Sys2Proof.Machine


namespace Sys2Proof.Machine

/-! ### A sweep that finishes with its walk -/

/-- What a sweep's end in a slot leaves to the offers that follow: another zone's doors, the other zones, and the slot. -/
def Touch.besides (s : State) (z : ZoneNo) (k : SlotNo) : Touch := ⟨fun d => ¬ s.IsDoorOf z d, (· ≠ z), (· = k)⟩

theorem Touch.not_door_besides {s : State} {z : ZoneNo} {k : SlotNo} {d : DoorNo} (h : s.IsDoorOf z d) :
    ¬ (Touch.besides s z k).door d := fun g => g h

theorem Touch.not_zone_besides {s : State} {z : ZoneNo} {k : SlotNo} : ¬ (Touch.besides s z k).zone z := fun g => g rfl

/-- The state in which a walk's finished sweep is closed (R74). -/
def State.closed (k : SlotNo) (w : Sweep) (s : State) : State := (s.leaveDoors k).closeSweep k w false

theorem State.closed_eq (k : SlotNo) (w : Sweep) (s : State) : s.closed k w = (s.leaveDoors k).closeSweep k w false := rfl

theorem State.door_closed (k : SlotNo) (w : Sweep) (s : State) (d : DoorNo) :
    (s.closed k w).door d = Door.leaveSweep k (s.door d) := State.door_mapDoors s (Door.leaveSweep k) d

theorem State.slot_closed (k j : SlotNo) (w : Sweep) (s : State) : (s.closed k w).slot j = if j = k then none else s.slot j :=
  State.slot_closeSweep k j w false (s.leaveDoors k)

theorem State.trunk_closed (k : SlotNo) (w : Sweep) (s : State) (u : Trunk) : (s.closed k w).trunk u = s.trunk u := rfl

theorem State.noticeSet_closed (k : SlotNo) (w : Sweep) (s : State) : (s.closed k w).noticeSet =
    s.noticeSet.raise s.clock.stamp .sweepDone (.zone w.zone) (.sweepDone w.direction w.origin false w.total w.counts) := rfl

/-- A close writes the zone's last direction, and derives its state. -/
theorem State.zone_closeSweep (k : SlotNo) (w : Sweep) (c : Bool) (s : State) (y : ZoneNo) :
    ((s.closeSweep k w c).zone y).underived =
      ((s.updZone w.zone (fun x => { x with last := some w.direction })).zone y).underived :=
  (State.HandsTo.rederive (K := fun _ => False)
    (s := (s.updZone w.zone (fun x => { x with last := some w.direction })).setSlot k none) w.zone).zones y

theorem State.last_closeSweep (k : SlotNo) (w : Sweep) (c : Bool) (s : State) :
    ((s.closeSweep k w c).zone w.zone).last = some w.direction := by
  have h := congrArg Zone.last (s.zone_closeSweep k w c w.zone)
  rw [State.zone_updZone, if_pos rfl] at h
  exact h

theorem State.marker_closeSweep (k : SlotNo) (w : Sweep) (c : Bool) (s : State) (y : ZoneNo) :
    ((s.closeSweep k w c).zone y).marker = (s.zone y).marker := by
  have h := congrArg Zone.marker (s.zone_closeSweep k w c y)
  refine Eq.trans h ?_
  rw [State.zone_updZone]
  show (ite _ _ _ : Zone).marker = _
  split
  · next e => rw [e]
  · rfl

theorem Door.leaveSweep_linked {x : Door} {k : SlotNo} {c : Count} (h : x.sweep = some ⟨k, c⟩) :
    Door.leaveSweep k x = { x with sweep := none, unreached := decide (c = .unreachable) } := by
  have hl : x.linkedTo k = true := by simp [Door.linkedTo, h]
  have hc : x.countedUnreachable = decide (c = .unreachable) := by simp [Door.countedUnreachable, h, beq_eq_decide]
  rw [Door.leaveSweep, if_pos hl, hc]

theorem Door.unlinked_leaveSweep (k : SlotNo) (x : Door) : (Door.leaveSweep k x).unlinked = x.unlinked := by
  rw [Door.leaveSweep]
  split <;> rfl

theorem Door.marks_leaveSweep (k : SlotNo) (x : Door) :
    (Door.leaveSweep k x).intent = x.intent ∧ (Door.leaveSweep k x).keepOpen = x.keepOpen := by
  rw [Door.leaveSweep]
  split <;> exact ⟨rfl, rfl⟩

/-- A close of its own slot spares a door but for its link. -/
theorem State.SparedButLink.closed (k : SlotNo) (w : Sweep) (s : State) (d : DoorNo) : s.SparedButLink (s.closed k w) d := by
  have ht : ((s.closed k w).door d).trunk = (s.door d).trunk := by
    rw [State.door_closed]
    have := congrArg Door.trunk (Door.unlinked_leaveSweep k (s.door d))
    exact this
  refine .stands (by rw [State.door_closed, Door.unlinked_leaveSweep]) ?_ ?_
  · rw [State.entry, State.entry, ht, State.trunk_closed]
  · rw [State.record, State.record, ht, State.trunk_closed]

theorem Moves.closed {A : Touch} (s : State) {k : SlotNo} (w : Sweep) (hd : ∀ d, (s.door d).linkedTo k = true → A.door d)
    (hk : A.slot k) (hz : A.zone w.zone) : Moves A s (s.closed k w) := (Moves.leaveDoors hd).trans (Moves.closeSweep hk hz false)

/-- A walk whose zone has no pending door: its sweep is closed, and what follows touches other zones (R73, R74). -/
theorem State.walkedTo_finished {s r t : State} {z : ZoneNo} {dir : Direction} {o : Origin} {k : SlotNo} {w : Sweep}
    (hr : s.WalkEnd z dir o k r) (hw : r.considerAll.slot k = some w) (hp : (s.walkCounts z dir).pending = 0)
    (hone : ∀ j v, j ≠ k → r.slot j = some v → v.zone ≠ z)
    (ht : State.Tended (Touch.besides s z k) (r.considerAll.closed k w) t) : s.WalkedTo t z dir o k := by
  have hg := Moves.grants r
  have hh : r.HandsTo (fun _ => False) r.considerAll := .considerAll
  have hw' : w = ⟨z, dir, o, .active, ((List.finRange 256).filter (fun d => decide (s.IsDoorOf z d))).length,
      s.walkCounts z dir⟩ := Option.some.inj (hw.symm.trans ((hh.slots k id).trans hr.slot))
  have hclose : Moves Touch.all r.considerAll (r.considerAll.closed k w) :=
    Moves.closed _ w (fun _ _ => trivial) trivial trivial
  have hwork : Work s t := ((hr.work.trans hg.work).trans hclose.work).trans ht.moves.work
  have hlink : ∀ d, s.IsDoorOf z d → ((r.considerAll.closed k w).door d).sweep = none ∧
      ((r.considerAll.closed k w).door d).unreached = decide (s.tableCount dir d = .unreachable) := fun d hd => by
    have hs : (r.considerAll.door d).sweep = some ⟨k, s.tableCount dir d⟩ :=
      (hg.marks_outside (d := d) id).2.2.1.trans (hr.marks hd).2.2.1
    rw [State.door_closed, Door.leaveSweep_linked hs]
    exact ⟨rfl, rfl⟩
  have hspare : s.WorkLaw → ∀ d, s.IsDoorOf z d → r.SparedButLink t d := fun hl d hd => by
    have hlr := hr.workLaw hl
    have hlc := hclose.workLaw (hg.workLaw hlr)
    exact ((hg.spared id (hlr d)).butLink.trans (.closed k w _ d)).trans
      (ht.moves.spared (Touch.not_door_besides hd) (hlc d)).butLink
  refine ⟨fun d hd => ?marks, fun hl d hd => State.walkedDoor hr hl hwork hd (hspare hl d hd), ?_⟩
  case marks =>
    obtain ⟨hi, hk, -, -⟩ := ht.moves.marks_outside (Touch.not_door_besides hd)
    obtain ⟨hi', hk', -, -⟩ := hg.marks_outside (d := d) id
    obtain ⟨hi'', hk'', -, -⟩ := hr.marks hd
    obtain ⟨hui, huk⟩ := Door.marks_leaveSweep k (r.considerAll.door d)
    rw [State.door_closed] at hi hk
    exact s.wantedDoor_marks dir d _ (hi.trans (hui.trans (hi'.trans hi''))) (hk.trans (huk.trans (hk'.trans hk'')))
  rw [if_pos hp]
  have hwz : w.zone = z := by rw [hw']
  refine ⟨fun d hd => ?link, ?last, ?free, ?tells⟩
  case link =>
    obtain ⟨-, -, hs, hu⟩ := ht.moves.marks_outside (Touch.not_door_besides hd)
    obtain ⟨hs', hu'⟩ := hlink d hd
    exact ⟨hs.trans hs', hu.trans hu'⟩
  case last =>
    refine (ht.moves.zone_outside Touch.not_zone_besides).2.trans ?_
    have h := State.last_closeSweep k w false (r.considerAll.leaveDoors k)
    rw [hwz] at h
    rw [State.closed_eq, h, hw']
  case free =>
    rintro ⟨j, hj⟩
    obtain ⟨v, hv, hvz⟩ := Option.map_eq_some_iff.mp hj
    rcases ht.moves.slot_zone hv with hne | ⟨v', hv', hzz⟩
    · exact hne hvz
    · rw [State.slot_closed] at hv'
      by_cases hjk : j = k
      · rw [if_pos hjk] at hv'
        cases hv'
      · rw [if_neg hjk, hh.slots j id] at hv'
        exact hone j v' hjk hv' (hzz.trans hvz)
  case tells =>
    refine ht.notices.tells Touch.not_zone_besides ?_
    have h := NoticeSet.Tells.raised r.considerAll.noticeSet r.considerAll.clock.stamp .sweepDone (.zone w.zone)
      (.sweepDone w.direction w.origin false w.total w.counts)
    rw [(hr.work.trans hg.work).clock_eq] at h
    rw [State.noticeSet_closed, (hr.work.trans hg.work).clock_eq]
    rw [hw'] at h ⊢
    exact h

end Sys2Proof.Machine


namespace Sys2Proof.Machine

/-! ### A sweep enters ACTIVE (R65, R73) -/

/-- The state `q` has the sweep `w` in slot `k`, about to enter ACTIVE, and differs from `s` in the tables of zones and
sweeps alone, not in the plans. -/
structure State.Ready (s q : State) (k : SlotNo) (w : Sweep) : Prop where
  tables : q = { s with zones := q.zones, slots := q.slots }
  work : Work s q
  plans : ∀ y, (s.zone y).SamePlans (q.zone y)
  slot : q.slot k = some w
  free : w.direction = .lock → ¬ s.Barred w.zone
  marker : (q.zone w.zone).marker = none
  others : ∀ j v, j ≠ k → q.slot j = some v → v.zone ≠ w.zone

theorem State.isFinished_of {s : State} {k : SlotNo} {w : Sweep} (h : s.slot k = some w) (ha : w.phase = .active) :
    s.isFinished k = decide (w.counts.pending = 0) := by
  unfold State.isFinished
  rw [h]
  show (w.phase == .active && w.counts.pending == 0) = _
  rw [ha, beq_eq_decide (a := w.counts.pending)]
  rfl

theorem State.finishIfDone_done {s : State} {k : SlotNo} (h : s.isFinished k = true) : s.finishIfDone k = s.finish k := if_pos h

theorem State.finishIfDone_going {s : State} {k : SlotNo} (h : s.isFinished k = false) : s.finishIfDone k = s :=
  if_neg (by rw [h]; decide)

theorem State.finish_eq {s : State} {k : SlotNo} {w : Sweep} (h : s.slot k = some w) :
    s.finish k = State.loadUnder .afterSweep w.zone ((s.closed k w).offer k) := by
  unfold State.finish
  rw [h]
  rfl

namespace State.Ready

variable {s q : State} {k : SlotNo} {w : Sweep}

theorem handsTo_of {K : SlotNo → Prop} (hk : K k) (w : Sweep) (q : State) : q.HandsTo K (q.walkedZone k w) :=
  ((HandsTo.setSlot hk _).trans (.forEach _ fun d _ _ => .walkDoor hk _ d)).trans
    ((HandsTo.updSlot hk _).trans (.rederive _))

theorem handsTo (k : SlotNo) (w : Sweep) (q : State) : q.HandsTo (· = k) (q.walkedZone k w) :=
  handsTo_of (K := (· = k)) rfl w q

theorem walkEnd (h : s.Ready q k w) : s.WalkEnd w.zone w.direction w.origin k (q.walkedZone k w) := by
  obtain ⟨ht, hw, -, -, hb, -, -⟩ := h
  rw [ht] at hw ⊢
  exact State.walkEnd hw hb

/-- The sweep in the slot after the walk. -/
theorem slot_active (h : s.Ready q k w) : (q.enterActive k).slot k = some ⟨w.zone, w.direction, w.origin, .active,
    ((List.finRange 256).filter (fun d => decide (s.IsDoorOf w.zone d))).length, s.walkCounts w.zone w.direction⟩ := by
  have hh : (q.walkedZone k w).HandsTo (fun _ => False) (q.walkedZone k w).considerAll := .considerAll
  rw [State.enterActive_eq h.slot]
  exact (hh.slots k id).trans h.walkEnd.slot

theorem isFinished (h : s.Ready q k w) :
    (q.enterActive k).isFinished k = decide ((s.walkCounts w.zone w.direction).pending = 0) :=
  State.isFinished_of h.slot_active rfl

/-- With a pending door the sweep goes on. -/
theorem going (h : s.Ready q k w) (hp : (s.walkCounts w.zone w.direction).pending ≠ 0) :
    s.WalkedTo (q.enterActive k) w.zone w.direction w.origin k := by
  rw [State.enterActive_eq h.slot]
  exact State.walkedTo_going h.walkEnd (fun y => (h.plans y).trans (.of_underived ((handsTo k w q).zones y))) hp

/-- Without one it finishes, and what is done with its slot stays away from its zone. -/
theorem finished (h : s.Ready q k w) (hp : (s.walkCounts w.zone w.direction).pending = 0) {v : Sweep}
    (hv : (q.enterActive k).slot k = some v) {t : State}
    (ht : State.Tended (Touch.besides s w.zone k) ((q.enterActive k).closed k v) t) :
    s.WalkedTo t w.zone w.direction w.origin k := by
  rw [State.enterActive_eq h.slot] at hv ht
  refine State.walkedTo_finished h.walkEnd hv hp (fun j v hj hv => h.others j v hj ?_) ht
  rw [← (handsTo k w q).slots j hj]
  exact hv

theorem work_active (h : s.Ready q k w) : Work s (q.enterActive k) := by
  rw [State.enterActive_eq h.slot]
  exact h.walkEnd.work.trans (Moves.grants _).work

/-- The offer of the slot of a sweep that finishes with its walk stays away from the sweep's zone. -/
theorem offers (h : s.Ready q k w) {v : Sweep} (hv : (q.enterActive k).slot k = some v) :
    (Touch.besides s w.zone k).Offers k ((q.enterActive k).closed k v) := by
  have hg := Moves.grants (q.walkedZone k w)
  have hr := h.walkEnd
  have hv' := Option.some.inj (hv.symm.trans h.slot_active)
  have hwork : Work s ((q.enterActive k).closed k v) := h.work_active.trans
    (Moves.closed (A := Touch.all) _ v (fun _ _ => trivial) trivial trivial).work
  refine ⟨rfl, fun x hx => ?_, fun y hy => ?_, fun y hy d hd hz => ?_, fun d hd hz => ?_⟩
  · rw [State.slot_closed, if_pos rfl] at hx
    cases hx
  · rintro rfl
    have hm : (((q.enterActive k).closed k v).zone w.zone).marker = none := by
      rw [State.closed_eq, State.marker_closeSweep]
      have hh : q.HandsTo (· = k) (q.enterActive k) := .enterActive rfl
      have := congrArg Zone.marker (hh.zones w.zone)
      exact Eq.trans this h.marker
    rw [hm] at hy
    cases hy
  · exact hy (((hwork.isDoorOf y d).mp hd).2.symm.trans hz.2)
  · have hs : ((q.enterActive k).door d).sweep = some ⟨k, s.tableCount w.direction d⟩ := by
      rw [State.enterActive_eq h.slot]
      exact (hg.marks_outside (d := d) id).2.2.1.trans (hr.marks hz).2.2.1
    rw [State.door_closed, Door.leaveSweep_linked hs] at hd
    cases hd

/-- A sweep that has entered ACTIVE, finished at once when no door of its zone is pending. -/
theorem walkedTo (h : s.Ready q k w) :
    s.WalkedTo ((q.enterActive k).finishIfDone k) w.zone w.direction w.origin k := by
  by_cases hp : (s.walkCounts w.zone w.direction).pending = 0
  · rw [State.finishIfDone_done (h.isFinished.trans (decide_eq_true hp)), State.finish_eq h.slot_active]
    exact h.finished hp h.slot_active ((Tended.offer (h.offers h.slot_active)).trans (.loadUnder _))
  · rw [State.finishIfDone_going (h.isFinished.trans (decide_eq_false hp))]
    exact h.going hp

end State.Ready

end Sys2Proof.Machine


namespace Sys2Proof.Machine

/-! ### A cancel's part before the close hands off nothing (R78) -/

/-- The links of doors are as they were. -/
def State.SameLinks (s s' : State) : Prop := ∀ d, (s'.door d).sweep = (s.door d).sweep

theorem State.SameLinks.trans {s s' s'' : State} (h : s.SameLinks s') (g : s'.SameLinks s'') : s.SameLinks s'' :=
  fun d => (g d).trans (h d)

theorem State.SameLinks.updDoor {s : State} {f : Door → Door} (d : DoorNo) (hf : ∀ x, (f x).sweep = x.sweep) :
    s.SameLinks (s.updDoor d f) := fun e => by
  rw [State.door_updDoor]
  split
  · next h => rw [h, hf]
  · rfl

theorem State.SameLinks.changeState {s : State} {d : DoorNo} (h : (s.door d).sweep = none) (st : DoorState) :
    s.SameLinks (s.changeState d st) := by
  rw [State.changeState_unlinked h]
  split
  · exact fun _ => rfl
  · exact State.SameLinks.updDoor (s := s) (f := Door.enter st) d (fun _ => rfl)

theorem State.SameLinks.considerDoor (s : State) (d : DoorNo) : s.SameLinks (s.considerDoor d) := fun e =>
  ((Moves.considerDoor (A := Touch.nothing) (s := s) d).marks_outside (d := e) id).2.2.1

section
variable {K : SlotNo → Prop} {s : State} {d : DoorNo}

theorem State.HandsTo.dropEntry (d : DoorNo) : s.HandsTo K (s.dropEntry d) := .updTrunk _ _

/-- The re-statement of a door without a link. -/
theorem State.restate_unlinked (h : (s.door d).sweep = none) : s.HandsTo K (s.restate d) ∧ s.SameLinks (s.restate d) :=
  ⟨(State.HandsTo.changeState (.of_none h) _).trans (.updDoor _ _),
    (State.SameLinks.changeState h _).trans (.updDoor d fun _ => rfl)⟩

theorem State.withdrawEntry_unlinked (h : (s.door d).sweep = none) :
    s.HandsTo K (s.withdrawEntry d) ∧ s.SameLinks (s.withdrawEntry d) := by
  obtain ⟨hh, hs⟩ := State.restate_unlinked (K := K) (s := s.dropEntry d) h
  exact ⟨(((State.HandsTo.dropEntry d).trans hh).trans (.updDoor _ _)).trans (.considerDoor d),
    (State.SameLinks.trans (s := s) hs (State.SameLinks.updDoor (f := Door.noIntent) d fun _ => rfl)).trans (.considerDoor _ d)⟩

theorem State.cancelDoor_unlinked {e : DoorNo × Count} (h : (s.door e.1).sweep = none) :
    s.HandsTo K (s.cancelDoor e) ∧ s.SameLinks (s.cancelDoor e) := by
  unfold State.cancelDoor
  dsimp only
  split
  · exact ⟨.refl s, fun _ => rfl⟩
  · split
    · exact State.withdrawEntry_unlinked h
    · exact ⟨(State.HandsTo.changeState (.of_none h) _).trans (.updDoor _ _),
        (State.SameLinks.changeState h _).trans (.updDoor _ fun _ => rfl)⟩
    all_goals exact ⟨.updDoor _ _, .updDoor _ fun _ => rfl⟩

theorem State.cancelDoors_unlinked (l : List (DoorNo × Count)) (h : ∀ e ∈ l, (s.door e.1).sweep = none) :
    s.HandsTo K (forEach l State.cancelDoor s) := by
  induction l generalizing s with
  | nil => exact .refl s
  | cons e l ih =>
    obtain ⟨hh, hs⟩ := State.cancelDoor_unlinked (K := K) (h e List.mem_cons_self)
    exact hh.trans (ih fun x hx => (hs x.1).trans (h x (List.mem_cons_of_mem e hx)))

end

theorem State.mem_linkedDoors {s : State} {k : SlotNo} {e : DoorNo × Count} : e ∈ s.linkedDoors k ↔
    (s.door e.1).configured = true ∧ (s.door e.1).sweep = some ⟨k, e.2⟩ := by
  obtain ⟨d, c⟩ := e
  simp only [State.linkedDoors, State.inRankOrder, List.mem_filterMap, mem_sortByKey, State.mem_doorsWhere,
    Option.map_eq_some_iff, Prod.mk.injEq]
  constructor
  · rintro ⟨e, ⟨hc, hl⟩, l, hs, rfl, rfl⟩
    rw [Door.linkedTo, hs] at hl
    have hk : l.slot = k := by simpa using hl
    exact ⟨hc, by rw [hs, ← hk]⟩
  · rintro ⟨hc, hs⟩
    exact ⟨d, ⟨hc, by simp [Door.linkedTo, hs]⟩, ⟨k, c⟩, hs, rfl, rfl⟩

theorem State.door_unlinkAll (s : State) (k : SlotNo) (d : DoorNo) : (s.unlinkAll k).door d =
    if (s.door d).linkedTo k then { s.door d with sweep := none } else s.door d :=
  State.door_mapDoors s (fun x => if x.linkedTo k then { x with sweep := none } else x) d

theorem State.HandsTo.stopSweep {K : SlotNo → Prop} (s : State) (k : SlotNo) (w : Sweep) : s.HandsTo K (s.stopSweep k w) := by
  cases hp : w.phase with
  | warning c => rw [State.stopSweep_warning hp]; exact .placeWarns _ _
  | active =>
    rw [State.stopSweep_active hp]
    have hu : s.HandsTo K (s.unlinkAll k) := .of_eq rfl rfl rfl
    refine hu.trans (State.cancelDoors_unlinked _ fun e he => ?_)
    have hl : (s.door e.1).linkedTo k = true := by simp [Door.linkedTo, (State.mem_linkedDoors.mp he).2]
    rw [State.door_unlinkAll, if_pos hl]

theorem State.Tended.cancelSweep {A : Touch} {s : State} {k : SlotNo} (h : A.Offers k s) : Tended A s (s.cancelSweep k) := by
  cases hw : s.slot k with
  | none => rw [State.cancelSweep_free hw]; exact refl s
  | some w =>
    rw [State.cancelSweep_eq hw]
    have hm : Moves A s (s.stopSweep k w) := .stopSweep h.linked
    exact ((of_handsTo hm (.stopSweep s k w)).trans (closeSweep h.slot (h.sweep w hw) true)).trans (loadUnder _)

end Sys2Proof.Machine


namespace Sys2Proof.Machine

/-! ### Warn entries -/

theorem mem_putWarn_self (e : WarnEntry) (l : List WarnEntry) : e ∈ putWarn e l := by
  unfold putWarn
  split
  · next h =>
      obtain ⟨x, hx, hd⟩ := List.any_eq_true.mp h
      exact List.mem_map.mpr ⟨x, hx, if_pos (by simpa using hd)⟩
  · exact List.mem_append_right _ (List.mem_singleton.mpr rfl)

theorem mem_putWarn_ne {e x : WarnEntry} {l : List WarnEntry} (hx : x ∈ l) (h : x.door ≠ e.door) : x ∈ putWarn e l := by
  unfold putWarn
  split
  · exact List.mem_map.mpr ⟨x, hx, if_neg h⟩
  · exact List.mem_append_left _ hx

/-- The doors and the zones' chimes, which a warn entry is made of, stay, and entries of other doors too. -/
theorem State.mem_placeWarn {s : State} {m : Nat} {d e : DoorNo} {c n : Nat}
    (h : ⟨e, c, n⟩ ∈ (s.trunk (s.door e).trunk).warnList) (hne : e ≠ d) :
    ⟨e, c, n⟩ ∈ ((s.placeWarn m d).trunk (s.door e).trunk).warnList := by
  rw [State.placeWarn, State.trunk_updTrunk]
  split
  · next hu => exact mem_putWarn_ne (hu ▸ h) hne
  · exact h

/-- Each chime door of a zone that is not held has its entry (R63, R77). -/
theorem State.mem_placeWarns {s : State} {z : ZoneNo} {m : Nat} {d : DoorNo} (hd : s.IsDoorOf z d)
    (hc : (s.door d).chime = true) (hh : s.held d = false) :
    ⟨d, (s.zone z).chime, m⟩ ∈ ((s.placeWarns z m).trunk (s.door d).trunk).warnList := by
  have key : ∀ (l : List DoorNo) (q : State), (∀ e, q.door e = s.door e) → (∀ y, q.zone y = s.zone y) → d ∈ l →
      ⟨d, (s.zone z).chime, m⟩ ∈ ((forEach l (State.placeWarn m) q).trunk (s.door d).trunk).warnList := by
    intro l
    induction l using List.reverseRecOn with
    | nil => exact fun _ _ _ h => absurd h List.not_mem_nil
    | append_singleton l a ih =>
      intro q hq hz hm
      rw [forEach_append]
      have hp : ∀ e, (forEach l (State.placeWarn m) q).door e = q.door e := fun e =>
        forEach_same (g := fun s : State => s.door e) (f := State.placeWarn m) l (fun _ _ => rfl) q
      have hpz : ∀ y, (forEach l (State.placeWarn m) q).zone y = q.zone y := fun y =>
        forEach_same (g := fun s : State => s.zone y) (f := State.placeWarn m) l (fun _ _ => rfl) q
      have ih := ih q hq hz
      generalize forEach l (State.placeWarn m) q = p at hp hpz ih
      show _ ∈ ((p.placeWarn m a).trunk (s.door d).trunk).warnList
      by_cases hda : d = a
      · subst hda
        rw [State.placeWarn, State.trunk_updTrunk, hp, hq, if_pos rfl, hpz, hz, hd.2]
        exact mem_putWarn_self _ _
      · have hml : d ∈ l := (List.mem_append.mp hm).resolve_right fun h => hda (List.mem_singleton.mp h)
        have := State.mem_placeWarn (s := p) (m := m) (d := a) (e := d) (c := (s.zone z).chime) (n := m)
        rw [hp, hq] at this
        exact this (ih hml) hda
  refine key _ s (fun _ => rfl) (fun _ => rfl) (State.mem_doorsWhere.mpr ⟨hd.1, ?_⟩)
  simp [hd.2, hc, hh]

/-! ### Loads -/

/-- The load at a sweep's end, with the plans before it as they were (R42, R74, R79). -/
theorem State.LoadedAfter.loadUnder {s b : State} (hw : Work s b) (hp : ∀ y, (s.zone y).SamePlans (b.zone y)) (z : ZoneNo) :
    s.LoadedAfter (b.loadUnder .afterSweep z) (fun y => y = z) := by
  intro y
  obtain ⟨hs, hl, hd⟩ := hp y
  by_cases hz : (b.zone z).leader = z ∧ (b.zone z).rule = .afterSweep
  · have hb : b.loadUnder .afterSweep z = b.groupLoad z := if_pos hz
    rw [hb, State.zone_groupLoad_eq, hw.leader_eq, hd, hs]
    rw [hw.leader_eq, hw.rule_eq] at hz
    split
    · next h => exact ⟨hs, fun _ => ⟨rfl, rfl⟩, fun g => absurd ⟨h.1, h.1.symm ▸ hz.1, h.1.symm ▸ hz.2, h.2⟩ g⟩
    · next h => exact ⟨hs, fun g => absurd ⟨g.1, g.2.2.2⟩ h, fun _ => ⟨hl, hd⟩⟩
  · have hb : b.loadUnder .afterSweep z = b := if_neg hz
    rw [hb]
    rw [hw.leader_eq, hw.rule_eq] at hz
    refine ⟨hs, fun g => absurd ?_ hz, fun _ => ⟨hl, hd⟩⟩
    obtain ⟨he, h1, h2, -⟩ := g
    rw [he] at h1 h2
    exact ⟨h1, h2⟩

/-! ### Offers to no zone -/

theorem State.takeWaiting_unmarked {s : State} (h : ∀ z, (s.zone z).marker = none) (l : List ZoneNo) :
    State.takeWaiting l s = (s, none) := by
  induction l with
  | nil => rfl
  | cons z l ih =>
    unfold State.takeWaiting
    rw [h z]
    exact ih

/-- With no zone waiting an offered slot stays free (R59). -/
theorem State.offer_unmarked {s : State} (h : ∀ z, (s.zone z).marker = none) (k : SlotNo) : s.offer k = s := by
  unfold State.offer
  split
  · rfl
  · unfold State.offerLoop
    rw [State.takeWaiting_unmarked h]

/-! ### The cancel of a sweep (R77 to R79) -/

/-- An operation that may touch every door and zone, and one slot. -/
def Touch.inSlot (k : SlotNo) : Touch := ⟨fun _ => True, fun _ => True, (· = k)⟩

theorem Touch.offers_inSlot (k : SlotNo) (s : State) : (Touch.inSlot k).Offers k s :=
  ⟨rfl, fun _ _ => trivial, fun _ _ => trivial, fun _ _ _ _ => trivial, fun _ _ => trivial⟩

/-- What the cancel of the sweep of a slot leaves. -/
structure State.Cancelled (s c : State) (k : SlotNo) (w : Sweep) : Prop where
  tended : State.Tended (Touch.inSlot k) s c
  slot : c.slot k = none
  last : (c.zone w.zone).last = some w.direction
  markers : ∀ y, (c.zone y).marker = (s.zone y).marker
  notices : c.noticeSet = s.noticeSet.raise s.clock.stamp .sweepDone (.zone w.zone)
    (.sweepDone w.direction w.origin true w.total w.counts)
  loaded : s.LoadedAfter c (fun y => y = w.zone)

theorem State.marker_loadUnder (r : LoadRule) (z : ZoneNo) (s : State) (y : ZoneNo) :
    ((s.loadUnder r z).zone y).marker = (s.zone y).marker ∧ ((s.loadUnder r z).zone y).last = (s.zone y).last :=
  (Moves.loadUnder (A := Touch.nothing) r z).zone_outside (z := y) id

theorem State.noticeSet_loadUnder (r : LoadRule) (z : ZoneNo) (s : State) : (s.loadUnder r z).noticeSet = s.noticeSet :=
  State.loadUnder_same (g := State.noticeSet) (fun _ _ => rfl) r z s

theorem State.doors_loadUnder (r : LoadRule) (z : ZoneNo) (s : State) : (s.loadUnder r z).doors = s.doors :=
  State.loadUnder_same (g := State.doors) (fun _ _ => rfl) r z s

theorem State.trunks_loadUnder (r : LoadRule) (z : ZoneNo) (s : State) : (s.loadUnder r z).trunks = s.trunks :=
  State.loadUnder_same (g := State.trunks) (fun _ _ => rfl) r z s

theorem State.cancelled {s : State} {k : SlotNo} {w : Sweep} (h : s.slot k = some w) : s.Cancelled (s.cancelSweep k) k w := by
  have hh : s.HandsTo (fun _ => False) (s.stopSweep k w) := .stopSweep s k w
  have hm : Moves Touch.all s (s.stopSweep k w) := .stopSweep fun _ _ => trivial
  have hmark : ∀ y, ((s.stopSweep k w).zone y).marker = (s.zone y).marker := fun y => by
    have := congrArg Zone.marker (hh.zones y)
    exact this
  refine ⟨.cancelSweep (Touch.offers_inSlot k s), State.slot_cancelSweep s k, ?_, fun y => ?_, ?_, ?_⟩
  · rw [State.cancelSweep_eq h, (State.marker_loadUnder _ _ _ _).2, State.last_closeSweep]
  · rw [State.cancelSweep_eq h, (State.marker_loadUnder _ _ _ _).1, State.marker_closeSweep, hmark]
  · rw [State.cancelSweep_eq h, State.noticeSet_loadUnder]
    have hn : ((s.stopSweep k w).closeSweep k w true).noticeSet = (s.stopSweep k w).noticeSet.raise
        (s.stopSweep k w).clock.stamp .sweepDone (.zone w.zone)
        (.sweepDone w.direction w.origin true w.total w.counts) := rfl
    rw [hn, hh.notices, hm.work.clock_eq]
  · rw [State.cancelSweep_eq h]
    refine .loadUnder (hm.work.trans (Moves.closeSweep (A := Touch.all) trivial trivial true).work) (fun y => ?_) w.zone
    have h1 : (s.zone y).SamePlans ((s.stopSweep k w).zone y) := .of_underived (hh.zones y)
    refine h1.trans (Zone.SamePlans.trans ?_ (.of_underived (State.zone_closeSweep k w true _ y)))
    rw [State.zone_updZone]
    split
    · next e => rw [e]; exact ⟨rfl, rfl, rfl⟩
    · exact .refl _

end Sys2Proof.Machine


namespace Sys2Proof.Machine

theorem Work.sameAround {s t : State} (h : Work s t) : s.SameAround t :=
  ⟨h.classes_eq, h.holds_eq, h.lastHoldId_eq, h.inputs_eq, h.fire_eq, h.clock_eq, h.receiver_eq, h.transmitter_eq,
    h.rate_eq, h.pending_eq⟩

/-- A touch that leaves one zone, and writes one slot. -/
def Touch.butZone (z : ZoneNo) (k : SlotNo) : Touch := ⟨fun _ => True, (· ≠ z), (· = k)⟩

theorem Touch.not_zone_butZone {z : ZoneNo} {k : SlotNo} : ¬ (Touch.butZone z k).zone z := fun h => h rfl

/-- The offer of a slot after the zone's own sweep and marker are gone. -/
theorem Touch.offers_butZone {s : State} {z : ZoneNo} {k : SlotNo} (hk : s.slot k = none) (hm : (s.zone z).marker = none) :
    (Touch.butZone z k).Offers k s := by
  refine ⟨rfl, fun w hw => ?_, fun y hy => ?_, fun _ _ _ _ => trivial, fun _ _ => trivial⟩
  · rw [hk] at hw
    cases hw
  · rintro rfl
    rw [hm] at hy
    cases hy

theorem State.Cancelled.work {s c : State} {k : SlotNo} {w : Sweep} (h : s.Cancelled c k w) : Work s c := h.tended.moves.work

/-- After the cancel of a zone's only sweep and offers that leave the zone, it has none, and the cancel has been told. -/
theorem State.Cancelled.offered {s c t : State} {k : SlotNo} {w : Sweep} (h : s.Cancelled c k w) (hs : s.SweepLaw)
    (hw : s.slot k = some w) (ht : State.Tended (Touch.butZone w.zone k) c t) :
    ¬ t.HasSweep w.zone ∧ (t.zone w.zone).last = some w.direction ∧
    t.noticeSet.Tells s.clock.stamp .sweepDone (.zone w.zone) (.sweepDone w.direction w.origin true w.total w.counts) := by
  refine ⟨?_, ?_, ht.notices.tells Touch.not_zone_butZone ?_⟩
  · rintro ⟨j, hj⟩
    obtain ⟨v, hv, hvz⟩ := Option.map_eq_some_iff.mp hj
    rcases ht.moves.slot_zone hv with hne | ⟨v', hv', hzz⟩
    · exact hne hvz
    · by_cases hjk : j = k
      · rw [hjk, h.slot] at hv'
        cases hv'
      · rw [h.tended.slots j hjk] at hv'
        exact hjk (hs.1 j k v' hv' w hw (hzz.trans hvz))
  · exact (ht.moves.zone_outside Touch.not_zone_butZone).2.trans h.last
  · rw [h.notices]
    exact .raised _ _ _ _ _

/-- A state's slots are those of another but for one. -/
theorem State.slots_eq_set {s t : State} {k : SlotNo} {x : Option Sweep} (hk : t.slot k = x)
    (hj : ∀ j, j ≠ k → t.slot j = s.slot j) : t.slots = s.slots.set k.val x := by
  refine Vector.ext fun i hi => ?_
  rw [Vector.getElem_set]
  split
  · next h => subst h; exact hk
  · next h => exact hj ⟨i, hi⟩ fun e => h (congrArg Fin.val e).symm

theorem State.Cancelled.slots {s c : State} {k : SlotNo} {w : Sweep} (h : s.Cancelled c k w) :
    c.slots = s.slots.set k.val none := State.slots_eq_set h.slot fun j hj => h.tended.slots j hj

theorem State.trunk_cancelSweep {s : State} {k : SlotNo} {w : Sweep} (h : s.slot k = some w) (u : Trunk) :
    (s.cancelSweep k).trunk u = (s.stopSweep k w).trunk u := by
  rw [State.cancelSweep_eq h, State.trunk, State.trunks_loadUnder]
  rfl

theorem State.door_cancelSweep {s : State} {k : SlotNo} {w : Sweep} (h : s.slot k = some w) (d : DoorNo) :
    (s.cancelSweep k).door d = (s.stopSweep k w).door d := by
  rw [State.cancelSweep_eq h, State.door, State.doors_loadUnder]
  rfl

/-- The cancel of a warning gives each chime door that is not held its entry of 0 minutes (R77). -/
theorem State.warned_cancelSweep {s : State} {k : SlotNo} {w : Sweep} {c : Countdown} (h : s.slot k = some w)
    (hp : w.phase = .warning c) {d : DoorNo} (hd : s.IsDoorOf w.zone d) (hc : (s.door d).chime = true)
    (hh : s.held d = false) :
    ⟨d, (s.zone w.zone).chime, 0⟩ ∈ ((s.cancelSweep k).trunk (s.door d).trunk).warnList := by
  rw [State.trunk_cancelSweep h, State.stopSweep_warning hp]
  exact State.mem_placeWarns hd hc hh

theorem Sweep.warning_of_ends {w : Sweep} (h : w.warningEnds = true) : ∃ c, w.phase = .warning c := by
  unfold Sweep.warningEnds at h
  split at h
  · exact ⟨_, ‹_›⟩
  · cases h

/-- The sweep of a slot of a lawful state is ready to enter ACTIVE. -/
theorem State.ready_self {s : State} {k : SlotNo} {w : Sweep} (hs : s.SweepLaw) (hw : s.slot k = some w)
    (hb : w.direction = .lock → ¬ s.Barred w.zone) : s.Ready s k w where
  tables := rfl
  work := .refl s
  plans _ := .refl _
  slot := hw
  free := hb
  marker := hs.2 k w hw
  others j v hj hv he := hj (hs.1 j k v hv w hw he)

theorem exec_warningEnd (s : State) (k : SlotNo) : exec (.warningEnd k) s = .next (s.endWarning k) := rfl

/-- The end of a warning in a fire-barred zone cancels its sweep and offers the slot (R64, R77, R79). -/
theorem State.endWarning_barred {s : State} {k : SlotNo} {w : Sweep} (hw : s.slot k = some w)
    (he : w.warningEnds = true) (hb : s.Barred w.zone) : s.endWarning k = (s.cancelSweep k).offer k := by
  unfold State.endWarning
  rw [hw]
  dsimp only
  rw [if_pos he, if_pos (State.fireBarred_iff.mpr hb)]

theorem State.endWarning_active {s : State} {k : SlotNo} {w : Sweep} (hw : s.slot k = some w)
    (he : w.warningEnds = true) (hb : ¬ s.Barred w.zone) : s.endWarning k = (s.enterActive k).finishIfDone k := by
  unfold State.endWarning
  rw [hw]
  dsimp only
  rw [if_pos he, if_neg (State.fireBarred_iff.not.mpr hb)]

/-- Settles O31: the walk of the zone, or the cancel with the offer of its slot. -/
theorem warningEndEntersActiveOrCancels : Obligations.WarningEndEntersActiveOrCancels := by
  intro s k hs
  refine ⟨s.endWarning k, exec_warningEnd s k, ?_⟩
  cases hw : s.slot k with
  | none =>
    unfold State.endWarning
    rw [hw]
  | some w =>
    cases he : w.warningEnds with
    | false =>
      unfold State.endWarning
      rw [hw]
      dsimp only
      rw [he]
      rfl
    | true =>
      dsimp only
      rw [if_neg (by rw [he]; decide)]
      by_cases hb : s.Barred w.zone
      · obtain ⟨c, hc⟩ := Sweep.warning_of_ends he
        have hcan := State.cancelled hw
        have hmark : ((s.cancelSweep k).zone w.zone).marker = none := (hcan.markers _).trans (hs.2 k w hw)
        have hoff := State.Tended.offer (Touch.offers_butZone hcan.slot hmark)
        rw [if_pos hb, State.endWarning_barred hw he hb]
        obtain ⟨hfree, hlast, htell⟩ := hcan.offered hs hw hoff
        refine ⟨(hcan.work.trans hoff.moves.work).sameAround, hfree, hlast, htell, fun hm => ?_⟩
        rw [State.offer_unmarked fun y => (hcan.markers y).trans (hm y)]
        exact ⟨hcan.slots, hcan.loaded, fun d hd hch hh => State.warned_cancelSweep hw hc hd hch hh⟩
      · have hr := State.ready_self hs hw fun _ => hb
        have hoff : State.Tended (Touch.inSlot k) (s.enterActive k) ((s.enterActive k).finishIfDone k) :=
          .finishIfDone (Touch.offers_inSlot k _)
        rw [if_neg hb, State.endWarning_active hw he hb]
        exact ⟨(hr.work_active.trans hoff.moves.work).sameAround, hr.walkedTo⟩

end Sys2Proof.Machine


namespace Sys2Proof.Machine

/-! ### The zone that takes an offered slot (R59) -/

theorem State.waitingOrder_pairwise (s : State) :
    (s.zonesInRankOrder s.waitingZones).Pairwise (Before fun z => (s.zone z).rank) :=
  pairwise_sortByKey _ ((finRange_pairwise 32).filter _)

theorem State.waitingOrder_perm (s : State) : (s.zonesInRankOrder s.waitingZones).Perm s.waitingZones := sortByKey_perm _ _

theorem Before.asymm {n : Nat} {key : Fin n → Nat} {a b : Fin n} (h : Before key a b) (g : Before key b a) : a = b := by
  rcases h with h | ⟨h, h'⟩ <;> rcases g with g | ⟨g, g'⟩ <;> omega

/-- Two orders by rank of the same zones are one. -/
theorem eq_of_before {n : Nat} {key : Fin n → Nat} {l m : List (Fin n)} (hl : l.Pairwise (Before key))
    (hm : m.Pairwise (Before key)) (h : l.Perm m) : l = m :=
  h.eq_of_pairwise (fun _ _ _ _ => Before.asymm) hl hm

/-- The first of the waiting zones is the one of the lowest rank and number. -/
theorem State.waitingOrder_eq {s : State} {z : ZoneNo} {m : Marker} (hz : (s.zone z).marker = some m)
    (hmin : ∀ y, (s.zone y).marker ≠ none → (s.zone z).rank < (s.zone y).rank ∨ ((s.zone z).rank = (s.zone y).rank ∧ z ≤ y)) :
    s.zonesInRankOrder s.waitingZones = z :: (s.updZone z (fun x => { x with marker := none })).zonesInRankOrder
      (s.updZone z (fun x => { x with marker := none })).waitingZones := by
  let q := s.updZone z (fun x => { x with marker := none })
  have hrank : (fun y => (q.zone y).rank) = fun y => (s.zone y).rank := funext fun y => by
    show ((s.updZone z _).zone y).rank = _
    rw [State.zone_updZone]
    split
    · next h => rw [h]
    · rfl
  have hwait : ∀ y, y ∈ q.waitingZones ↔ y ∈ s.waitingZones ∧ y ≠ z := fun y => by
    rw [State.mem_waitingZones, State.mem_waitingZones]
    show ((s.updZone z _).zone y).marker.isSome = true ↔ _
    rw [State.zone_updZone]
    by_cases h : y = z
    · subst h; simp
    · simp [h]
  have hnd : ∀ s : State, s.waitingZones.Nodup := fun s => (List.nodup_finRange 32).filter _
  have hperm : (s.zonesInRankOrder s.waitingZones).Perm (z :: q.zonesInRankOrder q.waitingZones) := by
    refine s.waitingOrder_perm.trans (List.Perm.trans ?_ (q.waitingOrder_perm.symm.cons z))
    refine (List.perm_ext_iff_of_nodup (hnd s) (List.nodup_cons.mpr ⟨fun h => ((hwait z).mp h).2 rfl, hnd q⟩)).mpr fun y => ?_
    rw [List.mem_cons, hwait]
    by_cases h : y = z
    · subst h; simp [hz]
    · simp [h]
  refine eq_of_before s.waitingOrder_pairwise (List.pairwise_cons.mpr ⟨fun y hy => ?_, ?_⟩) hperm
  · obtain ⟨hy, hne⟩ := (hwait y).mp (q.waitingOrder_perm.mem_iff.mp hy)
    have hy : (s.zone y).marker ≠ none := Option.isSome_iff_ne_none.mp (State.mem_waitingZones.mp hy)
    rcases hmin y hy with h | ⟨h, hle⟩
    · exact .inl h
    · exact .inr ⟨h, lt_of_le_of_ne hle (Ne.symm hne)⟩
  · have := q.waitingOrder_pairwise
    rw [hrank] at this
    exact this

section
variable {s : State} {z : ZoneNo} {m : Marker}

theorem State.takeWaiting_drop (hz : (s.zone z).marker = some m) (hb : m.direction = .lock ∧ s.Barred z) (l : List ZoneNo) :
    State.takeWaiting (z :: l) s = State.takeWaiting l (s.updZone z (fun x => { x with marker := none })) := by
  unfold State.takeWaiting
  rw [hz]
  dsimp only
  rw [if_pos ⟨hb.1, State.fireBarred_iff.mpr hb.2⟩]
  cases l <;> rfl

theorem State.takeWaiting_take (hz : (s.zone z).marker = some m) (hb : ¬ (m.direction = .lock ∧ s.Barred z)) (l : List ZoneNo) :
    State.takeWaiting (z :: l) s = (s, some (z, m)) := by
  unfold State.takeWaiting
  rw [hz]
  dsimp only
  rw [if_neg fun h => hb ⟨h.1, State.fireBarred_iff.mp h.2⟩]

theorem State.offer_free {k : SlotNo} (h : s.slot k = none) : s.offer k = State.offerLoop 33 k s :=
  if_neg (by rw [h]; decide)

/-- The marker of a fire-barred zone is dropped, and the next zone is taken. -/
theorem State.offer_drop {k : SlotNo} (hk : s.slot k = none) (hz : (s.zone z).marker = some m)
    (hmin : ∀ y, (s.zone y).marker ≠ none → (s.zone z).rank < (s.zone y).rank ∨ ((s.zone z).rank = (s.zone y).rank ∧ z ≤ y))
    (hb : m.direction = .lock ∧ s.Barred z) :
    s.offer k = (s.updZone z (fun x => { x with marker := none })).offer k := by
  rw [State.offer_free hk, State.offer_free (s := s.updZone z _) hk]
  unfold State.offerLoop
  rw [State.waitingOrder_eq hz hmin, State.takeWaiting_drop hz hb]

/-- The state in which a waiting zone has taken the slot. -/
theorem State.offer_take {k : SlotNo} (hk : s.slot k = none) (hz : (s.zone z).marker = some m)
    (hmin : ∀ y, (s.zone y).marker ≠ none → (s.zone z).rank < (s.zone y).rank ∨ ((s.zone z).rank = (s.zone y).rank ∧ z ≤ y))
    (hb : ¬ (m.direction = .lock ∧ s.Barred z)) : s.offer k =
      if (s.startIn k z m.direction m.origin).isFinished k then
        match (s.startIn k z m.direction m.origin).slot k with
        | none => s.startIn k z m.direction m.origin
        | some w => State.loadUnder .afterSweep w.zone
            (State.offerLoop 32 k ((s.startIn k z m.direction m.origin).closed k w))
      else s.startIn k z m.direction m.origin := by
  rw [State.offer_free hk]
  conv_lhs => unfold State.offerLoop
  rw [State.waitingOrder_eq hz hmin, State.takeWaiting_take hz hb]
  rfl

end

end Sys2Proof.Machine


namespace Sys2Proof.Machine

/-! ### The start of a sweep in a slot (R62) -/

/-- The slot holds the zone's sweep, and its marker is gone (R56). -/
def State.taken (k : SlotNo) (w : Sweep) (s : State) : State :=
  (s.updZone w.zone (fun x => { x with marker := none })).setSlot k (some w)

theorem State.taken_eq (k : SlotNo) (w : Sweep) (s : State) :
    s.taken k w = (s.updZone w.zone (fun x => { x with marker := none })).setSlot k (some w) := rfl

theorem State.slot_taken (k j : SlotNo) (w : Sweep) (s : State) : (s.taken k w).slot j = if j = k then some w else s.slot j :=
  State.slot_setSlot _ _ _ _

theorem State.zone_taken (k : SlotNo) (w : Sweep) (s : State) (y : ZoneNo) :
    (s.taken k w).zone y = if y = w.zone then { s.zone w.zone with marker := none } else s.zone y :=
  State.zone_updZone s w.zone y (fun x => { x with marker := none })

theorem State.work_taken (k : SlotNo) (w : Sweep) (s : State) : Work s (s.taken k w) :=
  (Moves.zone (A := Touch.all) trivial (by intros; rfl)).work.trans (.setSlot k _)

theorem State.isWarned_iff (s : State) (z : ZoneNo) (dir : Direction) (o : Origin) :
    s.isWarned z dir o = true ↔ dir = .lock ∧ (s.zone z).lead ≠ 0 ∧ o ≠ .trailing ∧ o ≠ .restore := by
  simp [State.isWarned, and_assoc]

theorem State.isWarned_dropMarker (s : State) (z : ZoneNo) (dir : Direction) (o : Origin) :
    (s.updZone z (fun x => { x with marker := none })).isWarned z dir o = s.isWarned z dir o := by
  simp [State.isWarned]

theorem State.startIn_active {s : State} {z : ZoneNo} {dir : Direction} {o : Origin} (h : s.isWarned z dir o = false)
    (k : SlotNo) : s.startIn k z dir o =
      State.enterActive k ((s.taken k ⟨z, dir, o, .active, 0, Counts.zero⟩).rederive z) := by
  unfold State.startIn
  dsimp only
  rw [State.isWarned_dropMarker, h]
  rfl

theorem State.startIn_warned {s : State} {z : ZoneNo} {dir : Direction} {o : Origin} (h : s.isWarned z dir o = true)
    (k : SlotNo) : s.startIn k z dir o =
      State.rederive z (State.placeWarns z (s.zone z).lead
        (s.taken k ⟨z, dir, o, .warning ⟨(s.zone z).lead, false⟩, 0, Counts.zero⟩)) := by
  have hlead : ((s.updZone z (fun x => { x with marker := none })).zone z).lead = (s.zone z).lead := by
    rw [State.zone_updZone, if_pos rfl]
  unfold State.startIn
  dsimp only
  rw [State.isWarned_dropMarker, h, hlead]
  rfl

/-- A sweep that starts without a warning is ready to enter ACTIVE. -/
theorem State.ready_taken {s : State} {k : SlotNo} {w : Sweep} (ho : ∀ j v, j ≠ k → s.slot j = some v → v.zone ≠ w.zone)
    (hb : w.direction = .lock → ¬ s.Barred w.zone) : s.Ready ((s.taken k w).rederive w.zone) k w where
  tables := rfl
  work := (s.work_taken k w).trans (.rederive _)
  plans y := by
    refine Zone.SamePlans.trans ?_ (.of_underived ((State.HandsTo.rederive (K := fun _ => False) w.zone).zones y))
    rw [State.zone_taken]
    split
    · next h => rw [h]; exact ⟨rfl, rfl, rfl⟩
    · exact .refl _
  slot := by rw [State.slot_rederive, State.slot_taken, if_pos rfl]
  free := hb
  marker := by rw [State.zone_rederive, State.zone_taken, if_pos rfl]
  others j v hj hv := by
    rw [State.slot_rederive, State.slot_taken, if_neg hj] at hv
    exact ho j v hj hv

/-- A sweep that starts without a warning: its walk, and its finish if no door is pending (R56, R62, R65, R73). -/
theorem State.walkedTo_startSweep {s : State} {k : SlotNo} {z : ZoneNo} {dir : Direction} {o : Origin}
    (hw : s.isWarned z dir o = false) (ho : ∀ j v, j ≠ k → s.slot j = some v → v.zone ≠ z)
    (hb : dir = .lock → ¬ s.Barred z) : s.WalkedTo (s.startSweep k z dir o) z dir o k := by
  have hr : s.Ready ((s.taken k ⟨z, dir, o, .active, 0, Counts.zero⟩).rederive z) k ⟨z, dir, o, .active, 0, Counts.zero⟩ :=
    State.ready_taken ho hb
  have ht : s.startSweep k z dir o = (s.startIn k z dir o).finishIfDone k := rfl
  rw [ht, State.startIn_active hw]
  exact hr.walkedTo

/-! ### The start with a warning (R62, R63) -/

/-- A state with other trunks. -/
def State.setTrunks (s : State) (v : Vector TrunkState 4) : State := { s with trunks := v }

theorem State.setTrunks_self (s : State) : s.setTrunks s.trunks = s := rfl

/-- Warn entries are all that is written of the trunks, and nothing else is. -/
theorem State.placeWarns_rest (z : ZoneNo) (m : Nat) (s : State) :
    s.placeWarns z m = { s with trunks := (s.placeWarns z m).trunks } := by
  have h : (s.placeWarns z m).setTrunks = s.setTrunks :=
    forEach_same (g := State.setTrunks) (f := State.placeWarn m) _ (fun _ _ => rfl) s
  exact (State.setTrunks_self _).symm.trans (congrFun h _)

theorem State.trunk_placeWarns (z : ZoneNo) (m : Nat) (s : State) (u : Trunk) :
    (s.placeWarns z m).trunk u = { s.trunk u with warnList := ((s.placeWarns z m).trunk u).warnList } := by
  have h : (fun v => ({ (s.placeWarns z m).trunk u with warnList := v } : TrunkState)) =
      fun v => { s.trunk u with warnList := v } := by
    refine forEach_same (g := fun (s : State) v => ({ s.trunk u with warnList := v } : TrunkState))
      (f := State.placeWarn m) _ (fun d s => ?_) s
    funext v
    rw [State.placeWarn, State.trunk_updTrunk]
    split
    · next e => rw [e]
    · rfl
  exact congrFun h ((s.placeWarns z m).trunk u).warnList

/-- The one sweep of a zone is the one found. -/
theorem State.sweepOf_of_only {s : State} {k : SlotNo} {w : Sweep} (hw : s.slot k = some w)
    (ho : ∀ j v, j ≠ k → s.slot j = some v → v.zone ≠ w.zone) : s.sweepOf w.zone = some (k, w) := by
  obtain ⟨⟨j, v⟩, hf⟩ : ∃ e, s.sweepOf w.zone = some e :=
    Option.isSome_iff_exists.mp (List.find?_isSome.mpr ⟨_, State.mem_sweeps.mpr hw, beq_self_eq_true _⟩)
  have hv : s.slot j = some v := State.mem_sweeps.mp (List.mem_of_find?_eq_some hf)
  have hz : v.zone = w.zone := by simpa using List.find?_some hf
  by_cases hj : j = k
  · subst hj
    rw [hf, Option.some.inj (hv.symm.trans hw)]
  · exact absurd hz (ho j v hj hv)

theorem State.zones_rederive (z : ZoneNo) (s : State) :
    (s.rederive z).zones = s.zones.set z.val { s.zone z with state := s.deriveZone z } := rfl

/-- What the start of a warned sweep writes. -/
theorem State.startIn_warned_rest {s : State} {k : SlotNo} {z : ZoneNo} {o : Origin} (h : s.isWarned z .lock o = true)
    (ho : ∀ j v, j ≠ k → s.slot j = some v → v.zone ≠ z) (hb : ¬ s.Barred z) : s.startIn k z .lock o =
      { s with
        slots := s.slots.set k.val (some ⟨z, .lock, o, .warning ⟨(s.zone z).lead, false⟩, 0, Counts.zero⟩)
        zones := s.zones.set z.val { s.zone z with marker := none, state := .warning }
        trunks := (s.startIn k z .lock o).trunks } := by
  let w : Sweep := ⟨z, .lock, o, .warning ⟨(s.zone z).lead, false⟩, 0, Counts.zero⟩
  have hst : s.startIn k z .lock o = State.rederive z (State.placeWarns z (s.zone z).lead (s.taken k w)) :=
    State.startIn_warned h k
  have hrest := State.placeWarns_rest z (s.zone z).lead (s.taken k w)
  generalize (s.taken k w).placeWarns z (s.zone z).lead = p at hst hrest
  have hd : p.deriveZone z = .warning := by
    have hk : p.slot k = some w := by
      rw [hrest]
      exact (State.slot_taken k k w s).trans (if_pos rfl)
    have hother : ∀ j v, j ≠ k → p.slot j = some v → v.zone ≠ w.zone := fun j v hj hv => by
      rw [hrest] at hv
      exact ho j v hj (((State.slot_taken k j w s).trans (if_neg hj)).symm.trans hv)
    have hbar : ¬ p.fireBarred z = true := by
      rw [hrest]
      exact State.fireBarred_iff.not.mpr hb
    rw [State.deriveZone, if_neg hbar, show p.sweepOf z = some (k, w) from State.sweepOf_of_only hk hother]
    rfl
  have hz : p.zone z = { s.zone z with marker := none } := by
    rw [hrest]
    exact (State.zone_taken k w s z).trans (if_pos rfl)
  have hzones : (p.rederive z).zones = s.zones.set z.val { s.zone z with marker := none, state := .warning } := by
    rw [State.zones_rederive, hd, hz, hrest]
    exact Vector.set_set _ _
  rw [hst]
  have hfinal : p.rederive z = { p with zones := (p.rederive z).zones } := rfl
  rw [hfinal, hzones, hrest]
  rfl

end Sys2Proof.Machine


namespace Sys2Proof.Machine

theorem State.startIn_warned_trunk {s : State} {k : SlotNo} {z : ZoneNo} {dir : Direction} {o : Origin}
    (h : s.isWarned z dir o = true) (u : Trunk) : (s.startIn k z dir o).trunk u =
      { s.trunk u with warnList := ((s.startIn k z dir o).trunk u).warnList } := by
  rw [State.startIn_warned h, State.trunk_rederive]
  exact State.trunk_placeWarns z _ _ u

theorem State.startIn_warned_mem {s : State} {k : SlotNo} {z : ZoneNo} {dir : Direction} {o : Origin}
    (h : s.isWarned z dir o = true) {d : DoorNo} (hd : s.IsDoorOf z d) (hc : (s.door d).chime = true)
    (hh : s.held d = false) :
    ⟨d, (s.zone z).chime, (s.zone z).lead⟩ ∈ ((s.startIn k z dir o).trunk (s.door d).trunk).warnList := by
  let w : Sweep := ⟨z, dir, o, .warning ⟨(s.zone z).lead, false⟩, 0, Counts.zero⟩
  have hw := s.work_taken k w
  have := State.mem_placeWarns (s := s.taken k w) (m := (s.zone z).lead) ((hw.isDoorOf z d).mpr hd)
    ((hw.chime_eq d).trans hc) ((hw.held_eq d).trans hh)
  rw [hw.zoneChime_eq, hw.doorTrunk_eq] at this
  rw [State.startIn_warned h, State.trunk_rederive]
  exact this

/-- A sweep that has just begun its warning is not finished. -/
theorem State.isFinished_warning {s : State} {k : SlotNo} {w : Sweep} {c : Countdown} (h : s.slot k = some w)
    (hp : w.phase = .warning c) : s.isFinished k = false := by
  unfold State.isFinished
  rw [h]
  show (w.phase == .active && _) = false
  rw [hp]
  rfl

theorem State.slot_startIn_warned {s : State} {k : SlotNo} {z : ZoneNo} {dir : Direction} {o : Origin}
    (h : s.isWarned z dir o = true) : (s.startIn k z dir o).slot k =
      some ⟨z, dir, o, .warning ⟨(s.zone z).lead, false⟩, 0, Counts.zero⟩ := by
  have hh : (s.taken k ⟨z, dir, o, .warning ⟨(s.zone z).lead, false⟩, 0, Counts.zero⟩).HandsTo (fun _ => False)
      (s.startIn k z dir o) := by
    rw [State.startIn_warned h]
    exact (State.HandsTo.placeWarns z _).trans (.rederive z)
  rw [hh.slots k id, State.slot_taken, if_pos rfl]

theorem State.Ready.marker_active {s q : State} {k : SlotNo} {w : Sweep} (h : s.Ready q k w) :
    ((q.enterActive k).zone w.zone).marker = none := by
  have hh : q.HandsTo (· = k) (q.enterActive k) := .enterActive rfl
  have := congrArg Zone.marker (hh.zones w.zone)
  exact Eq.trans this h.marker

/-- What follows the entry into ACTIVE when the slot is offered again at a finish, by a loop of any fuel (R59, R73). -/
theorem State.Ready.walkedTo_loop {s q : State} {k : SlotNo} {w : Sweep} (h : s.Ready q k w) (n : Nat) {t : State}
    (ht : t = if (q.enterActive k).isFinished k then
        match (q.enterActive k).slot k with
        | none => q.enterActive k
        | some v => State.loadUnder .afterSweep v.zone (State.offerLoop n k ((q.enterActive k).closed k v))
      else q.enterActive k) :
    s.WalkedTo t w.zone w.direction w.origin k ∧ (t.zone w.zone).marker = none := by
  by_cases hp : (s.walkCounts w.zone w.direction).pending = 0
  · rw [h.isFinished, decide_eq_true hp, if_pos rfl, h.slot_active] at ht
    have hoff := h.offers h.slot_active
    have hT := (State.Tended.offerLoop n hoff).trans (.loadUnder w.zone)
    rw [ht]
    refine ⟨h.finished hp h.slot_active hT, (hT.moves.zone_outside Touch.not_zone_besides).1.trans ?_⟩
    rw [State.closed_eq, State.marker_closeSweep]
    exact h.marker_active
  · rw [h.isFinished, decide_eq_false hp] at ht
    rw [ht]
    exact ⟨h.going hp, h.marker_active⟩

/-- The start of the waiting zone that takes the slot, with a warning (R62, R63). -/
theorem State.offer_warned {s : State} {k : SlotNo} {z : ZoneNo} {m : Marker}
    (hk : s.slot k = none) (hz : (s.zone z).marker = some m)
    (hmin : ∀ y, (s.zone y).marker ≠ none → (s.zone z).rank < (s.zone y).rank ∨ ((s.zone z).rank = (s.zone y).rank ∧ z ≤ y))
    (hb : ¬ (m.direction = .lock ∧ s.Barred z)) (hw : s.isWarned z m.direction m.origin = true) :
    s.offer k = s.startIn k z m.direction m.origin := by
  rw [State.offer_take hk hz hmin hb, State.isFinished_warning (State.slot_startIn_warned hw) rfl]
  rfl

/-- O29, the offer of a slot: no zone waits, a marker is dropped, or the first zone takes the slot (R59, R62). -/
theorem State.offer_spec (s : State) (k : SlotNo) (hk : s.slot k = none) :
    ((∀ z, (s.zone z).marker = none) → s.offer k = s) ∧
    ∀ (z : ZoneNo) (m : Marker), (s.zone z).marker = some m →
      (∀ y, (s.zone y).marker ≠ none → (s.zone z).rank < (s.zone y).rank ∨ ((s.zone z).rank = (s.zone y).rank ∧ z ≤ y)) →
      let t := s.offer k
      if m.direction = .lock ∧ s.Barred z then t = (s.setZone z { s.zone z with marker := none }).offer k
      else ¬ s.HasSweep z →
        (t.zone z).marker = none ∧
        if m.direction = .lock ∧ (s.zone z).lead ≠ 0 ∧ m.origin ≠ .trailing ∧ m.origin ≠ .restore then
          t.slots = s.slots.set k.val (some ⟨z, .lock, m.origin, .warning ⟨(s.zone z).lead, false⟩, 0,
            ⟨0, 0, 0, 0, 0, 0⟩⟩) ∧
          (t.zone z).state = (if s.Barred z then .fire else .warning) ∧ t.doors = s.doors ∧
          (∀ y, y ≠ z → t.zone y = s.zone y) ∧
          ∀ d, s.IsDoorOf z d → (s.door d).chime = true → s.held d = false →
            ⟨d, (s.zone z).chime, (s.zone z).lead⟩ ∈ (t.trunk (s.door d).trunk).warnList
        else s.WalkedTo t z m.direction m.origin k := by
  refine ⟨fun h => State.offer_unmarked h k, fun z m hz hmin => ?_⟩
  dsimp only
  by_cases hb : m.direction = .lock ∧ s.Barred z
  · rw [if_pos hb]
    exact State.offer_drop hk hz hmin hb
  rw [if_neg hb]
  intro hfree
  have ho : ∀ j v, j ≠ k → s.slot j = some v → v.zone ≠ z := fun j v _ hv hvz => hfree ⟨j, by rw [hv, ← hvz]; rfl⟩
  by_cases hw : s.isWarned z m.direction m.origin = true
  · have hcond := (State.isWarned_iff s z m.direction m.origin).mp hw
    rw [State.offer_warned hk hz hmin hb hw, if_pos hcond]
    have hnb : ¬ s.Barred z := fun h => hb ⟨hcond.1, h⟩
    have hmem := fun d (hd : s.IsDoorOf z d) => State.startIn_warned_mem (k := k) hw hd
    rw [hcond.1] at hw hmem ⊢
    have hrest := State.startIn_warned_rest hw ho hnb
    have hzone : ∀ y, (s.startIn k z .lock m.origin).zone y =
        if y = z then { s.zone z with marker := none, state := .warning } else s.zone y := fun y => by
      rw [hrest]
      exact State.zone_setZone s z y _
    refine ⟨by rw [hzone, if_pos rfl], by rw [hrest]; rfl, ?_, by rw [hrest], fun y hy => by rw [hzone, if_neg hy], hmem⟩
    rw [hzone, if_pos rfl, if_neg hnb]
  · have hw : s.isWarned z m.direction m.origin = false := Bool.not_eq_true _ ▸ hw
    have hcond : ¬ (m.direction = .lock ∧ (s.zone z).lead ≠ 0 ∧ m.origin ≠ .trailing ∧ m.origin ≠ .restore) := fun h => by
      rw [← State.isWarned_iff, hw] at h
      cases h
    have hr : s.Ready ((s.taken k ⟨z, m.direction, m.origin, .active, 0, Counts.zero⟩).rederive z) k
        ⟨z, m.direction, m.origin, .active, 0, Counts.zero⟩ := State.ready_taken ho fun h g => hb ⟨h, g⟩
    have ht := State.offer_take hk hz hmin hb
    rw [State.startIn_active hw] at ht
    obtain ⟨hwalk, hmark⟩ := hr.walkedTo_loop 32 ht
    rw [if_neg hcond]
    exact ⟨hmark, hwalk⟩

end Sys2Proof.Machine


namespace Sys2Proof.Machine

/-! ### A drive of a pending door that succeeds (R68, R69, R73, R74, R93) -/

/-- A change of state that a table names moves the door's count (R68, R69). -/
theorem State.changeState_counts {s : State} {d : DoorNo} {st : DoorState} {k : SlotNo} {c c' : Count} {w : Sweep}
    (hs : (s.door d).state ≠ st) (hl : (s.door d).sweep = some ⟨k, c⟩) (hw : s.slot k = some w)
    (hc : countAfterState w.direction c st = some c') : s.changeState d st =
      ((s.updDoor d (Door.enter st)).moveCount d c').rederive (s.door d).zone := by
  have hlink : (s.updDoor d (Door.enter st)).linkedSweep d = some (⟨k, c⟩, w) := by
    have h : ((s.updDoor d (Door.enter st)).door d).sweep = some ⟨k, c⟩ := by
      rw [State.door_updDoor, if_pos rfl]
      exact hl
    unfold State.linkedSweep
    rw [h]
    show (s.slot k).map _ = _
    rw [hw]
    rfl
  rw [State.changeState_eq, if_neg hs, State.setState, if_neg hs, State.handOffCount, hlink]
  show State.rederive _ (match countAfterState w.direction c st with | none => _ | some new => _) = _
  rw [hc]

/-- The part of an actuation's successful end before the sweep and the arbiter see it (R93). -/
def State.driveSucceeded (d : DoorNo) (dir : Direction) (s : State) : State :=
  ((s.dropRecord d).updDoor d (fun x => { x with attempts := 0 })).changeState d dir.goal

/-- The counts of a sweep after a pending door is done. -/
def Counts.oneDone (c : Counts) : Counts := { c with pending := c.pending - 1, done := c.done + 1 }

/-- The door's record is in DRIVING toward its intent, and its sweep counts it pending. -/
structure State.Succeeds (s : State) (d : DoorNo) (dir : Direction) (k : SlotNo) (w : Sweep) : Prop where
  state : (s.door d).state = .acting
  link : (s.door d).sweep = some ⟨k, .pending⟩
  slot : s.slot k = some w
  direction : w.direction = dir

namespace State.Succeeds

variable {s : State} {d : DoorNo} {dir : Direction} {k : SlotNo} {w : Sweep}

theorem eq (h : s.Succeeds d dir k w) : s.driveSucceeded d dir =
    ((((s.dropRecord d).updDoor d (fun x => { x with attempts := 0 })).updDoor d (Door.enter dir.goal)).moveCount d
      .done).rederive (((s.dropRecord d).updDoor d (fun x => { x with attempts := 0 })).door d).zone := by
  obtain ⟨hst, hl, hw, hd⟩ := h
  have hx : ((s.dropRecord d).updDoor d (fun x => { x with attempts := 0 })).door d = { s.door d with attempts := 0 } := by
    rw [State.door_updDoor, if_pos rfl]
    rfl
  refine State.changeState_counts (k := k) (c := .pending) (w := w) ?_ ?_ hw ?_
  · rw [hx]
    show (s.door d).state ≠ _
    rw [hst]
    cases dir <;> decide
  · rw [hx]
    exact hl
  · rw [hd]
    cases dir <;> rfl

theorem door (h : s.Succeeds d dir k w) (e : DoorNo) : (s.driveSucceeded d dir).door e =
    if e = d then { Door.enter dir.goal { s.door d with attempts := 0 } with sweep := some ⟨k, .done⟩ } else s.door e := by
  rw [h.eq, State.door_rederive, State.door_moveCount]
  simp only [State.door_updDoor, if_true]
  split
  · have hl : (Door.enter dir.goal { (s.dropRecord d).door d with attempts := 0 }).sweep = some ⟨k, .pending⟩ := h.link
    rw [hl]
    rfl
  · rfl

theorem slots (h : s.Succeeds d dir k w) :
    (s.driveSucceeded d dir).slots = s.slots.set k.val (some { w with counts := w.counts.oneDone }) := by
  have hl : ∀ p : State, (p.updDoor d (Door.enter dir.goal)).door d = Door.enter dir.goal (p.door d) := fun p => by
    rw [State.door_updDoor, if_pos rfl]
  have hx : ((s.dropRecord d).updDoor d (fun x => { x with attempts := 0 })).door d = { s.door d with attempts := 0 } := by
    rw [State.door_updDoor, if_pos rfl]
    rfl
  have hs : ((((s.dropRecord d).updDoor d (fun x => { x with attempts := 0 })).updDoor d (Door.enter dir.goal)).door d).sweep
      = some ⟨k, .pending⟩ := by
    rw [hl, hx]
    exact h.link
  refine State.slots_eq_set ?_ fun j hj => ?_
  · rw [h.eq, State.slot_rederive, State.slot_moveCount, hs]
    show (if k = k then (s.slot k).map _ else _) = _
    rw [if_pos rfl, h.slot]
    rfl
  · rw [h.eq, State.slot_rederive, State.slot_moveCount, hs]
    exact if_neg hj

theorem handsTo (h : s.Succeeds d dir k w) : s.HandsTo (· = k) (s.driveSucceeded d dir) := by
  have h0 : s.HandsTo (· = k) (s.dropRecord d) := .updTrunk _ _
  refine (h0.trans (.updDoor d _)).trans (.changeState (fun l hl => ?_) _)
  rw [State.door_updDoor, if_pos rfl] at hl
  have : some l = some ⟨k, .pending⟩ := Eq.trans hl.symm h.link
  cases this
  rfl

end State.Succeeds

end Sys2Proof.Machine


namespace Sys2Proof.Machine

/-- What follows a pending door of a sweep that is counted done: the sweep goes on, or finishes with no zone waiting for its
slot (R73, R74). -/
def State.CountedDone (s t : State) (d : DoorNo) (k : SlotNo) (w : Sweep) : Prop :=
  if w.counts.pending = 1 then
    t.slots = s.slots.set k.val none ∧ (t.zone w.zone).last = some w.direction ∧
    (∀ e, if (s.door e).sweep.map SweepLink.slot = some k then (t.door e).sweep = none ∧
        (t.door e).unreached = decide ((s.door e).sweep = some ⟨k, .unreachable⟩)
      else (t.door e).sweep = (s.door e).sweep ∧ (t.door e).unreached = (s.door e).unreached) ∧
    t.noticeSet = s.noticeSet.raise s.clock.stamp .sweepDone (.zone w.zone)
      (.sweepDone w.direction w.origin false w.total w.counts.oneDone) ∧
    s.LoadedAfter t (fun y => y = w.zone)
  else
    t.slots = s.slots.set k.val (some { w with counts := w.counts.oneDone }) ∧ (t.door d).sweep = some ⟨k, .done⟩ ∧
    t.noticeSet = s.noticeSet ∧ s.LoadedAfter t (fun _ => False)

theorem State.endDrive_success {s : State} {r : Record} (h : r.direction.intent = (s.door r.door).intent) :
    s.endDrive r .success = ((s.driveSucceeded r.door r.direction).finishOf r.door).considerDoor r.door := by
  unfold State.endDrive
  dsimp only
  rw [if_pos (show r.direction.intent = ((s.dropRecord r.door).door r.door).intent from h)]
  rfl

/-- A door not linked to the slot stands through a finish. -/
theorem Door.leaveSweep_other {x : Door} {k : SlotNo} (h : x.sweep.map SweepLink.slot ≠ some k) : Door.leaveSweep k x = x := by
  refine if_neg fun hl => h ?_
  unfold Door.linkedTo at hl
  cases hs : x.sweep with
  | none => rw [hs] at hl; cases hl
  | some l =>
    rw [hs] at hl
    exact congrArg some (eq_of_beq hl)

/-- A finish of a slot with no zone waiting for it. -/
theorem State.finish_unmarked {s : State} {k : SlotNo} {w : Sweep} (h : s.slot k = some w)
    (hm : ∀ y, (s.zone y).marker = none) : s.finish k = State.loadUnder .afterSweep w.zone (s.closed k w) := by
  rw [State.finish_eq h, State.offer_unmarked fun y => ?_]
  rw [State.closed_eq, State.marker_closeSweep]
  exact hm y

theorem State.LoadedAfter.then {s t t' : State} {E : ZoneNo → Prop} (h : s.LoadedAfter t E)
    (hp : ∀ y, (t.zone y).SamePlans (t'.zone y)) : s.LoadedAfter t' E := fun y => by
  obtain ⟨hs, hl, hpend⟩ := hp y
  obtain ⟨h1, h2, h3⟩ := h y
  refine ⟨hs.trans h1, fun hy => ?_, fun hy => ?_⟩
  · rw [hl, hpend]; exact h2 hy
  · rw [hl, hpend]; exact h3 hy

theorem State.SamePlans.closed (k : SlotNo) (w : Sweep) (s : State) (y : ZoneNo) :
    (s.zone y).SamePlans ((s.closed k w).zone y) := by
  refine Zone.SamePlans.trans ?_ (.of_underived (State.zone_closeSweep k w false (s.leaveDoors k) y))
  rw [State.zone_updZone]
  split
  · next e => rw [e]; exact ⟨rfl, rfl, rfl⟩
  · exact ⟨rfl, rfl, rfl⟩

theorem Direction.goal_plain (dir : Direction) : dir.goal.plain = true := by cases dir <;> rfl

theorem State.slots_congr {s t : State} (h : ∀ j, t.slot j = s.slot j) : t.slots = s.slots :=
  Vector.ext fun i hi => h ⟨i, hi⟩

theorem State.door_loadClosed (r : LoadRule) (z : ZoneNo) (k : SlotNo) (w : Sweep) (s : State) (e : DoorNo) :
    (State.loadUnder r z (s.closed k w)).door e = Door.leaveSweep k (s.door e) := by
  rw [State.door, State.doors_loadUnder]
  exact State.door_closed k w s e

namespace State.Succeeds

variable {s : State} {d : DoorNo} {dir : Direction} {k : SlotNo} {w : Sweep}

theorem link_done (h : s.Succeeds d dir k w) : ((s.driveSucceeded d dir).door d).sweep = some ⟨k, .done⟩ := by
  rw [h.door, if_pos rfl]

theorem moves (h : s.Succeeds d dir k w) : Moves Touch.all s (s.driveSucceeded d dir) :=
  .driveOver (f := fun x => { x with attempts := 0 }) trivial (fun _ => rfl) (.inl h.state) dir.goal_plain

/-- The sweep goes on, or has finished, before the arbiter is considered. -/
theorem finishOf_eq (h : s.Succeeds d dir k w) (ha : w.phase = .active) (hm : ∀ z, (s.zone z).marker = none) :
    (s.driveSucceeded d dir).finishOf d = if w.counts.pending - 1 = 0 then
      State.loadUnder .afterSweep w.zone ((s.driveSucceeded d dir).closed k { w with counts := w.counts.oneDone })
      else s.driveSucceeded d dir := by
  have hw : (s.driveSucceeded d dir).slot k = some { w with counts := w.counts.oneDone } := by
    rw [State.slot, h.slots]
    exact Vector.getElem_set_self _
  have hfin : (s.driveSucceeded d dir).isFinished k = decide (w.counts.pending - 1 = 0) := State.isFinished_of hw ha
  have hof : (s.driveSucceeded d dir).finishOf d = (s.driveSucceeded d dir).finishIfDone k := by
    unfold State.finishOf
    rw [h.link_done]
  rw [hof, State.finishIfDone, hfin]
  by_cases hp : w.counts.pending - 1 = 0
  · rw [decide_eq_true hp, if_pos rfl, if_pos hp]
    refine State.finish_unmarked hw fun y => ?_
    have := congrArg Zone.marker (h.handsTo.zones y)
    exact Eq.trans this (hm y)
  · rw [decide_eq_false hp, if_neg hp]
    rfl

/-- What the door's sweep has come to after its last pending door (R74). -/
theorem finished (h : s.Succeeds d dir k w) (hone : w.counts.pending = 1) {t : State}
    (hg : Moves Touch.nothing (State.loadUnder .afterSweep w.zone ((s.driveSucceeded d dir).closed k
      { w with counts := w.counts.oneDone })) t)
    (hh : (State.loadUnder .afterSweep w.zone ((s.driveSucceeded d dir).closed k
      { w with counts := w.counts.oneDone })).HandsTo (fun _ => False) t) : s.CountedDone t d k w := by
  have hslots : ∀ j, t.slot j = if j = k then none else s.slot j := fun j => by
    rw [hh.slots j id, State.slot, State.slots_loadUnder]
    refine (State.slot_closed k j _ _).trans (ite_congr rfl (fun _ => rfl) fun hj => h.handsTo.slots j hj)
  have hclock : (s.driveSucceeded d dir).clock = s.clock := h.moves.work.clock_eq
  rw [State.CountedDone, if_pos hone]
  refine ⟨State.slots_eq_set ((hslots k).trans (if_pos rfl)) fun j hj => (hslots j).trans (if_neg hj), ?last,
    fun e => ?link, ?notices, ?loaded⟩
  case last =>
    refine (congrArg Zone.last (hh.zones w.zone)).trans ((State.marker_loadUnder _ _ _ _).2.trans ?_)
    exact State.last_closeSweep k { w with counts := w.counts.oneDone } false _
  case link =>
    obtain ⟨-, -, hs, hu⟩ := hg.marks_outside (d := e) id
    rw [hs, hu, State.door_loadClosed]
    by_cases hed : e = d
    · rw [hed, Door.leaveSweep_linked h.link_done, h.link,
        if_pos (show Option.map SweepLink.slot (some ⟨k, .pending⟩) = some k from rfl)]
      exact ⟨rfl, by simp⟩
    · rw [h.door, if_neg hed]
      split
      · next hl =>
          obtain ⟨⟨j, c⟩, hx, rfl⟩ := Option.map_eq_some_iff.mp hl
          rw [Door.leaveSweep_linked hx, hx]
          exact ⟨rfl, decide_eq_decide.mpr ⟨fun hc => by rw [hc], fun hc => by cases hc; rfl⟩⟩
      · next hl =>
          rw [Door.leaveSweep_other hl]
          exact ⟨rfl, rfl⟩
  case notices =>
    rw [hh.notices, State.noticeSet_loadUnder, State.noticeSet_closed, h.handsTo.notices, hclock]
  case loaded =>
    refine State.LoadedAfter.then (.loadUnder (h.moves.trans (Moves.closed (A := Touch.all) _ _ (fun _ _ => trivial)
      trivial trivial)).work (fun y => ?_) w.zone) fun y => .of_underived (hh.zones y)
    exact (Zone.SamePlans.of_underived (h.handsTo.zones y)).trans (State.SamePlans.closed k _ _ y)

theorem countedDone (h : s.Succeeds d dir k w) (hl : s.WorkAt d) (ha : w.phase = .active) (hp : 1 ≤ w.counts.pending)
    (hm : ∀ z, (s.zone z).marker = none) :
    let t := ((s.driveSucceeded d dir).finishOf d).considerDoor d
    (t.door d).state = dir.goal ∧ (t.door d).attempts = 0 ∧ s.CountedDone t d k w := by
  dsimp only
  have hg : Moves Touch.nothing ((s.driveSucceeded d dir).finishOf d)
    (((s.driveSucceeded d dir).finishOf d).considerDoor d) := .considerDoor d
  have hh : ((s.driveSucceeded d dir).finishOf d).HandsTo (fun _ => False)
    (((s.driveSucceeded d dir).finishOf d).considerDoor d) := .considerDoor d
  have heq := h.finishOf_eq ha hm
  have hplans : ∀ y, (s.zone y).SamePlans ((s.driveSucceeded d dir).zone y) := fun y => .of_underived (h.handsTo.zones y)
  have hself : (s.driveSucceeded d dir).door d =
      { Door.enter dir.goal { s.door d with attempts := 0 } with sweep := some ⟨k, .done⟩ } := by rw [h.door, if_pos rfl]
  generalize ((s.driveSucceeded d dir).finishOf d).considerDoor d = t at hg hh ⊢
  rw [heq] at hg hh
  have hstand : ∀ {q : State}, q.WorkAt d → (q.door d).state = dir.goal → Moves Touch.nothing q t → t.door d = q.door d :=
    fun hq hs hg => by
      cases hg.spared id hq with
      | stands hd => exact hd
      | granted hw => rw [hs] at hw; cases dir <;> cases hw
  have hwork := h.moves.workAt hl
  by_cases hone : w.counts.pending = 1
  · rw [if_pos (by omega)] at hg hh
    have hclosed := (Moves.closed (A := Touch.all) (s.driveSucceeded d dir) (k := k) { w with counts := w.counts.oneDone }
      (fun _ _ => trivial) trivial trivial).trans (.loadUnder .afterSweep w.zone)
    have hd := hstand (hclosed.workAt hwork) (by rw [State.door_loadClosed, hself, Door.leaveSweep_linked rfl]; rfl) hg
    rw [State.door_loadClosed, hself, Door.leaveSweep_linked rfl] at hd
    refine ⟨by rw [hd]; rfl, by rw [hd]; rfl, ?_⟩
    exact h.finished hone hg hh
  · rw [if_neg (by omega)] at hg hh
    have hd := hstand hwork (by rw [hself]; rfl) hg
    rw [hself] at hd
    refine ⟨by rw [hd]; rfl, by rw [hd]; rfl, ?_⟩
    rw [State.CountedDone, if_neg hone]
    refine ⟨?_, by rw [hd], hh.notices.trans h.handsTo.notices, .of_plans fun y =>
      (hplans y).trans (.of_underived (hh.zones y))⟩
    rw [State.slots_congr fun j => hh.slots j id, h.slots]

end State.Succeeds

end Sys2Proof.Machine


namespace Sys2Proof.Machine

/-! ### The accounting and the observation of a good frame (R104 to R109) -/

/-- A door without what a frame's accounting and its report's observation write. -/
def Door.unobserved (x : Door) : Door := { x with misses := 0, position := .unknown, bolt := .unknown, sinceFrame := 0 }

/-- The tables of zones, sweeps and notices stand, and doors and trunks but for what a good frame writes of them before its
report moves the door. -/
structure State.Observed (s q : State) : Prop where
  slots : q.slots = s.slots
  zones : q.zones = s.zones
  notices : q.noticeSet = s.noticeSet
  stamp : q.clock.stamp = s.clock.stamp
  doors : ∀ e, (q.door e).unobserved = (s.door e).unobserved
  trunks : ∀ u, (q.trunk u).queue = (s.trunk u).queue ∧ (q.trunk u).inFlight = (s.trunk u).inFlight ∧
    (q.trunk u).mode = (s.trunk u).mode

namespace State.Observed

variable {s q r : State}

theorem trans (h : s.Observed q) (g : q.Observed r) : s.Observed r :=
  ⟨g.slots.trans h.slots, g.zones.trans h.zones, g.notices.trans h.notices, g.stamp.trans h.stamp,
    fun e => (g.doors e).trans (h.doors e), fun u => ⟨(g.trunks u).1.trans (h.trunks u).1,
      (g.trunks u).2.1.trans (h.trunks u).2.1, (g.trunks u).2.2.trans (h.trunks u).2.2⟩⟩

theorem updDoor (s : State) (d : DoorNo) {f : Door → Door} (hf : ∀ x, (f x).unobserved = x.unobserved) :
    s.Observed (s.updDoor d f) := by
  refine ⟨rfl, rfl, rfl, rfl, fun e => ?_, fun _ => ⟨rfl, rfl, rfl⟩⟩
  rw [State.door_updDoor]
  split
  · next h => rw [hf, h]
  · rfl

theorem updTrunk (s : State) (u : Trunk) {f : TrunkState → TrunkState}
    (hf : ∀ x, (f x).queue = x.queue ∧ (f x).inFlight = x.inFlight ∧ (f x).mode = x.mode) : s.Observed (s.updTrunk u f) := by
  refine ⟨rfl, rfl, rfl, rfl, fun _ => rfl, fun v => ?_⟩
  rw [State.trunk_updTrunk]
  split
  · next h => rw [h]; exact hf _
  · exact ⟨rfl, rfl, rfl⟩

theorem frameSent (s : State) (u : Trunk) (f : LineFrame) : s.Observed (s.frameSent u f) :=
  (updTrunk s u (f := fun x => { x with sincePatrol := x.sincePatrol.map (fun n => max 0 n) }) fun _ => ⟨rfl, rfl, rfl⟩).trans
    (updDoor _ f.door (f := fun x => if s.frameStands u f then { x with sinceFrame := max 0 x.sinceFrame } else x)
      fun x => by show Door.unobserved (ite _ _ _) = _; split <;> rfl)

theorem freeLine (s : State) (u : Trunk) : s.Observed (s.freeLine u) :=
  (updTrunk s u (f := fun x => { x with line := .free }) fun _ => ⟨rfl, rfl, rfl⟩).trans
    ⟨rfl, rfl, rfl, rfl, fun _ => rfl, fun _ => ⟨rfl, rfl, rfl⟩⟩

variable (h : s.Observed q)
include h

theorem slot (k : SlotNo) : q.slot k = s.slot k := by rw [State.slot, State.slot, h.slots]

theorem zone (z : ZoneNo) : q.zone z = s.zone z := by rw [State.zone, State.zone, h.zones]

theorem fields (d : DoorNo) : (q.door d).trunk = (s.door d).trunk ∧ (q.door d).state = (s.door d).state ∧
    (q.door d).intent = (s.door d).intent ∧ (q.door d).sweep = (s.door d).sweep ∧
    (q.door d).unreached = (s.door d).unreached ∧ (q.door d).configured = (s.door d).configured ∧
    (q.door d).address = (s.door d).address ∧ (q.door d).health = (s.door d).health := by
  have hd := h.doors d
  have h1 := congrArg Door.trunk hd
  have h2 := congrArg Door.state hd
  have h3 := congrArg Door.intent hd
  have h4 := congrArg Door.sweep hd
  have h5 := congrArg Door.unreached hd
  have h6 := congrArg Door.configured hd
  have h7 := congrArg Door.address hd
  have h8 := congrArg Door.health hd
  exact ⟨h1, h2, h3, h4, h5, h6, h7, h8⟩

theorem record (d : DoorNo) : q.record d = s.record d := by
  rw [State.record, State.record, (h.fields d).1, (h.trunks _).2.1]

theorem workAt {d : DoorNo} (hl : s.WorkAt d) : q.WorkAt d :=
  hl.congr (h.fields d).1 (h.fields d).2.1 (fun u => by rw [State.entriesOf, State.entriesOf, (h.trunks u).1])
    fun u => by rw [State.recordsOf, State.recordsOf, (h.trunks u).2.1]

theorem frameStands (u : Trunk) (f : LineFrame) : q.frameStands u f = s.frameStands u f := by
  obtain ⟨ht, -, -, -, -, hc, ha, -⟩ := h.fields f.door
  rw [State.frameStands, State.frameStands, ht, hc, ha]

theorem loadedAfter {t : State} {E : ZoneNo → Prop} (hl : q.LoadedAfter t E) : s.LoadedAfter t E := fun y => by
  have := hl y
  simp only [h.zone] at this
  exact this

theorem countedDone {t : State} {d : DoorNo} {k : SlotNo} {w : Sweep} (hc : q.CountedDone t d k w) :
    s.CountedDone t d k w := by
  unfold State.CountedDone at hc ⊢
  split
  · next hone =>
      rw [if_pos hone, h.slots, h.notices, h.stamp] at hc
      obtain ⟨hs, hlast, hlink, hn, hload⟩ := hc
      refine ⟨hs, hlast, fun e => ?_, hn, h.loadedAfter hload⟩
      have := hlink e
      rwa [(h.fields e).2.2.2.1, (h.fields e).2.2.2.2.1] at this
  · next hone =>
      rw [if_neg hone, h.slots, h.notices] at hc
      obtain ⟨hs, hlink, hn, hload⟩ := hc
      exact ⟨hs, hlink, hn, h.loadedAfter hload⟩

end State.Observed

end Sys2Proof.Machine


namespace Sys2Proof.Machine

/-- A good frame accounted to its door, which was heard, and to its trunk (R106, R108). -/
def State.accounted (u : Trunk) (d : DoorNo) (s : State) : State :=
  (s.updDoor d (fun x => { x with misses := 0 })).updTrunk u (fun x => { x with failures := 0 })

/-- The state in which a good frame's report moves the door (R12, R104 to R109). -/
def State.observed (u : Trunk) (f : LineFrame) (rep : Report) (s : State) : State :=
  (((s.frameSent u f).freeLine u).accounted u f.door).observe f.door rep

theorem State.Observed.failures (u : Trunk) (s : State) : s.Observed (s.updTrunk u (fun x => { x with failures := 0 })) :=
  .updTrunk s u fun _ => ⟨rfl, rfl, rfl⟩

theorem State.Observed.accounted (u : Trunk) (d : DoorNo) (s : State) : s.Observed (s.accounted u d) :=
  (Observed.updDoor s d (f := fun x => { x with misses := 0 }) fun _ => rfl).trans (.failures u _)

theorem State.Observed.observe (d : DoorNo) (rep : Report) (s : State) : s.Observed (s.observe d rep) :=
  .updDoor s d (f := fun x => { x with
    position := if rep.fault then .unknown else rep.position
    bolt := if rep.fault then .unknown else rep.bolt }) fun _ => rfl

theorem State.Observed.observed (u : Trunk) (f : LineFrame) (rep : Report) (s : State) : s.Observed (s.observed u f rep) :=
  (((Observed.frameSent s u f).trans (.freeLine _ u)).trans (.accounted u f.door _)).trans (.observe f.door rep _)

/-- Clearing the failures of a trunk in OFF is seen by its count alone. -/
theorem State.clearOffCount_eq (u : Trunk) (s : State) : ∃ l, s.clearOffCount u = { s with trunks := l } := by
  unfold State.clearOffCount
  split
  · exact ⟨_, rfl⟩
  · exact ⟨_, rfl⟩

theorem State.accounted_eq {s : State} {u : Trunk} {d : DoorNo} (hh : (s.door d).health = .heard)
    (hm : (s.trunk u).mode = .running) (skip : List DoorNo) : (s.accountGood d).trunkGood u skip = s.accounted u d := by
  have hd : s.accountGood d = s.updDoor d (fun x => { x with misses := 0 }) := by
    unfold State.accountGood
    dsimp only
    rw [State.door_updDoor, if_pos rfl]
    show (match (s.door d).health with | .heard => _ | .new => _ | .silent => _) = _
    rw [hh]
  have hmode : ((s.accounted u d).trunk u).mode ≠ .down := by
    rw [((Observed.accounted u d s).trunks u).2.2, hm]
    decide
  rw [hd]
  exact if_neg hmode

/-- A report for a door that no finish left unreached is its observation, and moves its state (R12, R75). -/
theorem State.report_eq {s : State} {d : DoorNo} (hu : (s.door d).unreached = false) (drive : Bool) (rep : Report) :
    s.report d drive rep = (s.observe d rep).reportState d drive rep := by
  have hself : (s.observe d rep).updDoor d (fun x => { x with unreached := false }) = s.observe d rep := by
    refine State.updDoor_self ?_
    rw [← (((Observed.observe d rep s).fields d).2.2.2.2.1).trans hu]
  unfold State.report State.restoreUnreached
  rw [hself, hu]
  rfl

/-- A good frame of a heard door that stands, on a RUNNING trunk, comes to its report (R106, R108, R109). -/
theorem State.frameOutcome_report {s : State} {u : Trunk} {reply : LineReply} {f : LineFrame} {rep : Report}
    (hline : (s.trunk u).line = .frame f false) (hj : judge reply = .good rep) (hst : s.frameStands u f = true)
    (hh : (s.door f.door).health = .heard) (hm : (s.trunk u).mode = .running)
    (hu : (s.door f.door).unreached = false) :
    s.frameOutcome u reply = State.clearOffCount u ((s.observed u f rep).reportState f.door f.isDrive rep) := by
  have hq : s.Observed ((s.frameSent u f).freeLine u) := (Observed.frameSent s u f).trans (.freeLine _ u)
  obtain ⟨-, -, -, -, hunr, -, -, hheard⟩ := hq.fields f.door
  have hacc := (hq.trans (.accounted u f.door _)).fields f.door
  unfold State.frameOutcome
  rw [hline]
  show ((s.frameSent u f).freeLine u).takeFrame u f reply = _
  unfold State.takeFrame State.outcomeGood
  rw [hj]
  dsimp only
  rw [if_pos ((hq.frameStands u f).trans hst), State.accounted_eq (hheard.trans hh) ((hq.trunks u).2.2.trans hm),
    State.report_eq (hacc.2.2.2.2.1.trans hu)]
  rfl

/-- A report of an ACTING door in DRIVING that shows its drive done ends the drive (R27, R92, R93). -/
theorem State.reportState_done {s : State} {d : DoorNo} {r : Record} {n : Nat} {rep : Report} (drive : Bool)
    (hs : (s.door d).state = .acting) (hr : s.record d = some r) (hp : r.phase = .driving n)
    (hi : r.direction.intent = (s.door d).intent)
    (hset : settleOutcome r.direction (s.door d).position (s.door d).bolt = some .success) :
    s.reportState d drive rep = ((s.driveSucceeded d r.direction).finishOf d).considerDoor d := by
  have hd : r.door = d := eq_of_beq (List.find?_some (p := fun q : Record => q.door == d) hr)
  have hend : s.settle r = s.endDrive r .success := by
    unfold State.settle
    rw [hd, hset]
  unfold State.reportState State.reportActing State.reportToRecord
  rw [hs, hr]
  dsimp only
  rw [hp]
  dsimp only
  rw [hend, State.endDrive_success (by rw [hd]; exact hi), hd]

theorem State.door_observed (u : Trunk) (f : LineFrame) {rep : Report} (s : State) (h : rep.fault = false) :
    ((s.observed u f rep).door f.door).position = rep.position ∧ ((s.observed u f rep).door f.door).bolt = rep.bolt := by
  rw [State.observed, State.observe, State.door_updDoor, if_pos rfl, h]
  exact ⟨rfl, rfl⟩

/-- A linked door is counted by its sweep (1.2). -/
theorem State.CountLaw.counted {s : State} (h : s.CountLaw) {d : DoorNo} {k : SlotNo} {c : Count} {w : Sweep}
    (hl : (s.door d).sweep = some ⟨k, c⟩) (hw : s.slot k = some w) : 1 ≤ w.counts.get c := by
  rw [(h.2 k w hw).1 c]
  refine List.length_pos_of_mem (List.mem_filter.mpr ⟨?_, beq_iff_eq.mpr hl⟩)
  exact Vector.mem_toList_iff.mpr (Vector.getElem_mem d.isLt)

theorem settleOutcome_done {dir : Direction} {rep : Report}
    (h : match dir with
      | .lock => rep.bolt = .thrown ∧ rep.position = .closed
      | .release => rep.bolt = .withdrawn) : settleOutcome dir rep.position rep.bolt = some .success := by
  cases dir with
  | lock => exact if_pos h
  | release => exact if_pos h

/-- A good report that shows the drive of a pending door done (R68, R69, R73 to R75, R92). -/
theorem State.frameOutcome_done {s : State} {u : Trunk} {reply : LineReply} {f : LineFrame} {rep : Report} {r : Record}
    {w : Sweep} {k : SlotNo} {n : Nat} (hl : s.WorkLaw) (hc : s.CountLaw) (hm : ∀ z, (s.zone z).marker = none)
    (hline : (s.trunk u).line = .frame f false) (hj : judge reply = .good rep) (hst : s.frameStands u f = true)
    (hh : (s.door f.door).health = .heard) (hmode : (s.trunk u).mode = .running)
    (hstate : (s.door f.door).state = .acting) (hr : s.record f.door = some r) (hp : r.phase = .driving n)
    (hi : r.direction.intent = (s.door f.door).intent) (hlink : (s.door f.door).sweep = some ⟨k, .pending⟩)
    (hw : s.slot k = some w) (hdir : w.direction = r.direction)
    (hset : settleOutcome r.direction ((s.observed u f rep).door f.door).position
      ((s.observed u f rep).door f.door).bolt = some .success) :
    let t := s.frameOutcome u reply
    (t.door f.door).state = r.direction.goal ∧ (t.door f.door).attempts = 0 ∧ s.CountedDone t f.door k w := by
  obtain ⟨-, hunr, v, hv, hact, -⟩ := hc.1 f.door _ hlink
  obtain rfl : w = v := Option.some.inj (hw.symm.trans hv)
  have hq := Observed.observed u f rep s
  obtain ⟨-, hqs, hqi, hql, -, -, -, -⟩ := hq.fields f.door
  have hsucc : (s.observed u f rep).Succeeds f.door r.direction k w :=
    ⟨hqs.trans hstate, hql.trans hlink, (hq.slot k).trans hw, hdir⟩
  have hdone := hsucc.countedDone (hq.workAt (hl f.door)) hact (hc.counted hlink hw) fun z => by rw [hq.zone, hm]
  rw [← State.reportState_done (rep := rep) f.isDrive (hqs.trans hstate) ((hq.record _).trans hr) hp (hi.trans hqi.symm)
    hset] at hdone
  obtain ⟨hgoal, hatt, hcount⟩ := hdone
  dsimp only
  rw [State.frameOutcome_report hline hj hst hh hmode hunr]
  obtain ⟨trunks, hoff⟩ := State.clearOffCount_eq u ((s.observed u f rep).reportState f.door f.isDrive rep)
  rw [hoff]
  exact ⟨hgoal, hatt, hq.countedDone hcount⟩

/-- Settles O29, the finish of a sweep with its last pending door, and the offer of a slot that falls free. -/
theorem sweepFinishesAndItsSlotIsOffered : Obligations.SweepFinishesAndItsSlotIsOffered := by
  refine ⟨fun s u reply f rep r w k n => ?_, State.offer_spec⟩
  dsimp only
  intro hl hc hs hm hline hj hconf htr haddr hh hmode hstate hr hp hi hlink hw hdir hfault hshown
  obtain ⟨hpos, hbolt⟩ := State.door_observed u f s hfault
  have hst : s.frameStands u f = true := by simp [State.frameStands, hconf, htr, haddr]
  refine ⟨_, rfl, State.frameOutcome_done hl hc hm hline hj hst hh hmode hstate hr hp hi hlink hw hdir ?_⟩
  rw [hpos, hbolt]
  exact settleOutcome_done hshown

end Sys2Proof.Machine


namespace Sys2Proof.Machine

/-! ### Cancels of several sweeps (R76 to R79) -/

/-- A cancel touches its zone, its slot, and the doors that the sweep linked. -/
theorem State.Tended.cancelOf {A : Touch} {s : State} {k : SlotNo} {w : Sweep} (hw : s.slot k = some w)
    (hk : A.slot k) (hz : A.zone w.zone) (hl : ∀ d, (s.door d).linkedTo k = true → A.door d) :
    Tended A s (s.cancelSweep k) := by
  rw [State.cancelSweep_eq hw]
  have hm : Moves A s (s.stopSweep k w) := .stopSweep hl
  exact ((of_handsTo hm (.stopSweep s k w)).trans (closeSweep hk hz true)).trans (loadUnder _)

/-- The sweeps of slots, cancelled one after another. -/
def State.cancelSlots (l : List SlotNo) (s : State) : State := forEach l State.cancelSweep s

theorem State.cancelSlots_cons (k : SlotNo) (l : List SlotNo) (s : State) :
    s.cancelSlots (k :: l) = (s.cancelSweep k).cancelSlots l := rfl

theorem State.slot_cancelSweep_ne (s : State) {k j : SlotNo} (h : j ≠ k) : (s.cancelSweep k).slot j = s.slot j :=
  (State.Tended.cancelSweep (Touch.offers_inSlot k s)).slots j h

theorem State.slot_cancelSlots (l : List SlotNo) (s : State) (j : SlotNo) :
    (s.cancelSlots l).slot j = if j ∈ l then none else s.slot j := by
  induction l generalizing s with
  | nil => rfl
  | cons k l ih =>
    rw [State.cancelSlots_cons, ih]
    by_cases hj : j = k
    · subst hj
      simp [State.slot_cancelSweep]
    · simp [hj, State.slot_cancelSweep_ne s hj]

/-- Cancels touch their zones, their slots and doors. -/
theorem State.Tended.cancelSlots {A : Touch} {l : List SlotNo} {s : State} (hk : ∀ k ∈ l, A.slot k)
    (hz : ∀ k ∈ l, ∀ w, s.slot k = some w → A.zone w.zone) (hd : ∀ d, A.door d) : Tended A s (s.cancelSlots l) := by
  induction l generalizing s with
  | nil => exact refl s
  | cons k l ih =>
    have h1 : Tended A s (s.cancelSweep k) := by
      cases hw : s.slot k with
      | none => rw [State.cancelSweep_free hw]; exact refl s
      | some w => exact .cancelOf hw (hk k List.mem_cons_self) (hz k List.mem_cons_self w hw) fun d _ => hd d
    refine h1.trans (ih (fun j hj => hk j (List.mem_cons_of_mem k hj)) fun j hj w hw => ?_)
    by_cases hjk : j = k
    · rw [hjk, State.slot_cancelSweep] at hw
      cases hw
    · rw [State.slot_cancelSweep_ne s hjk] at hw
      exact hz j (List.mem_cons_of_mem k hj) w hw

/-- A load after a load is one load of the zones that lead in either (R42). -/
theorem State.LoadedAfter.trans {s c t : State} {E F : ZoneNo → Prop} (h : s.LoadedAfter c E) (hw : Work s c)
    (g : c.LoadedAfter t F) : s.LoadedAfter t (fun y => E y ∨ F y) := fun y => by
  obtain ⟨hs, hl, hn⟩ := h y
  obtain ⟨hs', hl', hn'⟩ := g y
  rw [hw.leader_eq, hw.leader_eq, hw.rule_eq] at hl' hn'
  refine ⟨hs'.trans hs, fun hy => ?_, fun hy => ?_⟩
  · by_cases hE : E (s.zone y).leader
    · obtain ⟨h1, h2⟩ := hl ⟨hE, hy.2⟩
      obtain ⟨g1, g2⟩ := hn' fun hg => by rw [h2] at hg; cases hg.2.2.2
      exact ⟨g1.trans h1, g2.trans h2⟩
    · obtain ⟨h1, h2⟩ := hn fun hg => hE hg.1
      obtain ⟨g1, g2⟩ := hl' ⟨hy.1.resolve_left hE, hy.2.1, hy.2.2.1, h2.trans hy.2.2.2⟩
      exact ⟨g1.trans hs, g2⟩
  · obtain ⟨h1, h2⟩ := hn fun hg => hy ⟨.inl hg.1, hg.2⟩
    obtain ⟨g1, g2⟩ := hn' fun hg => hy ⟨.inr hg.1, hg.2.1, hg.2.2.1, h2.symm.trans hg.2.2.2⟩
    exact ⟨g1.trans h1, g2.trans h2⟩

theorem State.LoadedAfter.congr {s t : State} {E F : ZoneNo → Prop} (h : s.LoadedAfter t E) (hEF : ∀ y, E y ↔ F y) :
    s.LoadedAfter t F := by
  have : E = F := funext fun y => propext (hEF y)
  rwa [← this]

/-- Two sweeps are of two zones (R49). -/
def State.OnePerZone (s : State) : Prop := ∀ j k v w, s.slot j = some v → s.slot k = some w → v.zone = w.zone → j = k

theorem State.SweepLaw.onePerZone {s : State} (h : s.SweepLaw) : s.OnePerZone :=
  fun j k v w hv hw hz => h.1 j k v hv w hw hz

theorem State.OnePerZone.cancelSweep {s : State} (h : s.OnePerZone) (k : SlotNo) : (s.cancelSweep k).OnePerZone := by
  have hslot : ∀ j v, (s.cancelSweep k).slot j = some v → s.slot j = some v := fun j v hv => by
    by_cases hj : j = k
    · rw [hj, State.slot_cancelSweep] at hv
      cases hv
    · rwa [State.slot_cancelSweep_ne s hj] at hv
  exact fun i j v w hv hw => h i j v w (hslot i v hv) (hslot j w hw)

/-- What cancels leave of the sweeps they cancel. -/
structure State.CancelledAll (s c : State) (l : List SlotNo) : Prop where
  markers : ∀ y, (c.zone y).marker = (s.zone y).marker
  last : ∀ k ∈ l, ∀ w, s.slot k = some w → (c.zone w.zone).last = some w.direction
  tells : ∀ k ∈ l, ∀ w, s.slot k = some w → c.noticeSet.Tells s.clock.stamp .sweepDone (.zone w.zone)
    (.sweepDone w.direction w.origin true w.total w.counts)
  loaded : s.LoadedAfter c (fun y => ∃ k ∈ l, ∃ w, s.slot k = some w ∧ w.zone = y)

/-- The touch of cancels of sweeps of zones other than one. -/
def Touch.notOf (z : ZoneNo) : Touch := ⟨fun _ => True, (· ≠ z), fun _ => True⟩

theorem State.cancelSlots_spec {l : List SlotNo} (hn : l.Nodup) {s : State} (ho : s.OnePerZone)
    (hl : ∀ k ∈ l, ∃ w, s.slot k = some w) : s.CancelledAll (s.cancelSlots l) l := by
  induction l generalizing s with
  | nil =>
    refine ⟨fun _ => rfl, fun k hk => absurd hk List.not_mem_nil, fun k hk => absurd hk List.not_mem_nil,
      State.LoadedAfter.congr (.of_plans fun _ => .refl _) fun y => ⟨False.elim, ?_⟩⟩
    rintro ⟨k, hk, -⟩
    exact absurd hk List.not_mem_nil
  | cons k l ih =>
    obtain ⟨hkl, hn⟩ := List.nodup_cons.mp hn
    have hrest : ∀ j ∈ l, (s.cancelSweep k).slot j = s.slot j := fun j hj =>
      State.slot_cancelSweep_ne s fun e => hkl (e ▸ hj)
    obtain ⟨w, hw⟩ := hl k List.mem_cons_self
    have hc := State.cancelled hw
    obtain ⟨hmark, hlast, htells, hload⟩ := ih hn (ho.cancelSweep k) fun j hj => by
      rw [hrest j hj]
      exact hl j (List.mem_cons_of_mem k hj)
    have htail : State.Tended (Touch.notOf w.zone) (s.cancelSweep k) ((s.cancelSweep k).cancelSlots l) :=
      .cancelSlots (fun _ _ => trivial) (fun j hj v hv hz => hkl (by
        rw [hrest j hj] at hv
        exact ho j k v w hv hw hz ▸ hj)) fun _ => trivial
    have hout : ¬ (Touch.notOf w.zone).zone w.zone := fun h => h rfl
    refine ⟨fun y => (hmark y).trans (hc.markers y), fun j hj v hv => ?last, fun j hj v hv => ?tells, ?loaded⟩
    case last =>
      rcases List.mem_cons.mp hj with rfl | hj
      · obtain rfl : w = v := Option.some.inj (hw.symm.trans hv)
        exact (htail.moves.zone_outside hout).2.trans hc.last
      · exact hlast j hj v ((hrest j hj).trans hv)
    case tells =>
      rcases List.mem_cons.mp hj with rfl | hj
      · obtain rfl : w = v := Option.some.inj (hw.symm.trans hv)
        refine htail.notices.tells hout ?_
        rw [hc.notices]
        exact .raised _ _ _ _ _
      · rw [← hc.work.clock_eq]
        exact htells j hj v ((hrest j hj).trans hv)
    case loaded =>
      refine (hc.loaded.trans hc.work hload).congr fun y => ⟨?_, ?_⟩
      · rintro (rfl | ⟨j, hj, v, hv, rfl⟩)
        · exact ⟨k, List.mem_cons_self, w, hw, rfl⟩
        · exact ⟨j, List.mem_cons_of_mem k hj, v, (hrest j hj).symm.trans hv, rfl⟩
      · rintro ⟨j, hj, v, hv, rfl⟩
        rcases List.mem_cons.mp hj with rfl | hj
        · exact .inl (congrArg Sweep.zone (Option.some.inj (hv.symm.trans hw)))
        · exact .inr ⟨j, hj, v, (hrest j hj).trans hv, rfl⟩

end Sys2Proof.Machine


namespace Sys2Proof.Machine

/-! ### The request CANCEL (R76) -/

theorem State.Tended.offerSlots {A : Touch} {s : State} (h : ∀ k, A.Offers k s) (l : List SlotNo) :
    Tended A s (s.offerSlots l) := by
  unfold State.offerSlots
  generalize sortByKey Fin.val l = l
  induction l generalizing s with
  | nil => exact refl s
  | cons k l ih =>
    have hk := State.Tended.offer (h k)
    exact hk.trans (ih fun j => (h j).moves hk.moves)

/-- With no zone waiting offered slots stay free (R59). -/
theorem State.offerSlots_unmarked {s : State} (h : ∀ z, (s.zone z).marker = none) (l : List SlotNo) :
    s.offerSlots l = s := by
  unfold State.offerSlots
  generalize sortByKey Fin.val l = l
  induction l with
  | nil => rfl
  | cons k l ih =>
    show forEach l State.offer (s.offer k) = s
    rw [State.offer_unmarked h]
    exact ih

/-- What touches no zone of a set. -/
def Touch.unnamed (N : ZoneNo → Prop) : Touch := ⟨fun _ => True, fun z => ¬ N z, fun _ => True⟩

/-- The zones of a set have neither marker nor sweep. -/
structure State.FreeOf (s : State) (N : ZoneNo → Prop) : Prop where
  marker : ∀ z, N z → (s.zone z).marker = none
  sweep : ∀ k w, s.slot k = some w → ¬ N w.zone

theorem State.FreeOf.offers {s : State} {N : ZoneNo → Prop} (h : s.FreeOf N) (k : SlotNo) : (Touch.unnamed N).Offers k s :=
  ⟨trivial, fun w hw => h.sweep k w hw, fun z hz hn => absurd (h.marker z hn) (Option.isSome_iff_ne_none.mp hz),
    fun _ _ _ _ => trivial, fun _ _ => trivial⟩

theorem State.FreeOf.moves {s t : State} {N : ZoneNo → Prop} (h : s.FreeOf N) (hm : Moves (Touch.unnamed N) s t) :
    t.FreeOf N where
  marker z hz := (hm.zone_outside (z := z) fun g => g hz).1.trans (h.marker z hz)
  sweep k w hw := by
    rcases hm.slot_zone hw with hz | ⟨v, hv, hvw⟩
    · exact hz
    · exact hvw ▸ h.sweep k v hv

theorem State.FreeOf.not_hasSweep {s : State} {N : ZoneNo → Prop} (h : s.FreeOf N) {z : ZoneNo} (hz : N z) :
    ¬ s.HasSweep z := by
  rintro ⟨k, hk⟩
  obtain ⟨w, hw, rfl⟩ := Option.map_eq_some_iff.mp hk
  exact h.sweep k w hw hz

/-- A zone is in the set that a request names. -/
def Named (zones : ZoneSet) (z : ZoneNo) : Prop := zones.getLsbD z.val = true


theorem mem_zonesOf {zones : ZoneSet} {z : ZoneNo} : z ∈ zonesOf zones ↔ zones.getLsbD z.val = true := by
  rw [zonesOf, List.mem_filter]
  exact and_iff_right (List.mem_finRange z)

theorem zonesOf_nodup (zones : ZoneSet) : (zonesOf zones).Nodup := (List.nodup_finRange 32).filter _

/-- The slots of the sweeps of the named zones, in the order of the zones. -/
def State.sweptSlots (zones : ZoneSet) (s : State) : List SlotNo :=
  (zonesOf zones).filterMap (fun z => (s.sweepOf z).map Prod.fst)

theorem State.mem_sweptSlots {zones : ZoneSet} {s : State} (hs : s.SweepLaw) {k : SlotNo} :
    k ∈ s.sweptSlots zones ↔ ∃ w, s.slot k = some w ∧ Named zones w.zone := by
  simp only [State.sweptSlots, List.mem_filterMap, zonesOf, List.mem_filter, List.mem_finRange, true_and]
  constructor
  · rintro ⟨z, hz, hk⟩
    obtain ⟨⟨j, w⟩, hf, rfl⟩ := Option.map_eq_some_iff.mp hk
    have hw : s.slot j = some w := State.mem_sweeps.mp (List.mem_of_find?_eq_some hf)
    have hwz : w.zone = z := by simpa using List.find?_some hf
    exact ⟨w, hw, hwz ▸ hz⟩
  · rintro ⟨w, hw, hz⟩
    exact ⟨w.zone, hz, by rw [State.sweepOf_eq_some hs hw]; rfl⟩

theorem State.sweptSlots_nodup (zones : ZoneSet) (s : State) : (s.sweptSlots zones).Nodup := by
  refine List.Nodup.filterMap (fun z y k hz hy => ?_) (zonesOf_nodup zones)
  obtain ⟨⟨j, w⟩, hf, rfl⟩ := Option.map_eq_some_iff.mp hz
  obtain ⟨⟨i, v⟩, hg, hi⟩ := Option.map_eq_some_iff.mp hy
  have hw : s.slot j = some w := State.mem_sweeps.mp (List.mem_of_find?_eq_some hf)
  have hv : s.slot i = some v := State.mem_sweeps.mp (List.mem_of_find?_eq_some hg)
  have hwz : w.zone = z := by simpa using List.find?_some hf
  have hvy : v.zone = y := by simpa using List.find?_some hg
  have hij : i = j := hi
  rw [hij, hw] at hv
  rw [← hwz, ← hvy, Option.some.inj hv]

/-- The markers of the named zones are gone (R76 step 1). -/
def State.withoutMarkers (zones : ZoneSet) (s : State) : State :=
  s.clearMarkers ((zonesOf zones).filter (fun z => (s.zone z).marker.isSome))

theorem State.clearMarkers_rest (l : List ZoneNo) (s : State) : s.clearMarkers l = { s with zones := (s.clearMarkers l).zones } := by
  have h : (s.clearMarkers l).setZones = s.setZones := forEach_same
    (f := fun z s => s.updZone z (fun x => { x with marker := none })) l (fun _ _ => rfl) s
  exact (State.setZones_self _).symm.trans (congrFun h _)

theorem State.zone_withoutMarkers (zones : ZoneSet) (s : State) (z : ZoneNo) : (s.withoutMarkers zones).zone z =
    if zones.getLsbD z.val then { s.zone z with marker := none } else s.zone z := by
  refine (zone_forEach (f := fun x => { x with marker := none }) (fun z s y => ?_)
    ((zonesOf_nodup zones).filter _) s z).trans ?_
  · rw [State.zone_updZone]
  · by_cases hz : zones.getLsbD z.val = true
    · cases hm : (s.zone z).marker with
      | none =>
        rw [if_neg (by simp [hm]), if_pos hz, ← hm]
      | some m => rw [if_pos (List.mem_filter.mpr ⟨mem_zonesOf.mpr hz, by rw [hm]; rfl⟩), if_pos hz]
    · rw [if_neg fun h => hz (mem_zonesOf.mp (List.mem_filter.mp h).1), if_neg hz]

theorem State.withoutMarkers_rest (zones : ZoneSet) (s : State) :
    s.withoutMarkers zones = { s with zones := (s.withoutMarkers zones).zones } := State.clearMarkers_rest _ s

theorem Moves.withoutMarkers (zones : ZoneSet) (s : State) : Moves Touch.all s (s.withoutMarkers zones) :=
  .forEach _ fun _ _ _ => .zone trivial (by intros; rfl)

theorem takeCancel_eq {zones : ZoneSet} (h : zones ≠ 0) (s : State) : takeCancel zones s =
    (((s.withoutMarkers zones).cancelSlots (s.sweptSlots zones)).offerSlots (s.sweptSlots zones),
      okWith (zoneSetBytes (zoneSetOf ((zonesOf zones).filter (fun z => (s.zone z).marker.isSome))) ++
        zoneSetBytes (zoneSetOf ((zonesOf zones).filter (fun z => (s.sweepOf z).isSome))))) := by
  have hslots : ((zonesOf zones).filterMap (fun z => (s.sweepOf z).map (fun e => (z, e.1)))).map Prod.snd =
      s.sweptSlots zones := by
    rw [List.map_filterMap]
    refine List.filterMap_congr fun z _ => ?_
    rw [Option.map_map]
    rfl
  have hzones : ((zonesOf zones).filterMap (fun z => (s.sweepOf z).map (fun e => (z, e.1)))).map Prod.fst =
      (zonesOf zones).filter (fun z => (s.sweepOf z).isSome) := by
    rw [List.map_filterMap, ← List.filterMap_eq_filter]
    refine List.filterMap_congr fun z _ => ?_
    cases h : s.sweepOf z <;> simp [Option.guard, h]
  unfold takeCancel
  rw [if_neg h]
  dsimp only
  rw [hslots, hzones, State.cancelSlots, ← hslots, forEach, forEach, List.foldl_map]
  rfl

end Sys2Proof.Machine


namespace Sys2Proof.Machine

theorem State.slot_withoutMarkers (zones : ZoneSet) (s : State) (k : SlotNo) :
    (s.withoutMarkers zones).slot k = s.slot k := by
  rw [State.withoutMarkers_rest]
  rfl

theorem State.withoutMarkers_unmarked {s : State} (h : ∀ z, (s.zone z).marker = none) (zones : ZoneSet) :
    s.withoutMarkers zones = s := by
  have : (zonesOf zones).filter (fun z => (s.zone z).marker.isSome) = [] :=
    List.filter_eq_nil_iff.mpr fun z _ => by rw [h z]; decide
  rw [State.withoutMarkers, this]
  rfl

theorem State.SweepLaw.withoutMarkers {s : State} (h : s.SweepLaw) (zones : ZoneSet) :
    (s.withoutMarkers zones).OnePerZone := fun j k v w hv hw => by
  rw [State.slot_withoutMarkers] at hv hw
  exact h.onePerZone j k v w hv hw

/-- The sweeps of the named zones, cancelled with their markers gone, and their slots not yet offered. -/
def State.cancelledZones (zones : ZoneSet) (s : State) : State :=
  (s.withoutMarkers zones).cancelSlots (s.sweptSlots zones)

section
variable {s : State} {zones : ZoneSet} (hs : s.SweepLaw)
include hs

theorem State.cancelledZones_spec : (s.withoutMarkers zones).CancelledAll (s.cancelledZones zones) (s.sweptSlots zones) := by
  refine State.cancelSlots_spec (s.sweptSlots_nodup zones) (hs.withoutMarkers zones) fun k hk => ?_
  rw [State.slot_withoutMarkers]
  exact ((State.mem_sweptSlots hs).mp hk).imp fun _ h => h.1

theorem State.cancelledZones_freeOf : (s.cancelledZones zones).FreeOf (Named zones) := by
  refine ⟨fun z hz => ?_, fun k w hw hz => ?_⟩
  · rw [(State.cancelledZones_spec hs).markers, State.zone_withoutMarkers, if_pos (show zones.getLsbD z.val = true from hz)]
  · rw [State.cancelledZones, State.slot_cancelSlots, State.slot_withoutMarkers] at hw
    split at hw
    · cases hw
    · next hk => exact hk ((State.mem_sweptSlots hs).mpr ⟨w, hw, hz⟩)

omit hs in
theorem State.cancelledZones_work : Work s (s.cancelledZones zones) :=
  (Moves.withoutMarkers zones s).work.trans
    (State.Tended.cancelSlots (A := Touch.all) (fun _ _ => trivial) (fun _ _ _ _ => trivial) fun _ => trivial).moves.work

/-- What stands after the slots of the cancelled sweeps are offered (R76, R79). -/
theorem State.cancelledZones_offered (l : List SlotNo) :
    State.Tended (Touch.unnamed (Named zones)) (s.cancelledZones zones) ((s.cancelledZones zones).offerSlots l) :=
  .offerSlots (State.cancelledZones_freeOf hs).offers l

theorem State.cancel_told {k : SlotNo} {w : Sweep} (hw : s.slot k = some w) (hz : Named zones w.zone) (l : List SlotNo) :
    (((s.cancelledZones zones).offerSlots l).zone w.zone).last = some w.direction ∧
    ((s.cancelledZones zones).offerSlots l).noticeSet.Tells s.clock.stamp .sweepDone (.zone w.zone)
      (.sweepDone w.direction w.origin true w.total w.counts) := by
  have hc := State.cancelledZones_spec (zones := zones) hs
  have ht := State.cancelledZones_offered (zones := zones) hs l
  have hk : k ∈ s.sweptSlots zones := (State.mem_sweptSlots hs).mpr ⟨w, hw, hz⟩
  have hw' : (s.withoutMarkers zones).slot k = some w := (State.slot_withoutMarkers zones s k).trans hw
  have hclock : (s.withoutMarkers zones).clock = s.clock := (Moves.withoutMarkers zones s).work.clock_eq
  have hout : ¬ (Touch.unnamed (Named zones)).zone w.zone := fun h => h hz
  refine ⟨(ht.moves.zone_outside hout).2.trans (hc.last k hk w hw'), ht.notices.tells hout ?_⟩
  rw [← hclock]
  exact hc.tells k hk w hw'

theorem State.cancel_loaded (hm : ∀ z, (s.zone z).marker = none) (l : List SlotNo) :
    s.LoadedAfter ((s.cancelledZones zones).offerSlots l) (fun z => zones.getLsbD z.val = true ∧ s.HasSweep z) := by
  have hc := State.cancelledZones_spec (zones := zones) hs
  have hmark : ∀ z, ((s.cancelledZones zones).zone z).marker = none := fun z => by
    rw [hc.markers, State.withoutMarkers_unmarked hm, hm]
  have hload := hc.loaded
  rw [State.withoutMarkers_unmarked hm] at hload
  rw [State.offerSlots_unmarked hmark]
  refine hload.congr fun z => ⟨?_, ?_⟩
  · rintro ⟨k, hk, w, hw, rfl⟩
    obtain ⟨v, hv, hz⟩ := (State.mem_sweptSlots hs).mp hk
    obtain rfl : v = w := Option.some.inj (hv.symm.trans hw)
    exact ⟨hz, k, by rw [hw]; rfl⟩
  · rintro ⟨hz, k, hk⟩
    obtain ⟨w, hw, rfl⟩ := Option.map_eq_some_iff.mp hk
    exact ⟨k, (State.mem_sweptSlots hs).mpr ⟨w, hw, hz⟩, w, hw, rfl⟩

/-- Without a sweep of a named zone, the markers go and nothing else changes. -/
theorem State.cancel_idle (h : ∀ z : ZoneNo, zones.getLsbD z.val = true → ¬ s.HasSweep z) :
    (s.cancelledZones zones).offerSlots (s.sweptSlots zones) = s.withoutMarkers zones := by
  have hl : s.sweptSlots zones = [] := List.eq_nil_iff_forall_not_mem.mpr fun k hk => by
    obtain ⟨w, hw, hz⟩ := (State.mem_sweptSlots hs).mp hk
    exact h w.zone hz ⟨k, by rw [hw]; rfl⟩
  rw [State.cancelledZones, hl]
  rfl

end

theorem State.sweepOf_isSome (s : State) (z : ZoneNo) : (s.sweepOf z).isSome =
    (List.finRange 8).any (fun k => (s.slot k).any (fun w => decide (w.zone = z))) := by
  rw [Bool.eq_iff_iff, Option.isSome_iff_ne_none, ne_eq, State.sweepOf_eq_none, not_not, List.any_eq_true]
  simp only [List.mem_finRange, true_and, Option.any_eq_true, decide_eq_true_eq, State.HasSweep, Option.map_eq_some_iff]

theorem exec_cancel (zones : ZoneSet) (s : State) : exec (.cancel zones) s = answered (takeCancel zones) s := rfl

/-- O30, the request CANCEL of a set of zones (R76, R79). -/
theorem cancel_spec (s : State) (zones : ZoneSet) (hs : s.SweepLaw) : ∃ t, exec (.cancel zones) s = .next t ∧
    if zones = 0 then t = s.refusedAs .range
    else
      let named := (List.finRange 32).filter (fun z => zones.getLsbD z.val)
      let swept := fun z => (List.finRange 8).any (fun k => (s.slot k).any (fun w => decide (w.zone = z)))
      t.blockResult = some ⟨.ok, zoneSetBytes (zoneSetOf (named.filter (fun z => (s.zone z).marker.isSome))) ++
        zoneSetBytes (zoneSetOf (named.filter swept))⟩ ∧
      (∀ z : ZoneNo, zones.getLsbD z.val = true → (t.zone z).marker = none ∧ ¬ t.HasSweep z) ∧
      (∀ k w, s.slot k = some w → zones.getLsbD w.zone.val = true → (t.zone w.zone).last = some w.direction) ∧
      (∀ k w, s.slot k = some w → zones.getLsbD w.zone.val = true → t.noticeSet.Tells s.clock.stamp .sweepDone
        (.zone w.zone) (.sweepDone w.direction w.origin true w.total w.counts)) ∧
      s.later.SameAround t ∧
      ((∀ z, (s.zone z).marker = none) → s.LoadedAfter t (fun z => zones.getLsbD z.val = true ∧ s.HasSweep z)) ∧
      ((∀ z : ZoneNo, zones.getLsbD z.val = true → ¬ s.HasSweep z) →
        t = { s.later with zones := t.zones, blockResult := t.blockResult } ∧
        ∀ z : ZoneNo, t.zone z = if zones.getLsbD z.val then { s.zone z with marker := none } else s.zone z) := by
  rw [exec_cancel]
  by_cases h0 : zones = 0
  · rw [answered_taken (t := s.later) (a := refusal .range) (if_pos h0)]
    exact ⟨_, rfl, by rw [if_pos h0]; rfl⟩
  rw [answered_taken (takeCancel_eq h0 s.later)]
  have hs' : s.later.SweepLaw := hs
  have ht := State.cancelledZones_offered (zones := zones) hs' (s.later.sweptSlots zones)
  have hfree := (State.cancelledZones_freeOf hs').moves ht.moves
  have hwork : Work s.later _ := (State.cancelledZones_work (zones := zones)).trans ht.moves.work
  refine ⟨_, rfl, ?_⟩
  rw [if_neg h0]
  refine ⟨?reply, fun z hz => ⟨hfree.marker z hz, hfree.not_hasSweep hz⟩,
    fun k w hw hz => (State.cancel_told hs' hw hz _).1, fun k w hw hz => (State.cancel_told hs' hw hz _).2,
    hwork.sameAround, fun hm => State.cancel_loaded hs' hm _, fun hn => ?idle⟩
  case reply =>
    have : (fun z => (s.later.sweepOf z).isSome) =
        fun z => (List.finRange 8).any (fun k => (s.slot k).any (fun w => decide (w.zone = z))) :=
      funext s.later.sweepOf_isSome
    rw [this]
    rfl
  case idle =>
    have hidle := State.cancel_idle hs' hn
    rw [State.cancelledZones] at hidle
    rw [hidle]
    refine ⟨?_, fun z => State.zone_withoutMarkers zones s.later z⟩
    rw [State.withoutMarkers_rest]

end Sys2Proof.Machine


namespace Sys2Proof.Machine

/-! ### The doors of a cancelled sweep (R78) -/

/-- A door that work does not reach is granted by a RUNNING trunk alone (R89, R95). -/
theorem Moves.granted_running {A : Touch} {s s' : State} (h : Moves A s s') {d : DoorNo} (hd : ¬ A.door d)
    (hl : s.WorkAt d) (hw : (s.door d).state = .waiting) :
    (s'.door d).state = .waiting ∨ (s.trunk (s.door d).trunk).mode = .running := by
  induction h with
  | refl => exact .inl hw
  | @tail p q hm hp ih =>
    rcases ih with hs | hr
    · rcases hp.door_outside hd with he | ⟨t, e, l, hq, hg, rfl, rfl⟩
      · exact .inl (he ▸ hs)
      · refine .inr ?_
        have hpos : p.entriesOf t e.door ≠ 0 := by
          rw [State.entriesOf_eq, hq, entriesIn_cons, if_pos rfl]
          omega
        have ht : (p.door e.door).trunk = t := by
          by_contra hn
          exact hpos (((Moves.workAt hm hl) t).1.trans (if_neg fun g => hn g.1))
        have hw : Work s p := Moves.work hm
        simp only [State.grantable, Bool.and_eq_true, beq_iff_eq] at hg
        rw [← hw.mode_eq, ← hw.doorTrunk_eq, ht]
        exact hg.1.1
    · exact .inr hr

/-- Without an entry in the door's queue there is none to find (R4). -/
theorem State.WorkAt.no_entry {s : State} {d : DoorNo} (h : s.WorkAt d) (hs : (s.door d).state ≠ .waiting) :
    s.entry d = none := by
  rw [State.entry, entryOf_eq_none]
  exact (h _).1.trans (if_neg fun g => hs g.2)

/-- A door unlinked by a cancel, at its turn (R78). -/
def Door.cancelled (c : Count) (x : Door) : Door :=
  if x.keepOpen ∨ c = .held then x
  else match x.state with
    | .waiting => (Door.enter (restatedState x.bolt x.position) x).noIntent
    | .ajar => (Door.enter .released x).noIntent
    | .acting | .unknown | .released | .secured | .passage | .jammed | .forced => x.noIntent

theorem Door.enter_cleared (st : DoorState) (x : Door) : (Door.enter st x).clearTimers = Door.enter st x := rfl

theorem restatedState_ne_waiting (b : Bolt) (p : Position) : restatedState b p ≠ .waiting := fun h => by
  have := restatedState_plain b p
  rw [h] at this
  cases this

section
variable {s : State} {d : DoorNo}

theorem State.door_restate_unlinked (hl : (s.door d).sweep = none) (hs : (s.door d).state = .waiting) :
    (s.restate d).door d = Door.enter (restatedState (s.door d).bolt (s.door d).position) (s.door d) := by
  have hne : (s.door d).state ≠ restatedState (s.door d).bolt (s.door d).position := by
    rw [hs]
    exact (restatedState_ne_waiting _ _).symm
  rw [State.restate, State.door_updDoor, if_pos rfl, State.changeState_unlinked hl, if_neg hne]
  rw [State.door_rederive, State.door_updDoor, if_pos rfl, Door.enter_cleared]

theorem State.cancelDoor_waiting {c : Count} (hk : ¬ ((s.door d).keepOpen = true ∨ c = .held))
    (hs : (s.door d).state = .waiting) : s.cancelDoor (d, c) = s.withdrawEntry d := by
  refine (if_neg hk).trans ?_
  rw [hs]

theorem State.cancelDoor_ajar {c : Count} (hk : ¬ ((s.door d).keepOpen = true ∨ c = .held))
    (hs : (s.door d).state = .ajar) :
    s.cancelDoor (d, c) = (s.changeState d .released).updDoor d Door.noIntent := by
  refine (if_neg hk).trans ?_
  rw [hs]

theorem State.cancelDoor_other {c : Count} (hk : ¬ ((s.door d).keepOpen = true ∨ c = .held))
    (hw : (s.door d).state ≠ .waiting) (ha : (s.door d).state ≠ .ajar) :
    s.cancelDoor (d, c) = s.updDoor d Door.noIntent := by
  refine (if_neg hk).trans ?_
  cases hs : (s.door d).state with
  | waiting => exact absurd hs hw
  | ajar => exact absurd hs ha
  | _ => rfl

theorem State.door_noIntent (s : State) (d : DoorNo) : (s.updDoor d Door.noIntent).door d = (s.door d).noIntent := by
  rw [State.door_updDoor, if_pos rfl]

/-- A withdrawn door stands as it is re-stated, without its intent (R78). -/
theorem State.door_withdrawEntry (hl : (s.door d).sweep = none) (hw : s.WorkAt d) (hs : (s.door d).state = .waiting) :
    (s.withdrawEntry d).door d = (Door.enter (restatedState (s.door d).bolt (s.door d).position) (s.door d)).noIntent := by
  have hbefore : Moves Touch.all s (((s.dropEntry d).restate d).updDoor d Door.noIntent) :=
    ((Moves.leave trivial hs (restatedState_plain _ _)).trans
      (Moves.clearRestated trivial (s.dropEntry d) _ (restatedState_plain _ _))).trans (.door trivial (by intros; rfl))
  have hdoor : (((s.dropEntry d).restate d).updDoor d Door.noIntent).door d =
      (Door.enter (restatedState (s.door d).bolt (s.door d).position) (s.door d)).noIntent := by
    rw [State.door_noIntent, State.door_restate_unlinked (s := s.dropEntry d) hl hs]
    rfl
  have hcons : Moves Touch.nothing (((s.dropEntry d).restate d).updDoor d Door.noIntent) (s.withdrawEntry d) :=
    .considerDoor d
  cases hcons.spared id (hbefore.workAt hw) with
  | stands hd => rw [hd, hdoor]
  | granted hg =>
    rw [hdoor] at hg
    exact absurd hg (restatedState_ne_waiting _ _)

theorem State.door_cancelDoor (hl : (s.door d).sweep = none) (hw : s.WorkAt d) (c : Count) :
    (s.cancelDoor (d, c)).door d = Door.cancelled c (s.door d) := by
  by_cases hk : (s.door d).keepOpen = true ∨ c = .held
  · rw [show s.cancelDoor (d, c) = s from if_pos hk, Door.cancelled, if_pos hk]
  · rw [Door.cancelled, if_neg hk]
    cases hs : (s.door d).state with
    | waiting => rw [State.cancelDoor_waiting hk hs, State.door_withdrawEntry hl hw hs]
    | ajar =>
      rw [State.cancelDoor_ajar hk hs, State.door_noIntent, State.changeState_unlinked hl,
        if_neg (by rw [hs]; decide), State.door_rederive, State.door_updDoor, if_pos rfl]
    | _ =>
      have hnw : (s.door d).state ≠ .waiting := by rw [hs]; decide
      have hna : (s.door d).state ≠ .ajar := by rw [hs]; decide
      rw [State.cancelDoor_other hk hnw hna, State.door_noIntent]

end

/-- What a cancel leaves of a door that its sweep linked with a count (R78, R89). -/
def State.LeftByCancel (s t : State) (d : DoorNo) (c : Count) : Prop :=
  let x := s.door d
  let y := t.door d
  y.sweep = none ∧ y.health = x.health ∧ y.position = x.position ∧ y.bolt = x.bolt ∧
  if x.keepOpen = true ∨ c = .held then
    y.intent = x.intent ∧ y.keepOpen = x.keepOpen ∧ y.attempts = x.attempts ∧
    (y.state = x.state ∨ (x.state = .waiting ∧ y.state = .acting))
  else
    y.intent = .none ∧ y.keepOpen = false ∧ y.attempts = x.attempts ∧
    match x.state with
    | .waiting => (y.state = restatedState x.bolt x.position ∧ t.entry d = none) ∨
        ((s.trunk x.trunk).mode = .running ∧ y.state = .acting ∧ t.entry d = none)
    | .ajar => y.state = .released ∧ y.reminder = none
    | .acting => y.state = .acting ∧ t.record d = s.record d
    | st => y.state = st

/-- The door that a cancel takes from its sweep's direction. -/
theorem Door.cancelled_spec {x : Door} {c : Count} (h : ¬ (x.keepOpen = true ∨ c = .held)) :
    let y := Door.cancelled c x
    (y.sweep = x.sweep ∧ y.health = x.health ∧ y.position = x.position ∧ y.bolt = x.bolt) ∧
    (y.intent = .none ∧ y.keepOpen = false ∧ y.attempts = x.attempts) ∧
    match x.state with
    | .waiting => y.state = restatedState x.bolt x.position
    | .ajar => y.state = .released ∧ y.reminder = none
    | st => y.state = st := by
  dsimp only
  rw [Door.cancelled, if_neg h]
  cases hs : x.state with
  | waiting => exact ⟨⟨rfl, rfl, rfl, rfl⟩, ⟨rfl, rfl, rfl⟩, rfl⟩
  | ajar => exact ⟨⟨rfl, rfl, rfl, rfl⟩, ⟨rfl, rfl, rfl⟩, rfl, rfl⟩
  | _ => exact ⟨⟨rfl, rfl, rfl, rfl⟩, ⟨rfl, rfl, rfl⟩, hs⟩

theorem Door.cancelled_ne_waiting {x : Door} {c : Count} (h : ¬ (x.keepOpen = true ∨ c = .held)) :
    (Door.cancelled c x).state ≠ .waiting := by
  obtain ⟨-, -, hs⟩ := Door.cancelled_spec h
  intro hw
  cases hx : x.state with
  | waiting => rw [hx, hw] at hs; exact restatedState_ne_waiting _ _ hs.symm
  | ajar => rw [hx, hw] at hs; cases hs.1
  | _ => rw [hx, hw] at hs; cases hs

theorem State.record_cancelDoor {s : State} {d : DoorNo} (hs : (s.door d).state = .acting) (c : Count) :
    (s.cancelDoor (d, c)).record d = s.record d := by
  by_cases hk : (s.door d).keepOpen = true ∨ c = .held
  · rw [show s.cancelDoor (d, c) = s from if_pos hk]
  · rw [State.cancelDoor_other hk (by rw [hs]; decide) (by rw [hs]; decide)]
    show recordOf d ((s.updDoor d Door.noIntent).trunk ((s.updDoor d Door.noIntent).door d).trunk).inFlight = _
    rw [State.doorTrunk_updDoor s d (f := Door.noIntent) fun _ => rfl]
    rfl

theorem State.cancelDoor_kept {s : State} {d : DoorNo} {c : Count} (h : (s.door d).keepOpen = true ∨ c = .held) :
    s.cancelDoor (d, c) = s := if_pos h

/-- Every touch but a door's. -/
def Touch.butDoor (d : DoorNo) : Touch := ⟨(· ≠ d), fun _ => False, fun _ => False⟩

theorem Touch.not_door_butDoor (d : DoorNo) : ¬ (Touch.butDoor d).door d := fun h => h rfl

/-- A door's turn among the doors of a cancelled sweep. -/
theorem State.leftByCancel_turn {s p q : State} {d : DoorNo} {c : Count} (hl : s.WorkAt d)
    (hlink : (s.door d).sweep = none) (hp : Moves (Touch.butDoor d) s p)
    (hq : Moves (Touch.butDoor d) (p.cancelDoor (d, c)) q) : s.LeftByCancel q d c := by
  have hturn : Moves Touch.all p (p.cancelDoor (d, c)) := .cancelDoor trivial
  have hlp := hp.workAt hl
  have hlt := hturn.workAt hlp
  have hlq := hq.workAt hlt
  have hq' := hq.spared (Touch.not_door_butDoor d) hlt
  have hx : (p.door d).keepOpen = (s.door d).keepOpen ∧ (p.door d).sweep = none := by
    obtain ⟨-, hk, hs, -⟩ := hp.marks_outside (Touch.not_door_butDoor d)
    exact ⟨hk, hs.trans hlink⟩
  unfold State.LeftByCancel
  dsimp only
  by_cases hk : (s.door d).keepOpen = true ∨ c = .held
  · rw [if_pos hk]
    rw [State.cancelDoor_kept (by rw [hx.1]; exact hk)] at hq'
    cases (hp.spared (Touch.not_door_butDoor d) hl).trans hq' with
    | stands hd => rw [hd]; exact ⟨hlink, rfl, rfl, rfl, rfl, rfl, rfl, .inl rfl⟩
    | granted hw _ hd => rw [hd]; exact ⟨hlink, rfl, rfl, rfl, rfl, rfl, rfl, .inr ⟨hw, rfl⟩⟩
  rw [if_neg hk]
  have hdoor := State.door_cancelDoor hx.2 hlp c
  have hk' : ¬ ((p.door d).keepOpen = true ∨ c = .held) := by rw [hx.1]; exact hk
  have hstand : q.door d = Door.cancelled c (p.door d) ∧ q.record d = (p.cancelDoor (d, c)).record d := by
    cases hq' with
    | stands hd _ hr => exact ⟨hd.trans hdoor, hr⟩
    | granted hw => rw [hdoor] at hw; exact absurd hw (Door.cancelled_ne_waiting hk')
  obtain ⟨hqd, hqr⟩ := hstand
  obtain ⟨⟨hs1, hs2, hs3, hs4⟩, ⟨hm1, hm2, hm3⟩, hstate⟩ := Door.cancelled_spec hk'
  rw [← hqd] at hs1 hs2 hs3 hs4 hm1 hm2 hm3 hstate
  have hentry : q.entry d = none := hlq.no_entry (by rw [hqd]; exact Door.cancelled_ne_waiting hk')
  cases hp.spared (Touch.not_door_butDoor d) hl with
  | stands hd he hr =>
    rw [hd] at hs1 hs2 hs3 hs4 hm3 hstate
    refine ⟨hs1.trans hlink, hs2, hs3, hs4, hm1, hm2, hm3, ?_⟩
    cases hs : (s.door d).state with
    | waiting => rw [hs] at hstate; exact .inl ⟨hstate, hentry⟩
    | acting =>
      rw [hs] at hstate
      exact ⟨hstate, hqr.trans ((State.record_cancelDoor (by rw [hd, hs]) c).trans hr)⟩
    | _ => rw [hs] at hstate; exact hstate
  | granted hw he hd hn hr =>
    have hrun := (hp.granted_running (Touch.not_door_butDoor d) hl hw).resolve_left fun h => by rw [hd] at h; cases h
    rw [hd] at hs1 hs2 hs3 hs4 hm3 hstate
    refine ⟨hs1.trans hlink, hs2, hs3, hs4, hm1, hm2, hm3, ?_⟩
    rw [hw]
    exact .inr ⟨hrun, hstate, hentry⟩

end Sys2Proof.Machine


namespace Sys2Proof.Machine

theorem State.linkedDoors_nodup (s : State) (k : SlotNo) : (s.linkedDoors k).Nodup := by
  refine List.Nodup.filterMap (fun d e x hd he => ?_) ?_
  · obtain ⟨l, -, rfl⟩ := Option.map_eq_some_iff.mp hd
    obtain ⟨m, -, hm⟩ := Option.map_eq_some_iff.mp he
    exact (congrArg Prod.fst hm).symm
  · rw [State.inRankOrder, (sortByKey_perm _ _).nodup_iff, State.doorsWhere_eq]
    exact (List.nodup_finRange 256).filter _

/-- A door of the cancelled sweep has one turn. -/
theorem State.leftByCancel_walk {s : State} {d : DoorNo} {c : Count} {l : List (DoorNo × Count)} (hl : s.WorkAt d)
    (hlink : (s.door d).sweep = none) (hm : (d, c) ∈ l) (hn : l.Nodup) (hone : ∀ c', (d, c') ∈ l → c' = c) :
    s.LeftByCancel (forEach l State.cancelDoor s) d c := by
  obtain ⟨pre, post, rfl⟩ := List.append_of_mem hm
  have hne : ∀ e ∈ pre ++ post, e.1 ≠ d := fun e he hd => by
    have hmem : e ∈ pre ++ (d, c) :: post := by
      rcases List.mem_append.mp he with h | h
      · exact List.mem_append_left _ h
      · exact List.mem_append_right _ (List.mem_cons_of_mem _ h)
    have : e = (d, c) := by
      obtain ⟨e1, e2⟩ := e
      dsimp only at hd
      subst hd
      rw [hone e2 hmem]
    rw [this] at he
    exact (List.nodup_middle.mp hn).notMem he
  rw [forEach_append]
  exact State.leftByCancel_turn hl hlink
    (.forEach pre fun e he _ => .cancelDoor (hne e (List.mem_append_left _ he)))
    (.forEach post fun e he _ => .cancelDoor (hne e (List.mem_append_right _ he)))

section
variable {s : State} {k : SlotNo} {w : Sweep}

/-- The cancel of a sweep in ACTIVE, door by door (R78). -/
theorem State.leftByCancel (hl : s.WorkLaw) (hc : s.CountLaw) (hw : s.slot k = some w) (ha : w.phase = .active)
    {d : DoorNo} {c : Count} (hs : (s.door d).sweep = some ⟨k, c⟩) : s.LeftByCancel (s.cancelSweep k) d c := by
  have hmem : (d, c) ∈ s.linkedDoors k := State.mem_linkedDoors.mpr ⟨(hc.1 d _ hs).1, hs⟩
  have hdoor : (s.unlinkAll k).door d = { s.door d with sweep := none } := by
    rw [State.door_unlinkAll, if_pos (by simp [Door.linkedTo, hs])]
  have hleft : (s.unlinkAll k).LeftByCancel (s.stopSweep k w) d c := by
    rw [State.stopSweep_active ha]
    refine State.leftByCancel_walk ?_ (by rw [hdoor]) hmem (s.linkedDoors_nodup k) fun c' hc' => ?_
    · exact (Moves.unlinkAll (A := Touch.all) fun _ _ => trivial).workAt (hl d)
    · have := (State.mem_linkedDoors.mp hc').2
      rw [hs] at this
      cases this
      rfl
  have hrecord : (s.unlinkAll k).record d = s.record d := by
    rw [State.record, hdoor]
    rfl
  unfold State.LeftByCancel at hleft ⊢
  rw [hrecord, hdoor] at hleft
  rw [State.entry, State.record, State.door_cancelSweep hw, State.trunk_cancelSweep hw]
  exact hleft

theorem zonesOf_oneZone (z : ZoneNo) : zonesOf (oneZone z) = [z] := by
  revert z
  decide

theorem oneZone_ne_zero (z : ZoneNo) : oneZone z ≠ 0 := by
  revert z
  decide

/-- CANCEL of one zone, with no zone waiting, is the cancel of its sweep (R76). -/
theorem exec_cancel_oneZone (hs : s.SweepLaw) (hw : s.slot k = some w) (hm : ∀ y, (s.zone y).marker = none) :
    ∃ a, exec (.cancel (oneZone w.zone)) s = .next { s.later.cancelSweep k with blockResult := some a } := by
  have hslots : s.later.sweptSlots (oneZone w.zone) = [k] := by
    rw [State.sweptSlots, zonesOf_oneZone, List.filterMap_cons, State.sweepOf_eq_some (s := s.later) hs hw]
    rfl
  have hcancel : (s.later.withoutMarkers (oneZone w.zone)).cancelSlots (s.later.sweptSlots (oneZone w.zone)) =
      s.later.cancelSweep k := by
    rw [State.withoutMarkers_unmarked (s := s.later) hm, hslots]
    rfl
  have heq := takeCancel_eq (oneZone_ne_zero w.zone) s.later
  rw [hcancel, State.offerSlots_unmarked fun z => ?_] at heq
  · rw [exec_cancel, answered_taken heq]
    exact ⟨_, rfl⟩
  · rw [(State.cancelled (s := s.later) hw).markers]
    exact hm z

/-- The cancel of a warning touches no door (R77). -/
theorem State.doors_cancelSweep {n : Countdown} (hw : s.slot k = some w) (hn : w.phase = .warning n) :
    (s.cancelSweep k).doors = s.doors := by
  rw [State.cancelSweep_eq hw, State.doors_loadUnder, State.stopSweep_warning hn, State.placeWarns_rest]
  rfl

end

/-- Settles O30: the markers and the sweeps of the named zones go, each sweep is told of, and a single cancel leaves its
doors as R77 and R78 say. -/
theorem cancelWithdrawsMarkersAndSweeps : Obligations.CancelWithdrawsMarkersAndSweeps := by
  refine ⟨cancel_spec, fun s k w hw hs hc hl hm => ?_⟩
  obtain ⟨a, ha⟩ := exec_cancel_oneZone hs hw hm
  refine ⟨_, ha, (State.cancelled (s := s.later) hw).slots, fun n hn => ⟨?doors, fun d hd hc hh => ?warned⟩,
    fun d l hd hlk => ?left⟩
  case doors =>
    have := State.doors_cancelSweep (s := s.later) hw hn
    exact this
  case warned => exact State.warned_cancelSweep (s := s.later) hw hn hd hc hh
  case left =>
    obtain ⟨j, c⟩ := l
    obtain rfl : j = k := hlk
    obtain ⟨-, -, v, hv, hact, -⟩ := hc.1 d _ hd
    obtain rfl : w = v := Option.some.inj (hw.symm.trans hv)
    have := State.leftByCancel (s := s.later) hl hc hw hact hd
    exact this

end Sys2Proof.Machine


namespace Sys2Proof.Machine

/-! ### A second event with no end to take (R145, R146) -/

theorem forEach_nil {α : Type} (f : α → State → State) (s : State) : forEach [] f s = s := rfl

theorem Countdown.tick_eq_less (c : Countdown) : c.tick = c.less := by
  by_cases h : 2 ≤ c.left
  · rw [Countdown.tick, Countdown.less, if_neg (by omega), if_pos h]
  · rw [Countdown.tick, Countdown.less, if_pos (by omega), if_neg h]

theorem Sweep.minute_eq (w : Sweep) : w.minute = { w with phase := match w.phase with
    | .warning c => .warning c.less
    | .active => .active } := by
  obtain ⟨z, dir, o, p, n, counts⟩ := w
  cases p with
  | warning c => exact congrArg (fun c => (⟨z, dir, o, .warning c, n, counts⟩ : Sweep)) c.tick_eq_less
  | active => rfl

theorem State.takeEnds_none {s : State} (h : s.NoEnds) : s.takeEnds = s := by
  obtain ⟨hd, hw, hh⟩ := h
  have hnone : ∀ p : Door → Bool, (∀ d, p (s.door d) = false) → s.doorsWhere (fun _ x => p x) = [] := fun p hp =>
    List.eq_nil_iff_forall_not_mem.mpr fun d hm => by
      have := (State.mem_doorsWhere.mp hm).2
      rw [hp d] at this
      cases this
  have hwarn : s.spentWarnings = [] := by
    rw [State.spentWarnings, List.map_eq_nil_iff, List.filter_eq_nil_iff]
    rintro ⟨k, w⟩ hm
    rw [hw k w (State.mem_sweeps.mp hm)]
    decide
  have hhold : s.spentHolds = [] := by
    rw [State.spentHolds, List.map_eq_nil_iff, List.filter_eq_nil_iff]
    intro x hx
    rw [hh x hx]
    decide
  unfold State.takeEnds
  rw [hnone _ fun d => (hd d).1]
  dsimp only [forEach_nil]
  rw [hnone _ fun d => (hd d).2.1]
  dsimp only [forEach_nil]
  rw [hnone _ fun d => (hd d).2.2]
  dsimp only [forEach_nil]
  rw [hwarn]
  dsimp only [forEach_nil]
  rw [hhold]
  rfl

theorem Countdown.map_tick (o : Option Countdown) : o.map Countdown.tick = o.map Countdown.less :=
  congrArg (Option.map · o) (funext Countdown.tick_eq_less)

theorem State.second_eq (s : State) : { s with doors := mapAll Door.second s.doors } = s.secondLess := by
  have : Door.second = fun x => { x with
      passage := x.passage.map Countdown.less, allowance := x.allowance.map Countdown.less } := funext fun x => by
    rw [Door.second, Countdown.map_tick, Countdown.map_tick]
  rw [mapAll_eq_map, this]
  rfl

theorem State.countMinute_eq (s : State) : s.countMinute = s.minuteLess := by
  have hd : Door.minute = fun x => { x with reminder := x.reminder.map Countdown.less } := funext fun x => by
    rw [Door.minute, Countdown.map_tick]
  have hw : Sweep.minute = fun w => { w with phase := match w.phase with
      | .warning c => .warning c.less
      | .active => .active } := funext Sweep.minute_eq
  have hh : Hold.minute = fun h => { h with remaining := h.remaining.map Countdown.less } := funext fun h => by
    rw [Hold.minute, Countdown.map_tick]
  rw [State.countMinute, mapAll_eq_map, hd, hw, hh]
  rfl

theorem exec_secondEvent {s : State} (hr : s.clock.restarted = false) (hn : s.NoEnds) :
    exec .secondEvent s = .next s.secondLess.advanceClock := by
  have hsecond : s.secondEvent = s.secondLess.advanceClock := by
    unfold State.secondEvent
    dsimp only
    rw [State.takeEnds_none hn, State.second_eq]
  show Host.Outcome.next s.completeSecond = _
  rw [State.completeSecond, if_neg (by rw [hr]; decide), hsecond]

/-- A minute boundary that is no rollover: its counts, then the schedule (R146; log 5). -/
theorem exec_secondEvent_minute {s : State} (hr : s.clock.restarted = false) (hn : s.NoEnds) (hs : s.clock.seconds < 86399)
    (hm : (s.clock.seconds + 1) % 60 = 0) : exec .secondEvent s = .next s.countedDown.giveSchedule := by
  have hless : s.countedDown = State.minuteLess { s.secondLess with clock := { s.clock with seconds := s.clock.seconds + 1 } } :=
    if_pos hm
  have hadv : s.secondLess.advanceClock =
      State.minuteBoundary { s.secondLess with clock := { s.clock with seconds := s.clock.seconds + 1 } } :=
    (if_pos (show s.secondLess.clock.seconds < Config.lastSecond from hs)).trans (if_pos hm)
  rw [exec_secondEvent hr hn, hadv, State.minuteBoundary, State.countMinute_eq, hless]

end Sys2Proof.Machine


namespace Sys2Proof.Machine

/-! ### The giving of a due marker, case by case (R55, R56) -/

section
variable {s : State} {z : ZoneNo} {dir : Direction}

theorem State.give_declined (hd : dir = .lock) (hb : s.Barred z) (o : Origin) : s.give z dir o = (s, .declined) :=
  if_pos ⟨hd, State.fireBarred_iff.mpr hb⟩

/-- A giving that is not declined. -/
theorem State.give_eq (hb : dir = .lock → ¬ s.Barred z) (o : Origin) : s.give z dir o =
    match s.sweepOf z with
    | some (k, w) => if w.direction = dir then (s, .ignored) else ((s.cancelSweep k).startSweep k z dir o, .reversed)
    | none => match s.freeSlot with
      | some k => (s.startSweep k z dir o, .started)
      | none => (s.recordMarker z dir o, .waiting) :=
  if_neg fun h => hb h.1 (State.fireBarred_iff.mp h.2)

theorem State.give_ignored (hb : dir = .lock → ¬ s.Barred z) {k : SlotNo} {w : Sweep}
    (hs : s.sweepOf z = some (k, w)) (hd : w.direction = dir) (o : Origin) : s.give z dir o = (s, .ignored) := by
  rw [State.give_eq hb, hs]
  exact if_pos hd

theorem State.freeSlot_eq_some {k : SlotNo} (hk : s.slot k = none) (hlow : ∀ j, j < k → s.slot j ≠ none) :
    s.freeSlot = some k := by
  obtain ⟨j, hj⟩ : ∃ j, s.freeSlot = some j :=
    Option.isSome_iff_exists.mp (List.find?_isSome.mpr ⟨k, List.mem_finRange k, by rw [hk]; rfl⟩)
  have hfree : s.slot j = none := Option.isNone_iff_eq_none.mp (List.find?_some (p := fun k => (s.slot k).isNone) hj)
  obtain ⟨-, l, m, hl, hnot⟩ := List.find?_eq_some_iff_append.mp hj
  have hpair := finRange_pairwise 8
  have hmem := List.mem_finRange k
  rw [hl] at hpair hmem
  rcases List.mem_append.mp hmem with h | h
  · have := hnot k h
    rw [hk] at this
    cases this
  · rcases List.mem_cons.mp h with rfl | h
    · exact hj
    · exact absurd hfree (hlow j ((List.pairwise_cons.mp (List.pairwise_append.mp hpair).2.1).1 k h))

theorem State.freeSlot_eq_none (h : ∀ k, s.slot k ≠ none) : s.freeSlot = none :=
  List.find?_eq_none.mpr fun k _ hk => h k (Option.isNone_iff_eq_none.mp hk)

theorem State.give_started (hb : dir = .lock → ¬ s.Barred z) (hs : ¬ s.HasSweep z) {k : SlotNo} (hk : s.slot k = none)
    (hlow : ∀ j, j < k → s.slot j ≠ none) (o : Origin) : s.give z dir o = (s.startSweep k z dir o, .started) := by
  rw [State.give_eq hb, State.sweepOf_eq_none.mpr hs, State.freeSlot_eq_some hk hlow]

theorem State.give_waiting (hb : dir = .lock → ¬ s.Barred z) (hs : ¬ s.HasSweep z) (hk : ∀ k, s.slot k ≠ none)
    (o : Origin) : s.give z dir o = (s.recordMarker z dir o, .waiting) := by
  rw [State.give_eq hb, State.sweepOf_eq_none.mpr hs, State.freeSlot_eq_none hk]

/-- The record of a marker (R58). -/
theorem State.recordMarker_eq (s : State) (z : ZoneNo) (dir : Direction) (o : Origin) : s.recordMarker z dir o = { s with
    zones := s.zones.set z.val { s.zone z with marker := some ⟨dir, o⟩ }
    noticeSet := s.noticeSet.raise s.clock.stamp .sweepWaiting (.zone z) (.sweepWaiting dir o
      ((List.finRange 32).filter (fun y => decide (y = z) || (s.zone y).marker.isSome)).length) } := by
  have hw : (s.updZone z (fun x => { x with marker := some ⟨dir, o⟩ })).waitingZones =
      (List.finRange 32).filter (fun y => decide (y = z) || (s.zone y).marker.isSome) := by
    refine List.filter_congr fun y _ => ?_
    rw [State.zone_updZone]
    split
    · next h => rw [h]; simp
    · next h => simp [h]
  unfold State.recordMarker
  dsimp only
  rw [hw]
  rfl

end

/-! ### The schedule of a minute that one zone names (R45) -/

/-- A walk over different zones of which one has an event. -/
theorem filterMap_eq_one {α β : Type} {f : α → Option β} {l : List α} {a : α} (hn : l.Nodup) (ha : a ∈ l)
    (h : ∀ b ∈ l, b ≠ a → f b = none) : l.filterMap f = (f a).toList := by
  obtain ⟨pre, post, rfl⟩ := List.append_of_mem ha
  have hne : ∀ b ∈ pre ++ post, b ≠ a := fun b hb e => (List.nodup_middle.mp hn).notMem (e ▸ hb)
  have hnone : ∀ m : List α, (∀ b ∈ m, f b = none) → m.filterMap f = [] := fun m hm =>
    List.filterMap_eq_nil_iff.mpr hm
  rw [List.filterMap_append, List.filterMap_cons, hnone pre fun b hb => ?_, hnone post fun b hb => ?_]
  · cases f a <;> rfl
  · exact h b (List.mem_append_right _ (List.mem_cons_of_mem _ hb)) (hne b (List.mem_append_right _ hb))
  · exact h b (List.mem_append_left _ hb) (hne b (List.mem_append_left _ hb))

section
variable {s : State} {z : ZoneNo} {dir : Direction}

theorem State.giveSchedule_one (hv : s.clock.valid = true) (h : ∀ y, y ≠ z → s.scheduleDue y = none) :
    s.giveSchedule = match s.scheduleDue z with
      | none => s
      | some e => (s.give e.1 e.2 .schedule).1 := by
  have hl : (List.finRange 32).filterMap s.scheduleDue = (s.scheduleDue z).toList :=
    filterMap_eq_one (List.nodup_finRange 32) (List.mem_finRange z) fun y _ hy => h y hy
  rw [State.giveSchedule, if_pos hv, hl]
  cases s.scheduleDue z with
  | none => rfl
  | some e => rfl

theorem State.giveSchedule_idle (h : s.clock.valid = true → ∀ y, s.scheduleDue y = none) : s.giveSchedule = s := by
  by_cases hv : s.clock.valid = true
  · rw [State.giveSchedule_one (z := 0) hv fun y _ => h hv y, h hv 0]
  · exact if_neg hv

/-- What the plan of a zone names for the minute (R45). -/
theorem State.dueAt_none (h : ∀ dir, ¬ s.planNames z s.clock.dayType s.clock.minute dir) :
    ((s.zone z).live.get s.clock.dayType).dueAt s.clock.minute = none :=
  (if_neg (h .lock)).trans (if_neg (h .release))

theorem State.dueAt_some (h : s.planNames z s.clock.dayType s.clock.minute dir)
    (hne : dir = .release → ¬ s.planNames z s.clock.dayType s.clock.minute .lock) :
    ((s.zone z).live.get s.clock.dayType).dueAt s.clock.minute = some dir := by
  cases dir with
  | lock => exact if_pos h
  | release => exact (if_neg (hne rfl)).trans (if_pos h)

theorem State.scheduleDue_none (h : ∀ dir, ¬ s.planNames z s.clock.dayType s.clock.minute dir) : s.scheduleDue z = none := by
  unfold State.scheduleDue
  rw [State.dueAt_none h]

theorem State.scheduleDue_barred (h : s.planNames z s.clock.dayType s.clock.minute .lock) (hb : s.Barred z) :
    s.scheduleDue z = none := by
  unfold State.scheduleDue
  rw [State.dueAt_some h fun e => nomatch e]
  exact if_pos (State.fireBarred_iff.mpr hb)

theorem State.scheduleDue_some (h : s.planNames z s.clock.dayType s.clock.minute dir)
    (hne : dir = .release → ¬ s.planNames z s.clock.dayType s.clock.minute .lock) (hb : dir = .lock → ¬ s.Barred z) :
    s.scheduleDue z = some (z, dir) := by
  unfold State.scheduleDue
  rw [State.dueAt_some h hne]
  cases dir with
  | lock => exact if_neg fun g => hb rfl (State.fireBarred_iff.mp g)
  | release => rfl

end

end Sys2Proof.Machine


namespace Sys2Proof.Machine

/-! ### What the counts of a second and of a minute leave (R145, R146) -/

/-- Counts have fallen, of doors, sweeps and holds; what a giving reads stands. -/
structure State.Counted (s u : State) : Prop where
  zones : u.zones = s.zones
  notices : u.noticeSet = s.noticeSet
  trunks : u.trunks = s.trunks
  fire : u.fire = s.fire
  doors : ∀ d, (u.door d).configured = (s.door d).configured ∧ (u.door d).zone = (s.door d).zone ∧
    (u.door d).chime = (s.door d).chime ∧ (u.door d).fire = (s.door d).fire ∧ (u.door d).trunk = (s.door d).trunk
  slots : ∀ k, ∃ p : Sweep → Phase, u.slot k = (s.slot k).map (fun w => { w with phase := p w })
  held : ∀ d, u.held d = s.held d

theorem State.Counted.trans {s u v : State} (h : s.Counted u) (g : u.Counted v) : s.Counted v where
  zones := g.zones.trans h.zones
  notices := g.notices.trans h.notices
  trunks := g.trunks.trans h.trunks
  fire := g.fire.trans h.fire
  doors d := by
    obtain ⟨h1, h2, h3, h4, h5⟩ := h.doors d
    obtain ⟨g1, g2, g3, g4, g5⟩ := g.doors d
    exact ⟨g1.trans h1, g2.trans h2, g3.trans h3, g4.trans h4, g5.trans h5⟩
  slots k := by
    obtain ⟨p, hp⟩ := h.slots k
    obtain ⟨q, hq⟩ := g.slots k
    exact ⟨fun w => q { w with phase := p w }, by rw [hq, hp, Option.map_map]; rfl⟩
  held d := (g.held d).trans (h.held d)

theorem State.Counted.of_clock (s : State) (c : Clock) : s.Counted { s with clock := c } :=
  ⟨rfl, rfl, rfl, rfl, fun _ => ⟨rfl, rfl, rfl, rfl, rfl⟩, fun k => ⟨Sweep.phase, by
    show s.slot k = _
    cases s.slot k <;> rfl⟩, fun _ => rfl⟩

theorem State.door_secondLess (s : State) (d : DoorNo) : s.secondLess.door d = { s.door d with
    passage := (s.door d).passage.map Countdown.less, allowance := (s.door d).allowance.map Countdown.less } :=
  Vector.getElem_map _ _

theorem State.door_minuteLess (s : State) (d : DoorNo) : s.minuteLess.door d =
    { s.door d with reminder := (s.door d).reminder.map Countdown.less } := Vector.getElem_map _ _

theorem State.slot_minuteLess (s : State) (k : SlotNo) : s.minuteLess.slot k = (s.slot k).map (fun w => { w with
    phase := match w.phase with
      | .warning c => .warning c.less
      | .active => .active }) := Vector.getElem_map _ _

theorem Hold.covers_congr {h h' : Hold} {d : DoorNo} {x y : Door} (hs : h'.scope = h.scope)
    (hc : y.configured = x.configured) (hz : y.zone = x.zone) : h'.covers d y = h.covers d x := by
  rw [Hold.covers, Hold.covers, hs, hc, hz]

theorem State.Counted.secondLess (s : State) : s.Counted s.secondLess :=
  ⟨rfl, rfl, rfl, rfl, fun d => by rw [State.door_secondLess]; exact ⟨rfl, rfl, rfl, rfl, rfl⟩, fun k =>
    ⟨Sweep.phase, by
      show s.slot k = _
      cases s.slot k <;> rfl⟩, fun d => by
    rw [State.held, State.held, State.door_secondLess]
    rfl⟩

theorem State.Counted.minuteLess (s : State) : s.Counted s.minuteLess :=
  ⟨rfl, rfl, rfl, rfl, fun d => by rw [State.door_minuteLess]; exact ⟨rfl, rfl, rfl, rfl, rfl⟩,
    fun k => ⟨_, State.slot_minuteLess s k⟩, fun d => by
    rw [State.held, State.held, State.door_minuteLess]
    exact List.any_map⟩

/-- A second that ends a minute. -/
theorem State.Counted.countedDown {s : State} (hm : (s.clock.seconds + 1) % 60 = 0) :
    s.Counted s.countedDown := by
  have heq : s.countedDown = State.minuteLess { s.secondLess with clock := { s.clock with seconds := s.clock.seconds + 1 } } :=
    if_pos hm
  rw [heq]
  exact ((Counted.secondLess s).trans (.of_clock _ _)).trans (.minuteLess _)

namespace State.Counted

variable {s u : State} (h : s.Counted u)
include h

theorem zone (z : ZoneNo) : u.zone z = s.zone z := by rw [State.zone, State.zone, h.zones]

theorem trunk (v : Trunk) : u.trunk v = s.trunk v := by rw [State.trunk, State.trunk, h.trunks]

theorem isDoorOf (z : ZoneNo) (d : DoorNo) : u.IsDoorOf z d ↔ s.IsDoorOf z d := by
  obtain ⟨hc, hz, -⟩ := h.doors d
  rw [State.IsDoorOf, State.IsDoorOf, hc, hz]

theorem barred (z : ZoneNo) : u.Barred z ↔ s.Barred z := by
  unfold State.Barred
  simp only [h.fire, (h.doors _).1, (h.doors _).2.1, (h.doors _).2.2.2.1]

theorem slot_none (k : SlotNo) : u.slot k = none ↔ s.slot k = none := by
  obtain ⟨p, hp⟩ := h.slots k
  rw [hp, Option.map_eq_none_iff]

/-- The sweeps stand but for their phases. -/
theorem slot_some {k : SlotNo} {w : Sweep} (hw : u.slot k = some w) :
    ∃ v, s.slot k = some v ∧ v.zone = w.zone ∧ v.direction = w.direction := by
  obtain ⟨p, hp⟩ := h.slots k
  rw [hp] at hw
  obtain ⟨v, hv, rfl⟩ := Option.map_eq_some_iff.mp hw
  exact ⟨v, hv, rfl, rfl⟩

theorem slot_of_some {k : SlotNo} {w : Sweep} (hw : s.slot k = some w) :
    ∃ v, u.slot k = some v ∧ v.zone = w.zone ∧ v.direction = w.direction := by
  obtain ⟨p, hp⟩ := h.slots k
  rw [hw] at hp
  exact ⟨_, hp, rfl, rfl⟩

theorem not_hasSweep {z : ZoneNo} (hs : ¬ s.HasSweep z) : ¬ u.HasSweep z := by
  rintro ⟨k, hk⟩
  obtain ⟨w, hw, hz⟩ := Option.map_eq_some_iff.mp hk
  obtain ⟨v, hv, hvz, -⟩ := h.slot_some hw
  exact hs ⟨k, by rw [hv, ← hz, ← hvz]; rfl⟩

theorem sweepLaw (hs : s.SweepLaw) : u.SweepLaw := by
  refine ⟨fun j k v hv w hw hz => ?_, fun k w hw => ?_⟩
  · obtain ⟨v', hv', hvz, -⟩ := h.slot_some hv
    obtain ⟨w', hw', hwz, -⟩ := h.slot_some hw
    exact hs.1 j k v' hv' w' hw' (hvz.trans (hz.trans hwz.symm))
  · obtain ⟨w', hw', hwz, -⟩ := h.slot_some hw
    rw [h.zone, ← hwz]
    exact hs.2 k w' hw'

theorem planNames (z : ZoneNo) (day : DayType) (m : Nat) (dir : Direction) :
    u.planNames z day m dir ↔ s.planNames z day m dir := by
  unfold State.planNames
  rw [h.zone]

end State.Counted

end Sys2Proof.Machine


namespace Sys2Proof.Machine

/-! ### The schedule event of one zone (R45, R55 to R65) -/

theorem State.clock_countedDown {s : State} (hm : (s.clock.seconds + 1) % 60 = 0) :
    s.countedDown.clock = { s.clock with seconds := s.clock.seconds + 1 } := by
  have heq : s.countedDown = State.minuteLess { s.secondLess with clock := { s.clock with seconds := s.clock.seconds + 1 } } :=
    if_pos hm
  rw [heq]
  rfl

theorem State.isWarned_schedule {s : State} {z : ZoneNo} (h : (s.zone z).lead ≠ 0) : s.isWarned z .lock .schedule = true :=
  (State.isWarned_iff s z .lock .schedule).mpr ⟨rfl, h, by decide, by decide⟩

theorem State.not_isWarned {s : State} {z : ZoneNo} {dir : Direction} (h : dir = .release ∨ (s.zone z).lead = 0) (o : Origin) :
    s.isWarned z dir o = false := by
  rw [← Bool.not_eq_true, State.isWarned_iff]
  rintro ⟨hd, hl, -⟩
  rcases h with h | h
  · rw [hd] at h; cases h
  · exact hl h

/-- The start of a warned sweep is not finished (R62, R63). -/
theorem State.startSweep_warned {s : State} {k : SlotNo} {z : ZoneNo} {dir : Direction} {o : Origin}
    (h : s.isWarned z dir o = true) : s.startSweep k z dir o = s.startIn k z dir o :=
  State.finishIfDone_going (State.isFinished_warning (State.slot_startIn_warned h) rfl)

/-- A lockup of the schedule that starts with a warning: what it writes, and its warn entries (R62, R63). -/
theorem State.scheduleWarned {s : State} {z : ZoneNo} {k : SlotNo} (hb : ¬ s.Barred z) (hs : ¬ s.HasSweep z)
    (hl : (s.zone z).lead ≠ 0) :
    let t := s.startSweep k z .lock .schedule
    t = { s with
      slots := s.slots.set k.val (some ⟨z, .lock, .schedule, .warning ⟨(s.zone z).lead, false⟩, 0, ⟨0, 0, 0, 0, 0, 0⟩⟩)
      zones := s.zones.set z.val { s.zone z with marker := none, state := .warning }
      trunks := t.trunks } ∧
    (∀ v, t.trunk v = { s.trunk v with warnList := (t.trunk v).warnList }) ∧
    ∀ d, s.IsDoorOf z d → (s.door d).chime = true → s.held d = false →
      ⟨d, (s.zone z).chime, (s.zone z).lead⟩ ∈ (t.trunk (s.door d).trunk).warnList := by
  have hw := State.isWarned_schedule hl
  have ho : ∀ j v, j ≠ k → s.slot j = some v → v.zone ≠ z := fun j v _ hv hz => hs ⟨j, by rw [hv, ← hz]; rfl⟩
  dsimp only
  rw [State.startSweep_warned hw]
  exact ⟨State.startIn_warned_rest hw ho hb, State.startIn_warned_trunk hw, fun d hd => State.startIn_warned_mem hw hd⟩

/-- Settles O13: the counts of the minute, then the giving of the one zone that the minute is named by. -/
theorem scheduleEventGivesItsMarker : Obligations.ScheduleEventGivesItsMarker := by
  intro s z dir hn hr hsec hv hm hnames hdiff halone hlaw
  dsimp only
  have hc := State.Counted.countedDown hm
  have hclock := State.clock_countedDown hm
  have hday : s.countedDown.clock.dayType = s.clock.dayType := by rw [hclock]
  have hmin : s.countedDown.clock.minute = (s.clock.seconds + 1) / 60 := by rw [hclock]; rfl
  have hvalid : s.countedDown.clock.valid = true := by rw [hclock]; exact hv
  refine ⟨_, exec_secondEvent_minute hr hn hsec hm, ?_⟩
  generalize s.countedDown = u at hc hday hmin hvalid ⊢
  have hiff : ∀ y dir, u.planNames y u.clock.dayType u.clock.minute dir ↔
      s.planNames y s.clock.dayType ((s.clock.seconds + 1) / 60) dir := fun y dir => by rw [hday, hmin]; exact hc.planNames ..
  have hone := State.giveSchedule_one (z := z) hvalid fun y hy => State.scheduleDue_none fun d hd => by
    have := (hiff y d).mp hd
    cases d with
    | lock => exact (halone y hy).1 this
    | release => exact (halone y hy).2 this
  have hrel : dir = .release → ¬ u.planNames z u.clock.dayType u.clock.minute .lock := fun hd hl => by
    subst hd
    exact hdiff (((hiff z .lock).mp hl).trans hnames.symm)
  have hdue := (hiff z dir).mpr hnames
  refine ⟨fun hd hb => ?declined, fun hb => ?_⟩
  case declined =>
    subst hd
    rw [hone, State.scheduleDue_barred hdue ((hc.barred z).mpr hb)]
  have hb' : dir = .lock → ¬ u.Barred z := fun hd h => hb hd ((hc.barred z).mp h)
  rw [hone, State.scheduleDue_some hdue hrel hb']
  refine ⟨fun k w hw hz hd => ?ignored, fun hs hk => ?waiting, fun k hs hk hlow => ?started⟩
  case ignored =>
    obtain ⟨v, hv, hvz, hvd⟩ := hc.slot_of_some hw
    have := State.sweepOf_eq_some (hc.sweepLaw hlaw) hv
    rw [hvz, hz] at this
    dsimp only
    rw [State.give_ignored hb' this (hvd.trans hd)]
  case waiting =>
    dsimp only
    rw [State.give_waiting hb' (hc.not_hasSweep hs) fun k h => hk k ((hc.slot_none k).mp h), State.recordMarker_eq]
    simp only [hc.zone, hc.zones, hc.notices]
  case started =>
    have hs' := hc.not_hasSweep hs
    dsimp only
    rw [State.give_started hb' hs' ((hc.slot_none k).mpr hk) fun j hj h => hlow j hj ((hc.slot_none j).mp h)]
    refine ⟨fun hd hl => ?warned, fun h => ?walked⟩
    case warned =>
      subst hd
      have := State.scheduleWarned (k := k) (hb' rfl) hs' (by rw [hc.zone]; exact hl)
      simp only [hc.zone, hc.zones, hc.trunk, hc.isDoorOf, hc.held, (hc.doors _).2.2.1, (hc.doors _).2.2.2.2] at this
      exact this
    case walked =>
      refine State.walkedTo_startSweep (State.not_isWarned (by rw [hc.zone]; exact h) _) (fun j v _ hv hz => ?_) hb'
      exact hs' ⟨j, by rw [hv, ← hz]; rfl⟩

end Sys2Proof.Machine


namespace Sys2Proof.Machine

/-! ### Givings keep to their zones, and the plans that no sweep's end loads (R42, R55 to R60) -/

namespace State.Tended

variable {A : Touch} {s : State} {z : ZoneNo}

theorem startSweep {k : SlotNo} (h : A.Offers k s) (hz : A.zone z) (dir : Direction) (o : Origin) :
    Tended A s (s.startSweep k z dir o) := by
  have hs : Tended A s (s.startIn k z dir o) := startIn h.slot hz (h.door z hz) dir o
  exact hs.trans (finishIfDone (h.moves hs.moves))

theorem raise (hz : A.zone z) (k : NoticeKind) (v : Detail) : Tended A s (s.raise k (.zone z) v) :=
  ⟨.raise _ _ _, fun _ _ => rfl, (RaisedOf.refl _).raise _ _ hz _, fun _ _ => .refl _⟩

theorem recordMarker (hz : A.zone z) (dir : Direction) (o : Origin) : Tended A s (s.recordMarker z dir o) :=
  (updZone (f := fun x => { x with marker := some ⟨dir, o⟩ }) hz (fun _ => rfl) fun _ => ⟨rfl, rfl, rfl⟩).trans (raise hz _ _)

theorem give (h : ∀ k, A.Offers k s) (hz : A.zone z) (dir : Direction) (o : Origin) : Tended A s (s.give z dir o).1 := by
  unfold State.give
  split
  · exact refl s
  · split
    · next k w hw =>
        split
        · exact refl s
        · have hc : Tended A s (s.cancelSweep k) := .cancelSweep (h k)
          exact hc.trans (startSweep ((h k).moves hc.moves) hz dir o)
    · split
      · next k _ => exact startSweep (h k) hz dir o
      · exact recordMarker hz dir o

theorem giveList (h : ∀ k, A.Offers k s) (o : Origin) (l : List (ZoneNo × Direction)) (hl : ∀ e ∈ l, A.zone e.1) :
    Tended A s (State.giveList o l s).1 := by
  induction l generalizing s with
  | nil => exact refl s
  | cons e l ih =>
    obtain ⟨z, dir⟩ := e
    have hg : Tended A s (s.give z dir o).1 := give h (hl _ List.mem_cons_self) dir o
    exact hg.trans (ih (fun k => (h k).moves hg.moves) fun e he => hl e (List.mem_cons_of_mem _ he))

theorem giveSet (h : ∀ k, A.Offers k s) (o : Origin) (l : List (ZoneNo × Direction)) (hl : ∀ e ∈ l, A.zone e.1) :
    Tended A s (s.giveSet o l).1 := giveList h o _ fun e he => hl e (mem_sortByKey.mp he)

end State.Tended

theorem Touch.offers_all (k : SlotNo) (s : State) : Touch.all.Offers k s :=
  ⟨trivial, fun _ _ => trivial, fun _ _ => trivial, fun _ _ _ _ => trivial, fun _ _ => trivial⟩

theorem State.Tended.giveSchedule (s : State) : Tended Touch.all s s.giveSchedule := by
  unfold State.giveSchedule
  split
  · exact .giveSet (fun k => Touch.offers_all k s) _ _ fun _ _ => trivial
  · exact .refl s

/-! ### The loads of the rollover (R43, R147) -/

theorem State.zone_loadUnder (s : State) (r : LoadRule) (l y : ZoneNo) : (s.loadUnder r l).zone y =
    if ((s.zone l).leader = l ∧ (s.zone l).rule = r) ∧ (s.zone y).leader = l then (s.zone y).load else s.zone y := by
  unfold State.loadUnder
  split
  · next h =>
      rw [State.zone_groupLoad]
      exact ite_congr (propext (and_iff_right h).symm) (fun _ => rfl) fun _ => rfl
  · next h => exact (if_neg fun g => h g.1).symm

theorem Zone.load_leads (x : Zone) : x.load.leader = x.leader ∧ x.load.rule = x.rule := by
  unfold Zone.load
  split <;> exact ⟨rfl, rfl⟩

/-- The loads of groups, leader by leader, load each zone at its leader's turn. -/
theorem State.zone_loads (r : LoadRule) {l : List ZoneNo} (hn : l.Nodup) (s : State) (y : ZoneNo) :
    (forEach l (State.loadUnder r) s).zone y =
      if (s.zone y).leader ∈ l ∧ (s.zone (s.zone y).leader).leader = (s.zone y).leader ∧
          (s.zone (s.zone y).leader).rule = r then (s.zone y).load else s.zone y := by
  induction l generalizing s with
  | nil => exact (if_neg fun h => List.not_mem_nil h.1).symm
  | cons a l ih =>
    obtain ⟨ha, hn⟩ := List.nodup_cons.mp hn
    have hlead : ∀ x, ((s.loadUnder r a).zone x).leader = (s.zone x).leader ∧
        ((s.loadUnder r a).zone x).rule = (s.zone x).rule := fun x => by
      rw [State.zone_loadUnder]
      split
      · exact Zone.load_leads _
      · exact ⟨rfl, rfl⟩
    refine (ih hn (s.loadUnder r a)).trans ?_
    simp only [(hlead _).1, (hlead _).2]
    rw [State.zone_loadUnder]
    by_cases hy : (s.zone y).leader = a
    · subst hy
      simp [ha]
    · simp [hy]

end Sys2Proof.Machine


namespace Sys2Proof.Machine

/-! ### Calendar dates (R147 to R149) -/

theorem daysInMonth_pos (year month : Nat) : 1 ≤ daysInMonth year month := by
  unfold daysInMonth
  repeat' split
  all_goals omega

theorem daysBefore_succ {month : Nat} (year : Nat) (h : 1 ≤ month) :
    daysBefore year (month + 1) = daysBefore year month + daysInMonth year month := by
  obtain ⟨m, rfl⟩ : ∃ m, month = m + 1 := ⟨month - 1, by omega⟩
  simp [daysBefore, List.range_succ]

/-- The days of the months before December. -/
theorem daysBefore_december (year : Nat) : daysBefore year 12 = if isLeap year then 335 else 334 := by
  have hl : List.range (12 - 1) = [0, 1, 2, 3, 4, 5, 6, 7, 8, 9, 10] := rfl
  rw [daysBefore, hl]
  cases h : isLeap year <;> simp [daysInMonth, h]

theorem isLeap_iff (year : Nat) : isLeap year = true ↔ year % 4 = 0 := by simp [isLeap]

theorem Date.isCalendar_iff (d : Date) : d.isCalendar = true ↔
    d.year ≤ 99 ∧ 1 ≤ d.month ∧ d.month ≤ 12 ∧ 1 ≤ d.day ∧ d.day ≤ daysInMonth d.year d.month := by
  simp [Date.isCalendar, and_assoc]

/-- The date after a calendar date but the last is the next one of the calendar. -/
theorem Date.next_spec {d : Date} (h : d.isCalendar = true) (hne : d ≠ ⟨99, 12, 31⟩) :
    d.next.dayCount = d.dayCount + 1 ∧ d.next.isCalendar = true := by
  obtain ⟨hy, hm, hm', hd, hd'⟩ := d.isCalendar_iff.mp h
  obtain ⟨y, m, k⟩ := d
  dsimp only at hy hm hm' hd hd'
  have hpos := daysInMonth_pos y (m + 1)
  by_cases h1 : k < daysInMonth y m
  · have hn : Date.next ⟨y, m, k⟩ = ⟨y, m, k + 1⟩ := if_pos h1
    rw [hn, Date.isCalendar_iff]
    refine ⟨?_, hy, hm, hm', by dsimp only; omega, h1⟩
    simp only [Date.dayCount]
    omega
  by_cases h2 : m < 12
  · have hn : Date.next ⟨y, m, k⟩ = ⟨y, m + 1, 1⟩ := (if_neg h1).trans (if_pos h2)
    rw [hn, Date.isCalendar_iff]
    refine ⟨?_, hy, by dsimp only; omega, h2, le_refl 1, hpos⟩
    simp only [Date.dayCount, daysBefore_succ y hm]
    omega
  obtain rfl : m = 12 := by omega
  have hdec : daysInMonth y 12 = 31 := rfl
  obtain rfl : k = 31 := by omega
  have h3 : y < 99 := by
    by_contra h3
    exact hne (by rw [show y = 99 by omega])
  have hn : Date.next ⟨y, 12, 31⟩ = ⟨y + 1, 1, 1⟩ := (if_neg h1).trans ((if_neg h2).trans (if_pos h3))
  rw [hn, Date.isCalendar_iff]
  refine ⟨?_, h3, le_refl 1, by dsimp only; omega, le_refl 1, daysInMonth_pos _ _⟩
  have hjan : daysBefore (y + 1) 1 = 0 := rfl
  simp only [Date.dayCount, daysBefore_december, hjan]
  by_cases hl : y % 4 = 0
  · rw [if_pos ((isLeap_iff y).mpr hl)]
    omega
  · rw [if_neg fun h => hl ((isLeap_iff y).mp h)]
    omega

theorem Date.weekday_succ {d e : Date} (h : e.dayCount = d.dayCount + 1) : e.weekday = d.weekday + 1 := by
  refine Fin.ext ?_
  simp only [Date.weekday, Fin.val_add, h]
  show (d.dayCount + 1 + 5) % 7 = ((d.dayCount + 5) % 7 + 1) % 7
  omega

theorem Date.isLast_iff (d : Date) : d.isLast = true ↔ d = ⟨99, 12, 31⟩ := by simp [Date.isLast]

/-- The Day Clock after a rollover (R147 to R149). -/
theorem Clock.rollover_date {c n : Clock} (hn : n = c.rollover) (h : c.date.isCalendar = true) :
    if c.date = ⟨99, 12, 31⟩ then n.date = ⟨0, 1, 1⟩ ∧ n.valid = false
    else n.date.dayCount = c.date.dayCount + 1 ∧ n.date.isCalendar = true ∧ n.date.weekday = c.date.weekday + 1 ∧
      n.valid = c.valid := by
  rw [hn]
  split
  · next hl =>
      have hlast : c.date.isLast = true := c.date.isLast_iff.mpr hl
      refine ⟨?_, ?_⟩
      · show c.date.next = _
        rw [hl]
        rfl
      · show (c.valid && !c.date.isLast) = false
        rw [hlast]
        exact Bool.and_false _
  · next hl =>
      obtain ⟨hcount, hcal⟩ := Date.next_spec h hl
      have hlast : c.date.isLast = false := Bool.eq_false_iff.mpr fun g => hl (c.date.isLast_iff.mp g)
      refine ⟨hcount, hcal, Date.weekday_succ hcount, ?_⟩
      show (c.valid && !c.date.isLast) = _
      rw [hlast]
      exact Bool.and_true _

theorem Clock.rollover_dayType {c n : Clock} (h : n = c.rollover) : n.dayType =
    match n.exceptions.find? (fun e => decide (e.date = n.date)) with
    | some e => e.dayType
    | none => n.week[(n.date.weekday).val] := by
  rw [h]
  rfl

end Sys2Proof.Machine


namespace Sys2Proof.Machine

/-! ### The second event of a rollover (R145 to R147) -/

theorem State.rolloverLoads_rest (s : State) : s.rolloverLoads = { s with zones := s.rolloverLoads.zones } := by
  have h : s.rolloverLoads.setZones = s.setZones :=
    forEach_same (f := State.loadUnder .rollover) _
      (fun l s => State.loadUnder_same (g := State.setZones) (fun _ _ => rfl) .rollover l s) s
  exact (State.setZones_self _).symm.trans (congrFun h _)

/-- The zone's leader loads its group at the rollover, and the zone has a load pending (R43). -/
abbrev State.LoadsAtRollover (s : State) (z : ZoneNo) : Prop :=
  (s.zone (s.zone z).leader).leader = (s.zone z).leader ∧ (s.zone (s.zone z).leader).rule = .rollover ∧
    (s.zone z).loadPending = true

theorem State.zone_rolloverLoads (s : State) (z : ZoneNo) : s.rolloverLoads.zone z = { s.zone z with
    live := if s.LoadsAtRollover z then (s.zone z).staged else (s.zone z).live
    loadPending := (s.zone z).loadPending && !decide (s.LoadsAtRollover z) } := by
  rw [State.rolloverLoads, State.zone_loads .rollover (List.nodup_finRange 32)]
  by_cases hl : s.LoadsAtRollover z
  · obtain ⟨h1, h2, h3⟩ := id hl
    rw [if_pos ⟨List.mem_finRange _, h1, h2⟩, Zone.load_due h3, if_pos hl, decide_eq_true hl, Bool.not_true, Bool.and_false]
  · rw [if_neg hl, decide_eq_false hl, Bool.not_false, Bool.and_true]
    split
    · next h =>
        have h3 : (s.zone z).loadPending = false := Bool.eq_false_iff.mpr fun h3 => hl ⟨h.2.1, h.2.2, h3⟩
        exact Zone.load_idle h3
    · rfl

/-- The new day's clock and plans, with the counts of the second and the minute taken (R146, R147; log 5). -/
def State.newDay (s : State) : State :=
  { s.secondLess.minuteLess with clock := s.clock.rollover, zones := s.rolloverLoads.zones }

/-- A day's last second (R147). -/
theorem State.advanceClock_last {s : State} (h : ¬ s.clock.seconds < Config.lastSecond) : s.advanceClock =
    State.giveSchedule (State.minuteLess (State.rolloverLoads { s with clock := s.clock.rollover })) := by
  unfold State.advanceClock
  rw [if_neg h, State.minuteBoundary, State.countMinute_eq]

theorem State.zones_rolloverLoads {s t : State} (h : t.zones = s.zones) : t.rolloverLoads.zones = s.rolloverLoads.zones := by
  have hz : ∀ z, t.zone z = s.zone z := fun z => by rw [State.zone, State.zone, h]
  have hloads : ∀ z, t.rolloverLoads.zone z = s.rolloverLoads.zone z := fun z => by
    rw [State.rolloverLoads, State.rolloverLoads, State.zone_loads .rollover (List.nodup_finRange 32),
      State.zone_loads .rollover (List.nodup_finRange 32)]
    simp only [hz]
  exact Vector.ext fun i hi => hloads ⟨i, hi⟩

theorem State.minuteLess_with (s : State) (c : Clock) (v : Vector Zone 32) :
    State.minuteLess { s with clock := c, zones := v } = { s.minuteLess with clock := c, zones := v } := rfl

theorem exec_secondEvent_rollover {s : State} (hr : s.clock.restarted = false) (hn : s.NoEnds) (hs : s.clock.seconds = 86399) :
    exec .secondEvent s = .next s.newDay.giveSchedule := by
  have hlast : ¬ s.secondLess.clock.seconds < Config.lastSecond := by
    have hc : s.secondLess.clock = s.clock := rfl
    rw [hc, hs, Config.lastSecond]
    omega
  have hzones := State.zones_rolloverLoads (s := s) (t := { s.secondLess with clock := s.secondLess.clock.rollover }) rfl
  have hday : State.minuteLess (State.rolloverLoads { s.secondLess with clock := s.secondLess.clock.rollover }) = s.newDay := by
    rw [State.rolloverLoads_rest, hzones]
    exact State.minuteLess_with s.secondLess s.clock.rollover s.rolloverLoads.zones
  rw [exec_secondEvent hr hn, State.advanceClock_last hlast, hday]

end Sys2Proof.Machine


namespace Sys2Proof.Machine

/-- The counts have fallen before the new day's plans and clock are taken. -/
theorem State.Counted.lastMinute (s : State) : s.Counted s.secondLess.minuteLess := (Counted.secondLess s).trans (.minuteLess _)

theorem State.newDay_eq (s : State) :
    s.newDay = { s.secondLess.minuteLess with clock := s.clock.rollover, zones := s.rolloverLoads.zones } := rfl

theorem State.zone_newDay (s : State) (z : ZoneNo) : s.newDay.zone z = s.rolloverLoads.zone z := by
  rw [State.newDay_eq, State.zone, State.zone]

theorem State.clock_newDay (s : State) : s.newDay.clock = s.clock.rollover := by rw [State.newDay_eq]

theorem Clock.minute_rollover (c : Clock) : c.rollover.minute = 0 := Nat.zero_div 60

/-- A plan names midnight in neither direction. -/
theorem State.scheduleDue_newDay {s : State} {y : ZoneNo}
    (h : ¬ (((s.newDay.zone y).live.get s.clock.rollover.dayType).lockup = some 0 ∨
      ((s.newDay.zone y).live.get s.clock.rollover.dayType).release = some 0)) : s.newDay.scheduleDue y = none :=
  State.scheduleDue_none fun dir hd => by
    rw [State.clock_newDay, Clock.minute_rollover] at hd
    cases dir with
    | lock => exact h (.inl hd)
    | release => exact h (.inr hd)

theorem State.mapIdx_zones {s : State} {v : Vector Zone 32} {f : ZoneNo → Zone} (h : ∀ z, v[z.val] = f z) :
    v = s.zones.mapIdx (fun i _ => if h : i < 32 then f ⟨i, h⟩ else s.zone 0) := by
  refine Vector.ext fun i hi => ?_
  rw [Vector.getElem_mapIdx, dif_pos hi]
  exact h ⟨i, hi⟩

/-- The parts of the new day that no schedule event writes. -/
theorem State.clock_giveSchedule (s : State) : s.giveSchedule.clock = s.clock :=
  (State.Tended.giveSchedule s).moves.work.clock_eq

/-- What a giving reads of the new day is as it was before. -/
theorem State.newDay_counted {s : State} {z : ZoneNo} {k : SlotNo} (hb : ¬ s.Barred z) (hsw : ¬ s.HasSweep z)
    (hk : s.slot k = none) (hlow : ∀ j, j < k → s.slot j ≠ none) :
    ¬ s.newDay.Barred z ∧ ¬ s.newDay.HasSweep z ∧ s.newDay.slot k = none ∧ (∀ j, j < k → s.newDay.slot j ≠ none) ∧
    (∀ d, (s.newDay.door d).configured = (s.door d).configured ∧ (s.newDay.door d).zone = (s.door d).zone ∧
      (s.newDay.door d).chime = (s.door d).chime ∧ (s.newDay.door d).trunk = (s.door d).trunk) ∧
    ∀ d, s.newDay.held d = s.held d := by
  have hc := Counted.lastMinute s
  rw [State.newDay_eq]
  generalize s.rolloverLoads.zones = v
  refine ⟨fun h => hb ((hc.barred z).mp h), hc.not_hasSweep hsw, (hc.slot_none k).mpr hk,
    fun j hj h => hlow j hj ((hc.slot_none j).mp h), fun d => ?_, hc.held⟩
  obtain ⟨h1, h2, h3, -, h5⟩ := hc.doors d
  exact ⟨h1, h2, h3, h5⟩

theorem State.zone_of_set {t : State} {v : Vector Zone 32} {z : ZoneNo} {x : Zone} (h : t.zones = v.set z.val x) :
    t.zone z = x := by
  rw [State.zone, h]
  exact Vector.getElem_set_self _

/-- What a warned lockup of the schedule starts, table by table. -/
theorem State.scheduleWarned_tables {s : State} {z : ZoneNo} {k : SlotNo} (hb : ¬ s.Barred z) (hs : ¬ s.HasSweep z)
    (hl : (s.zone z).lead ≠ 0) :
    let t := s.startSweep k z .lock .schedule
    t.slots = s.slots.set k.val (some ⟨z, .lock, .schedule, .warning ⟨(s.zone z).lead, false⟩, 0, ⟨0, 0, 0, 0, 0, 0⟩⟩) ∧
    (t.zone z).state = .warning ∧ (t.zone z).marker = none ∧ t.doors = s.doors ∧ t.holds = s.holds ∧
    t.noticeSet = s.noticeSet := by
  obtain ⟨hrec, -, -⟩ := State.scheduleWarned (k := k) hb hs hl
  have hz := State.zone_of_set (congrArg State.zones hrec)
  dsimp only
  exact ⟨by rw [hrec], by rw [hz], by rw [hz], by rw [hrec], by rw [hrec], by rw [hrec]⟩

theorem State.newDay_rest (s : State) : s.newDay.slots = s.secondLess.minuteLess.slots ∧
    s.newDay.doors = s.secondLess.minuteLess.doors ∧ s.newDay.holds = s.secondLess.minuteLess.holds ∧
    s.newDay.noticeSet = s.noticeSet := by
  rw [State.newDay_eq]
  exact ⟨rfl, rfl, rfl, rfl⟩

/-- Settles O14: the date and the day type, the loads of the groups under ROLLOVER, and midnight's schedule. -/
theorem rolloverTakesTheNewDay : Obligations.RolloverTakesTheNewDay := by
  intro s hn hr hs hcal
  refine ⟨_, exec_secondEvent_rollover hr hn hs, ?_⟩
  have hclock : s.newDay.giveSchedule.clock = s.clock.rollover := (State.clock_giveSchedule _).trans s.clock_newDay
  have hzone : ∀ z, s.newDay.zone z = { s.zone z with
      live := if s.LoadsAtRollover z then (s.zone z).staged else (s.zone z).live
      loadPending := (s.zone z).loadPending && !decide (s.LoadsAtRollover z) } := fun z =>
    (s.zone_newDay z).trans (s.zone_rolloverLoads z)
  have hidle : ∀ y, ¬ (((if s.LoadsAtRollover y then (s.zone y).staged else (s.zone y).live).get
        s.clock.rollover.dayType).lockup = some 0 ∨
      ((if s.LoadsAtRollover y then (s.zone y).staged else (s.zone y).live).get
        s.clock.rollover.dayType).release = some 0) → s.newDay.scheduleDue y = none := fun y hy =>
    State.scheduleDue_newDay (by rw [hzone]; exact hy)
  dsimp only
  refine ⟨by rw [hclock]; rfl, by rw [hclock]; rfl, by rw [hclock]; rfl, by rw [hclock]; exact hr,
    Clock.rollover_date hclock hcal, by rw [hclock]; rfl, Clock.rollover_dayType hclock, fun z hz => ?plans,
    fun h => ?idle, fun z k hv hz hother hb hsw hl hk hlow => ?warned⟩
  case plans =>
    have := (State.Tended.giveSchedule s.newDay).plans z (by rw [hzone, hzone]; exact hz)
    rw [hzone] at this
    exact this
  case idle =>
    rw [hclock] at h ⊢
    have hnone : s.newDay.giveSchedule = s.newDay := State.giveSchedule_idle fun hv y => hidle y (h (by
      rw [← s.clock_newDay]
      exact hv) y)
    have hzones := State.mapIdx_zones (s := s) (v := s.rolloverLoads.zones) fun z => s.zone_rolloverLoads z
    rw [hnone, State.newDay_eq, hzones]
  case warned =>
    rw [hclock] at hv hz hother
    obtain ⟨hbq, hsq, hkq, hlowq, hdoor, hheld⟩ := s.newDay_counted (z := z) (k := k) hb hsw hk hlow
    have hdue := State.scheduleDue_some (s := s.newDay) (z := z) (dir := .lock)
      (by rw [State.clock_newDay, Clock.minute_rollover, State.planNames, hzone]; exact hz) (fun e => nomatch e) fun _ => hbq
    have hone := State.giveSchedule_one (z := z) (by rw [State.clock_newDay]; exact hv) fun y hy => hidle y (hother y hy)
    rw [hdue] at hone
    dsimp only at hone
    rw [State.give_started (fun _ => hbq) hsq hkq hlowq] at hone
    dsimp only at hone
    have hlq : (s.newDay.zone z).lead ≠ 0 := by rw [hzone]; exact hl
    obtain ⟨-, -, hmem⟩ := State.scheduleWarned (k := k) hbq hsq hlq
    have htables := State.scheduleWarned_tables (k := k) hbq hsq hlq
    dsimp only at htables
    rw [← hone, s.newDay_rest.1, s.newDay_rest.2.1, s.newDay_rest.2.2.1, s.newDay_rest.2.2.2, hzone] at htables
    rw [← hone] at hmem
    obtain ⟨h1, h2, h3, h4, h5, h6⟩ := htables
    refine ⟨h1, h2, h3, h4, h5, h6, fun d hd hc hh => ?_⟩
    obtain ⟨h1, h2, h3, h4⟩ := hdoor d
    have := hmem d ⟨h1.trans hd.1, h2.trans hd.2⟩ (h3.trans hc) ((hheld d).trans hh)
    rw [hzone, h4] at this
    exact this

end Sys2Proof.Machine


namespace Sys2Proof.Machine

/-! ### A start in a slot, and what its finish lets in (R59, R62, R73) -/

/-- A sweep that has been started finishes if no door is pending, and its slot is then offered by a loop of some fuel. -/
def State.finishBy (n : Nat) (k : SlotNo) (s : State) : State :=
  if s.isFinished k then
    match s.slot k with
    | none => s
    | some w => State.loadUnder .afterSweep w.zone (State.offerLoop n k (s.closed k w))
  else s

theorem State.finishBy_going {n : Nat} {k : SlotNo} {s : State} (h : s.isFinished k = false) : s.finishBy n k = s :=
  if_neg (by rw [h]; decide)

theorem State.finishBy_done {n : Nat} {k : SlotNo} {s : State} {w : Sweep} (h : s.isFinished k = true)
    (hw : s.slot k = some w) :
    s.finishBy n k = State.loadUnder .afterSweep w.zone (State.offerLoop n k (s.closed k w)) := by
  unfold State.finishBy
  rw [if_pos h, hw]

theorem State.isFinished_slot {k : SlotNo} {s : State} (h : s.isFinished k = true) : ∃ w, s.slot k = some w := by
  unfold State.isFinished at h
  split at h
  · cases h
  · exact ⟨_, ‹_›⟩

theorem State.finishIfDone_eq (k : SlotNo) (s : State) : s.finishIfDone k = s.finishBy 33 k := by
  cases h : s.isFinished k with
  | false => rw [State.finishIfDone_going h, State.finishBy_going h]
  | true =>
    obtain ⟨w, hw⟩ := State.isFinished_slot h
    have hfree : (s.closed k w).slot k = none := by rw [State.slot_closed, if_pos rfl]
    rw [State.finishIfDone_done h, State.finishBy_done h hw, State.finish_eq hw, State.offer_free hfree]

theorem State.startSweep_eq (k : SlotNo) (z : ZoneNo) (dir : Direction) (o : Origin) (s : State) :
    s.startSweep k z dir o = (s.startIn k z dir o).finishBy 33 k := State.finishIfDone_eq k _

/-- With no zone barred, the first waiting zone takes the slot (R59). -/
theorem State.takeWaiting_calm {s : State} (h : ∀ z, ¬ s.Barred z) (l : List ZoneNo) :
    State.takeWaiting l s = (s, none) ∨ ∃ z m, (s.zone z).marker = some m ∧ State.takeWaiting l s = (s, some (z, m)) := by
  induction l with
  | nil => exact .inl rfl
  | cons z l ih =>
    cases hm : (s.zone z).marker with
    | none =>
      have heq : State.takeWaiting (z :: l) s = State.takeWaiting l s := by
        conv_lhs => unfold State.takeWaiting
        rw [hm]
      rw [heq]
      exact ih
    | some m => exact .inr ⟨z, m, hm, State.takeWaiting_take hm (fun g => h z g.2) l⟩

theorem State.offerLoop_calm {s : State} (h : ∀ z, ¬ s.Barred z) (n : Nat) (k : SlotNo) :
    State.offerLoop (n + 1) k s = s ∨ ∃ z m, (s.zone z).marker = some m ∧
      State.offerLoop (n + 1) k s = (s.startIn k z m.direction m.origin).finishBy n k := by
  rcases State.takeWaiting_calm h (s.zonesInRankOrder s.waitingZones) with ht | ⟨z, m, hm, ht⟩
  · refine .inl ?_
    conv_lhs => unfold State.offerLoop
    rw [ht]
  · refine .inr ⟨z, m, hm, ?_⟩
    conv_lhs => unfold State.offerLoop
    rw [ht]
    rfl

end Sys2Proof.Machine


namespace Sys2Proof.Machine

/-! ### Where one zone stands while others are given their markers -/

/-- The slot of a zone's sweep, if it has one, the doors linked to it, and the marker it then lacks. -/
structure State.Local (p : State) (z : ZoneNo) (o : Option SlotNo) : Prop where
  slots : ∀ k w, p.slot k = some w → (w.zone = z ↔ o = some k)
  held : ∀ k, o = some k → p.slot k ≠ none
  links : ∀ d, p.IsDoorOf z d → ∀ l, (p.door d).sweep = some l →
    o = some l.slot ∧ ∀ w, p.slot l.slot = some w → w.phase = .active
  marker : o ≠ none → (p.zone z).marker = none

/-- What leaves a zone, its doors and the slot of its sweep alone. -/
def Touch.aside (s : State) (z : ZoneNo) (o : Option SlotNo) : Touch := ⟨fun d => ¬ s.IsDoorOf z d, (· ≠ z), fun k => o ≠ some k⟩

section
variable {s p q : State} {z : ZoneNo} {o : Option SlotNo}

theorem Touch.not_zone_aside : ¬ (Touch.aside s z o).zone z := fun h => h rfl

theorem Touch.not_door_aside {d : DoorNo} (h : s.IsDoorOf z d) : ¬ (Touch.aside s z o).door d := fun g => g h

theorem Touch.not_slot_aside {k : SlotNo} (h : o = some k) : ¬ (Touch.aside s z o).slot k := fun g => g h

theorem State.Local.tended (h : p.Local z o) (hw : Work s p) (ht : State.Tended (Touch.aside s z o) p q) : q.Local z o := by
  have hdoor : ∀ d, q.IsDoorOf z d → s.IsDoorOf z d ∧ p.IsDoorOf z d := fun d hd =>
    have hp := (ht.moves.work.isDoorOf z d).mp hd
    ⟨(hw.isDoorOf z d).mp hp, hp⟩
  refine ⟨fun k w hk => ?_, fun k hk => ?_, fun d hd l hl => ?_, fun ho => ?_⟩
  · by_cases hok : o = some k
    · rw [ht.slots k (Touch.not_slot_aside hok)] at hk
      exact h.slots k w hk
    · refine iff_of_false (fun hz => ?_) hok
      rcases ht.moves.slot_zone hk with hne | ⟨v, hv, hvw⟩
      · exact hne hz
      · exact hok ((h.slots k v hv).mp (hvw.trans hz))
  · rw [ht.slots k (Touch.not_slot_aside hk)]
    exact h.held k hk
  · obtain ⟨hs, hp⟩ := hdoor d hd
    rw [(ht.moves.marks_outside (Touch.not_door_aside hs)).2.2.1] at hl
    obtain ⟨ho, hact⟩ := h.links d hp l hl
    exact ⟨ho, by rw [ht.slots l.slot (Touch.not_slot_aside ho)]; exact hact⟩
  · rw [(ht.moves.zone_outside Touch.not_zone_aside).1]
    exact h.marker ho

/-- An offer of another slot than the zone's, while the zone does not wait. -/
theorem State.Local.offers (h : p.Local z o) (hw : Work s p) (hm : (p.zone z).marker = none) {k : SlotNo} (hk : o ≠ some k) :
    (Touch.aside s z o).Offers k p := by
  refine ⟨hk, fun w hs hz => hk ((h.slots k w hs).mp hz), fun y hy hyz => ?_, fun y hy d hd hz => ?_, fun d hd hz => ?_⟩
  · rw [hyz, hm] at hy
    cases hy
  · exact hy (hd.2.symm.trans ((hw.isDoorOf z d).mpr hz).2)
  · unfold Door.linkedTo at hd
    cases hs : (p.door d).sweep with
    | none => rw [hs] at hd; cases hd
    | some l =>
      rw [hs] at hd
      have hl : l.slot = k := eq_of_beq hd
      exact hk (hl ▸ (h.links d ((hw.isDoorOf z d).mpr hz) l hs).1)

end

/-! ### A sweep that has begun (R57, R59, R62, R73) -/

/-- The doors of a zone that are not held are wanted locked, without the keep-open mark (R65). -/
def State.WantsLock (s p : State) (z : ZoneNo) : Prop :=
  ∀ d, s.IsDoorOf z d → s.held d = false → (p.door d).intent = .lock ∧ (p.door d).keepOpen = false

/-- A sweep of the zone has begun; it stands in its slot, or it has finished. -/
structure State.Begun (s p : State) (z : ZoneNo) (o : Option SlotNo) (dir : Direction) (org : Origin) : Prop where
  at_slot : p.Local z o
  marker : (p.zone z).marker = none
  going : ∀ k, o = some k → ∃ w, p.slot k = some w ∧ w.zone = z ∧ w.direction = dir ∧ w.origin = org ∧
    (dir = .lock → org = .restore → w.phase = .active ∧ s.WantsLock p z)
  done : o = none → (p.zone z).last = some dir ∧ (dir = .lock → s.WantsLock p z) ∧
    ∃ counts : Counts, counts.pending = 0 ∧ p.noticeSet.Tells s.clock.stamp .sweepDone (.zone z)
      (.sweepDone dir org false counts.sum counts)

section
variable {s p q : State} {z : ZoneNo} {o : Option SlotNo} {dir : Direction} {org : Origin}

theorem State.WantsLock.tended (h : s.WantsLock p z) (ht : State.Tended (Touch.aside s z o) p q) : s.WantsLock q z :=
  fun d hd hh => by
    obtain ⟨hi, hk, -, -⟩ := ht.moves.marks_outside (Touch.not_door_aside hd)
    rw [hi, hk]
    exact h d hd hh

theorem State.Begun.tended (h : s.Begun p z o dir org) (hw : Work s p) (ht : State.Tended (Touch.aside s z o) p q) :
    s.Begun q z o dir org := by
  obtain ⟨hm, hlast⟩ := ht.moves.zone_outside (z := z) Touch.not_zone_aside
  refine ⟨h.at_slot.tended hw ht, hm.trans h.marker, fun k hk => ?_, fun ho => ?_⟩
  · obtain ⟨w, hs, hz, hd, hg, hl⟩ := h.going k hk
    refine ⟨w, (ht.slots k (Touch.not_slot_aside hk)).trans hs, hz, hd, hg, fun h1 h2 => ?_⟩
    obtain ⟨ha, hwant⟩ := hl h1 h2
    exact ⟨ha, hwant.tended ht⟩
  · obtain ⟨hl, hwant, counts, hp, htells⟩ := h.done ho
    exact ⟨hlast.trans hl, fun hd => (hwant hd).tended ht, counts, hp, ht.notices.tells Touch.not_zone_aside htells⟩

end

/-! ### The counts of a walk are of the zone's doors -/

theorem Counts.sum_upd (c : Counts) (k : Count) : (c.upd k (· + 1)).sum = c.sum + 1 := by
  cases k <;> simp only [Counts.upd, Counts.sum] <;> omega

theorem Counts.sum_addAll (f : DoorNo → Count) (l : List DoorNo) (c : Counts) : (c.addAll f l).sum = c.sum + l.length := by
  induction l using List.reverseRecOn with
  | nil => rfl
  | append_singleton l d ih =>
    rw [Counts.addAll_append, Counts.sum_upd, ih, List.length_append]
    rfl

theorem State.sum_walkCounts (s : State) (z : ZoneNo) (dir : Direction) : (s.walkCounts z dir).sum =
    ((List.finRange 256).filter (fun d => decide (s.IsDoorOf z d))).length := by
  rw [← State.addAll_zoneWalk, Counts.sum_addAll, (s.zoneWalk_perm z).length_eq]
  exact Nat.zero_add _

end Sys2Proof.Machine


namespace Sys2Proof.Machine

/-! ### The start of a zone's sweep, at a giving or at an offer -/

section
variable {s p t : State} {z : ZoneNo} {k : SlotNo} {dir : Direction} {org : Origin}

/-- A start writes one slot. -/
theorem State.Tended.finishBy {A : Touch} {q : State} (h : A.Offers k q) (n : Nat) : Tended A q (q.finishBy n k) := by
  unfold State.finishBy
  split
  · split
    · exact refl q
    · next w hw =>
        have hc := close h hw false
        exact (hc.trans (offerLoop n (h.moves hc.moves))).trans (loadUnder _)
  · exact refl q

theorem State.slot_started_ne (p : State) (k : SlotNo) (z : ZoneNo) (dir : Direction) (org : Origin) (n : Nat) {j : SlotNo}
    (hj : j ≠ k) : ((p.startIn k z dir org).finishBy n k).slot j = p.slot j := by
  have h1 : State.Tended (Touch.inSlot k) p (p.startIn k z dir org) := .startIn rfl trivial (fun _ _ => trivial) dir org
  exact (h1.trans (.finishBy (Touch.offers_inSlot k _) n)).slots j hj

/-- What a walk comes to for its zone (R65, R73, R74). -/
theorem State.Begun.of_walkedTo (hw : Work s p) (hl : p.Local z none)
    (ht : p.WalkedTo t z dir org k) (hwt : Work p t) (hm : (t.zone z).marker = none)
    (hj : ∀ j, j ≠ k → t.slot j = p.slot j) : ∃ o, s.Begun t z o dir org := by
  obtain ⟨hint, -, hrest⟩ := ht
  have hdoor : ∀ d, t.IsDoorOf z d → p.IsDoorOf z d := fun d => (hwt.isDoorOf z d).mp
  have hwant : dir = .lock → s.WantsLock t z := fun hd d hsd hh => by
    subst hd
    obtain ⟨hi, hk⟩ := hint d ((hw.isDoorOf z d).mpr hsd)
    rw [hw.held_eq, hh] at hi hk
    exact ⟨hi, hk⟩
  by_cases hp : (p.walkCounts z dir).pending = 0
  · rw [if_pos hp] at hrest
    obtain ⟨hlink, hlast, hfree, htells⟩ := hrest
    refine ⟨none, ⟨fun j w hs => iff_of_false (fun hz => hfree ⟨j, by rw [hs, ← hz]; rfl⟩) (fun h => nomatch h),
      fun _ h => (nomatch h), fun d hd l hs => ?_, fun h => absurd rfl h⟩, hm, fun _ h => (nomatch h), fun _ =>
      ⟨hlast, hwant, p.walkCounts z dir, hp, ?_⟩⟩
    · rw [(hlink d (hdoor d hd)).1] at hs
      cases hs
    · rw [State.sum_walkCounts, ← hw.clock_eq]
      exact htells
  · rw [if_neg hp] at hrest
    obtain ⟨hslot, hlink, -⟩ := hrest
    refine ⟨some k, ⟨fun j w hs => ?_, fun j h => ?_, fun d hd l hs => ?_, fun _ => hm⟩, hm, fun j h => ?_, fun h => nomatch h⟩
    · by_cases hjk : j = k
      · subst hjk
        rw [hslot] at hs
        cases hs
        exact iff_of_true rfl rfl
      · rw [hj j hjk] at hs
        exact iff_of_false (fun hz => nomatch (hl.slots j w hs).mp hz) fun h => hjk (Option.some.inj h).symm
    · cases h
      rw [hslot]
      exact fun h => nomatch h
    · rw [(hlink d (hdoor d hd)).1] at hs
      cases hs
      refine ⟨rfl, fun w h => ?_⟩
      rw [hslot] at h
      cases h
      rfl
    · cases h
      exact ⟨_, hslot, rfl, rfl, rfl, fun hd _ => ⟨rfl, hwant hd⟩⟩

end

end Sys2Proof.Machine


namespace Sys2Proof.Machine

section
variable {s p : State} {z : ZoneNo} {k : SlotNo} {dir : Direction} {org : Origin}

/-- A sweep begins with its warning (R62, R63). -/
theorem State.begun_warned (hl : p.Local z none) (hw : p.isWarned z dir org = true) :
    s.Begun (p.startIn k z dir org) z (some k) dir org := by
  have hcond := (State.isWarned_iff p z dir org).mp hw
  have hslot := State.slot_startIn_warned (k := k) hw
  have hst := State.startIn_warned hw k
  have hdoor : ∀ d, (p.startIn k z dir org).door d = p.door d := fun d => by
    rw [hst, State.door_rederive, State.placeWarns_rest]
    rfl
  have hmark : ((p.startIn k z dir org).zone z).marker = none := by
    rw [hst, State.zone_rederive, State.placeWarns_rest]
    show ((p.taken k _).zone z).marker = none
    rw [State.zone_taken, if_pos rfl]
  have hother : ∀ j, j ≠ k → (p.startIn k z dir org).slot j = p.slot j := fun j hj => by
    rw [← State.slot_started_ne p k z dir org 0 hj, State.finishBy_going (State.isFinished_warning hslot rfl)]
  refine ⟨⟨fun j w hs => ?_, fun j h => ?_, fun d hd l hs => ?_, fun _ => hmark⟩, hmark, fun j h => ?_, fun h => nomatch h⟩
  · by_cases hjk : j = k
    · subst hjk
      rw [hslot] at hs
      cases hs
      exact iff_of_true rfl rfl
    · rw [hother j hjk] at hs
      exact iff_of_false (fun hz => nomatch (hl.slots j w hs).mp hz) fun h => hjk (Option.some.inj h).symm
  · cases h
    rw [hslot]
    exact fun h => nomatch h
  · rw [hdoor] at hs
    rw [State.IsDoorOf, hdoor] at hd
    exact nomatch (hl.links d hd l hs).1
  · cases h
    exact ⟨_, hslot, rfl, rfl, rfl, fun _ h => absurd h hcond.2.2.2⟩

/-- A sweep begins in a free slot (R62). -/
theorem State.begun_start (hw : Work s p) (hl : p.Local z none) (hb : ∀ y, ¬ s.Barred y) (n : Nat) :
    ∃ o, s.Begun ((p.startIn k z dir org).finishBy n k) z o dir org := by
  cases hwarn : p.isWarned z dir org with
  | true =>
    rw [State.finishBy_going (State.isFinished_warning (State.slot_startIn_warned hwarn) rfl)]
    exact ⟨some k, State.begun_warned hl hwarn⟩
  | false =>
    have hr : p.Ready ((p.taken k ⟨z, dir, org, .active, 0, Counts.zero⟩).rederive z) k ⟨z, dir, org, .active, 0, Counts.zero⟩ :=
      State.ready_taken (fun j v _ hv hz => nomatch (hl.slots j v hv).mp hz) fun _ h => hb z ((hw.barred z).mp h)
    have hwork : Work p ((p.startIn k z dir org).finishBy n k) :=
      ((State.Tended.startIn (A := Touch.inSlot k) rfl trivial (fun _ _ => trivial) dir org).trans
        (.finishBy (Touch.offers_inSlot k _) n)).moves.work
    obtain ⟨hwalk, hmark⟩ := hr.walkedTo_loop n (t := (p.startIn k z dir org).finishBy n k)
      (by rw [State.startIn_active hwarn]; rfl)
    exact State.Begun.of_walkedTo hw hl hwalk hwork hmark fun j hj => State.slot_started_ne p k z dir org n hj

end

end Sys2Proof.Machine


namespace Sys2Proof.Machine

/-! ### A waiting zone while the slots of other zones are filled and offered (R59) -/

/-- A zone with a marker still stands with it, or its sweep has begun. -/
def State.WaitsOrBegun (s p t : State) (z : ZoneNo) (m : Marker) : Prop :=
  State.Tended (Touch.aside s z none) p t ∨ ∃ o, s.Begun t z o m.direction m.origin

section
variable {s p q t : State} {z : ZoneNo} {m : Marker} {k : SlotNo}

theorem State.WaitsOrBegun.before (hpq : State.Tended (Touch.aside s z none) p q) (h : s.WaitsOrBegun q t z m) :
    s.WaitsOrBegun p t z m := h.imp hpq.trans id

theorem State.WaitsOrBegun.loadUnder (h : s.WaitsOrBegun p q z m) (hq : Work s q) (y : ZoneNo) :
    s.WaitsOrBegun p (q.loadUnder .afterSweep y) z m :=
  h.imp (fun g => g.trans (.loadUnder y)) fun ⟨o, g⟩ => ⟨o, g.tended hq (.loadUnder y)⟩

theorem State.Local.not_linked (hl : p.Local z none) (hw : Work s p) {d : DoorNo} (hd : (p.door d).linkedTo k = true) :
    ¬ s.IsDoorOf z d := fun hs => by
  unfold Door.linkedTo at hd
  cases h : (p.door d).sweep with
  | none => rw [h] at hd; cases hd
  | some l => exact nomatch (hl.links d ((hw.isDoorOf z d).mpr hs) l h).1

/-- A finish of another zone's sweep, with an offer of its slot that leaves the zone waiting or begins its sweep. -/
theorem State.WaitsOrBegun.finishBy {n : Nat} (hw : Work s p) (hl : p.Local z none)
    (hm : (p.zone z).marker = some m)
    (hloop : ∀ q, Work s q → q.Local z none → (q.zone z).marker = some m →
      s.WaitsOrBegun q (State.offerLoop n k q) z m) : s.WaitsOrBegun p (p.finishBy n k) z m := by
  cases hf : p.isFinished k with
  | false =>
    rw [State.finishBy_going hf]
    exact .inl (.refl p)
  | true =>
    obtain ⟨w, hs⟩ := State.isFinished_slot hf
    have hwz : w.zone ≠ z := fun h => nomatch (hl.slots k w hs).mp h
    have hc : State.Tended (Touch.aside s z none) p (p.closed k w) :=
      (State.Tended.leaveDoors fun d hd => hl.not_linked hw hd).trans (.closeSweep (fun h => nomatch h) hwz false)
    have hwc := hw.trans hc.moves.work
    have hlo := hloop (p.closed k w) hwc (hl.tended hw hc) ((hc.moves.zone_outside Touch.not_zone_aside).1.trans hm)
    rw [State.finishBy_done hf hs]
    refine .before hc (hlo.loadUnder (hwc.trans ?_) w.zone)
    exact (State.Tended.offerLoop (A := Touch.all) n (Touch.offers_all k _)).moves.work

/-- A loop of offers of a slot leaves the zone waiting, or its sweep begins. -/
theorem State.WaitsOrBegun.offerLoop (hb : ∀ y, ¬ s.Barred y) (n : Nat) (hw : Work s p) (hl : p.Local z none)
    (hm : (p.zone z).marker = some m) : s.WaitsOrBegun p (State.offerLoop n k p) z m := by
  induction n generalizing p with
  | zero => exact .inl (.refl p)
  | succ n ih =>
    have hbp : ∀ y, ¬ p.Barred y := fun y h => hb y ((hw.barred y).mp h)
    rcases State.offerLoop_calm hbp n k with h | ⟨y, my, hy, h⟩
    · rw [h]
      exact .inl (.refl p)
    · rw [h]
      by_cases hyz : y = z
      · subst hyz
        obtain rfl : my = m := Option.some.inj (hy.symm.trans hm)
        exact .inr (State.begun_start hw hl hb n)
      · have hs : State.Tended (Touch.aside s z none) p (p.startIn k y my.direction my.origin) :=
          .startIn (fun h => nomatch h) hyz (fun d hd hz => hyz (hd.2.symm.trans ((hw.isDoorOf z d).mpr hz).2)) _ _
        exact .before hs (.finishBy (hw.trans hs.moves.work) (hl.tended hw hs)
          ((hs.moves.zone_outside Touch.not_zone_aside).1.trans hm) fun q hq hlq hmq => ih hq hlq hmq)

/-- The start of another zone's sweep. -/
theorem State.WaitsOrBegun.startSweep (hb : ∀ y, ¬ s.Barred y) (hw : Work s p) (hl : p.Local z none)
    (hm : (p.zone z).marker = some m) {y : ZoneNo} (hyz : y ≠ z) (dir : Direction) (o : Origin) :
    s.WaitsOrBegun p (p.startSweep k y dir o) z m := by
  have hs : State.Tended (Touch.aside s z none) p (p.startIn k y dir o) :=
    .startIn (fun h => nomatch h) hyz (fun d hd hz => hyz (hd.2.symm.trans ((hw.isDoorOf z d).mpr hz).2)) _ _
  rw [State.startSweep_eq]
  exact .before hs (.finishBy (hw.trans hs.moves.work) (hl.tended hw hs)
    ((hs.moves.zone_outside Touch.not_zone_aside).1.trans hm) fun q hq hlq hmq => .offerLoop hb 33 hq hlq hmq)

/-- The giving of another zone's marker leaves the zone waiting, or its sweep begins. -/
theorem State.WaitsOrBegun.give (hb : ∀ y, ¬ s.Barred y) (hw : Work s p) (hl : p.Local z none)
    (hm : (p.zone z).marker = some m) {y : ZoneNo} (hyz : y ≠ z) (dir : Direction) (o : Origin) :
    s.WaitsOrBegun p (p.give y dir o).1 z m := by
  have hby : dir = .lock → ¬ p.Barred y := fun _ h => hb y ((hw.barred y).mp h)
  rw [State.give_eq hby]
  split
  · next k w hs =>
      have hk : p.slot k = some w := State.mem_sweeps.mp (List.mem_of_find?_eq_some hs)
      split
      · exact .inl (.refl p)
      · have hwz : w.zone ≠ z := fun h => nomatch (hl.slots k w hk).mp h
        have hc : State.Tended (Touch.aside s z none) p (p.cancelSweep k) :=
          .cancelOf hk (fun h => nomatch h) hwz fun d hd => hl.not_linked hw hd
        exact .before hc (.startSweep hb (hw.trans hc.moves.work) (hl.tended hw hc)
          ((hc.moves.zone_outside Touch.not_zone_aside).1.trans hm) hyz _ _)
  · split
    · exact .startSweep hb hw hl hm hyz _ _
    · exact .inl (.recordMarker hyz _ _)

end

/-- The giving of another zone's marker leaves a zone alone that does not wait. -/
theorem State.Tended.giveAside {s p : State} {z : ZoneNo} {o : Option SlotNo} (hb : ∀ y, ¬ s.Barred y) (hw : Work s p)
    (hl : p.Local z o) (hm : (p.zone z).marker = none) {y : ZoneNo} (hyz : y ≠ z) (dir : Direction) (org : Origin) :
    State.Tended (Touch.aside s z o) p (p.give y dir org).1 := by
  have hby : dir = .lock → ¬ p.Barred y := fun _ h => hb y ((hw.barred y).mp h)
  rw [State.give_eq hby]
  split
  · next k w hs =>
      have hk : p.slot k = some w := State.mem_sweeps.mp (List.mem_of_find?_eq_some hs)
      have hwy : w.zone = y := by simpa using List.find?_some hs
      have hok : o ≠ some k := fun h => hyz (hwy.symm.trans ((hl.slots k w hk).mpr h))
      split
      · exact .refl p
      · have hoff := hl.offers hw hm hok
        have hc : State.Tended (Touch.aside s z o) p (p.cancelSweep k) := .cancelSweep hoff
        exact hc.trans (.startSweep (hoff.moves hc.moves) hyz _ _)
  · split
    · next k hk =>
        have hfree : p.slot k = none :=
          Option.isNone_iff_eq_none.mp (List.find?_some (p := fun k => (p.slot k).isNone) hk)
        exact .startSweep (hl.offers hw hm fun h => hl.held k h hfree) hyz _ _
    · exact .recordMarker hyz _ _

end Sys2Proof.Machine


namespace Sys2Proof.Machine

/-! ### The cancel of a zone's sweep before its other direction is given (R60) -/

theorem State.cancelDoors_sameLinks {s : State} (l : List (DoorNo × Count)) (h : ∀ e ∈ l, (s.door e.1).sweep = none) :
    s.SameLinks (forEach l State.cancelDoor s) := by
  induction l generalizing s with
  | nil => exact fun _ => rfl
  | cons e l ih =>
    obtain ⟨-, hs⟩ := State.cancelDoor_unlinked (K := fun _ => False) (h e List.mem_cons_self)
    exact hs.trans (ih fun x hx => (hs x.1).trans (h x (List.mem_cons_of_mem e hx)))

/-- The links after a cancel in ACTIVE are those to other slots (R78). -/
theorem State.sweep_cancelSweep {s : State} {k : SlotNo} {w : Sweep} (hw : s.slot k = some w) (ha : w.phase = .active)
    (d : DoorNo) : ((s.cancelSweep k).door d).sweep = if (s.door d).linkedTo k then none else (s.door d).sweep := by
  have hlinks : (s.unlinkAll k).SameLinks (s.stopSweep k w) := by
    rw [State.stopSweep_active ha]
    refine State.cancelDoors_sameLinks _ fun e he => ?_
    have hl : (s.door e.1).linkedTo k = true := by simp [Door.linkedTo, (State.mem_linkedDoors.mp he).2]
    rw [State.door_unlinkAll, if_pos hl]
  rw [State.door_cancelSweep hw, hlinks d, State.door_unlinkAll]
  split <;> rfl

theorem State.Local.cancelSweep {p : State} {z : ZoneNo} {k : SlotNo} (h : p.Local z (some k)) :
    (p.cancelSweep k).Local z none := by
  obtain ⟨w, hw⟩ := Option.ne_none_iff_exists'.mp (h.held k rfl)
  have hwork : Work p (p.cancelSweep k) := (State.cancelled hw).work
  refine ⟨fun j v hv => ?_, fun _ h => (nomatch h), fun d hd l hl => ?_, fun h => absurd rfl h⟩
  · by_cases hjk : j = k
    · rw [hjk, State.slot_cancelSweep] at hv
      cases hv
    · rw [State.slot_cancelSweep_ne p hjk] at hv
      exact iff_of_false (fun hz => hjk (Option.some.inj ((h.slots j v hv).mp hz)).symm) fun h => nomatch h
  · have hdp := (hwork.isDoorOf z d).mp hd
    cases hph : w.phase with
    | warning c =>
      have hdoor : (p.cancelSweep k).door d = p.door d := by rw [State.door, State.doors_cancelSweep hw hph]; rfl
      rw [hdoor] at hl
      obtain ⟨hk, hact⟩ := h.links d hdp l hl
      cases hk
      exact nomatch hph.symm.trans (hact w hw)
    | active =>
      rw [State.sweep_cancelSweep hw hph] at hl
      split at hl
      · cases hl
      · next hnot =>
          obtain ⟨hk, -⟩ := h.links d hdp l hl
          cases hk
          exact absurd (show (p.door d).linkedTo l.slot = true by simp [Door.linkedTo, hl]) hnot

/-! ### The giving of a zone's own marker after the alarm (R55, R56, R58, R60) -/

section
variable {s p : State} {z : ZoneNo} {o : Option SlotNo}

theorem State.Local.sweepOf {k : SlotNo} {w : Sweep} (h : p.Local z (some k)) (hw : p.slot k = some w) :
    p.sweepOf z = some (k, w) := by
  have hz : w.zone = z := (h.slots k w hw).mpr rfl
  rw [← hz]
  exact State.sweepOf_of_only hw fun j v hj hv he =>
    hj (Option.some.inj ((h.slots j v hv).mp (he.trans hz))).symm

theorem State.Local.not_hasSweep (h : p.Local z none) : ¬ p.HasSweep z := by
  rintro ⟨k, hk⟩
  obtain ⟨w, hw, hz⟩ := Option.map_eq_some_iff.mp hk
  exact nomatch (h.slots k w hw).mp hz

theorem State.begun_startSweep (hw : Work s p) (hl : p.Local z none) (hb : ∀ y, ¬ s.Barred y) (k : SlotNo)
    (dir : Direction) (org : Origin) : ∃ o, s.Begun (p.startSweep k z dir org) z o dir org := by
  rw [State.startSweep_eq]
  exact State.begun_start hw hl hb 33

/-- What a giving of LOCK with origin RESTORE does to its zone. -/
theorem State.give_restore (hb : ∀ y, ¬ s.Barred y) (hw : Work s p) (hl : p.Local z o) :
    ((∃ k w, o = some k ∧ p.slot k = some w ∧ w.direction = .lock) ∧ (p.give z .lock .restore).1 = p) ∨
    ((∀ k w, o = some k → p.slot k = some w → w.direction ≠ .lock) ∧
      ∃ o', s.Begun (p.give z .lock .restore).1 z o' .lock .restore) ∨
    (o = none ∧ (p.give z .lock .restore).1 = p.recordMarker z .lock .restore) := by
  have hbz : Direction.lock = .lock → ¬ p.Barred z := fun _ h => hb z ((hw.barred z).mp h)
  cases o with
  | some k =>
    obtain ⟨w, hk⟩ := Option.ne_none_iff_exists'.mp (hl.held k rfl)
    by_cases hd : w.direction = .lock
    · exact .inl ⟨⟨k, w, rfl, hk, hd⟩, by rw [State.give_ignored hbz (hl.sweepOf hk) hd]⟩
    · refine .inr (.inl ⟨fun j v hj hv => ?_, ?_⟩)
      · cases hj
        rw [hk] at hv
        cases hv
        exact hd
      · rw [State.give_eq hbz, hl.sweepOf hk]
        dsimp only
        rw [if_neg hd]
        exact State.begun_startSweep (hw.trans (State.cancelled hk).work) hl.cancelSweep hb k _ _
  | none =>
    rw [State.give_eq hbz, State.sweepOf_eq_none.mpr hl.not_hasSweep]
    dsimp only
    cases hf : p.freeSlot with
    | some k => exact .inr (.inl ⟨fun _ _ h => (nomatch h), State.begun_startSweep hw hl hb k _ _⟩)
    | none => exact .inr (.inr ⟨rfl, rfl⟩)

end

end Sys2Proof.Machine


namespace Sys2Proof.Machine

/-! ### The zones due at the end of an alarm, before and after their givings (R57, R142) -/

/-- The doors of a zone have the intent and the mark they had. -/
def State.KeptDoors (s p : State) (z : ZoneNo) : Prop :=
  ∀ d, s.IsDoorOf z d → (p.door d).intent = (s.door d).intent ∧ (p.door d).keepOpen = (s.door d).keepOpen

/-- A zone before its own giving: as it was, or its sweep has begun from the marker it waited with. -/
inductive State.NotYetGiven (s p : State) (z : ZoneNo) : Prop where
  | stands (o : Option SlotNo) (h₀ : s.Local z o) (h : p.Local z o) (hm : (p.zone z).marker = (s.zone z).marker)
      (hs : ∀ k, o = some k → p.slot k = s.slot k) (hd : s.KeptDoors p z)
  | begun (o : Option SlotNo) (m : Marker) (hm : (s.zone z).marker = some m) (h : s.Begun p z o m.direction m.origin)

/-- The zone has a LOCK sweep. -/
def State.LocksNow (s : State) (z : ZoneNo) : Prop := ∃ k w, s.slot k = some w ∧ w.zone = z ∧ w.direction = .lock

/-- A zone after its own giving of LOCK with origin RESTORE: its LOCK sweep ran on, its sweep has begun, or it waits. -/
inductive State.Given (s p : State) (z : ZoneNo) : Prop where
  | ignored (k : SlotNo) (w : Sweep) (hs : s.slot k = some w) (hz : w.zone = z) (hw : w.direction = .lock)
      (hp : p.slot k = some w) (h : p.Local z (some k)) (hm : (p.zone z).marker = none) (hd : s.KeptDoors p z)
  | begun (o : Option SlotNo) (org : Origin) (hg : org = .restore ∨ (s.zone z).marker = some ⟨.lock, org⟩)
      (hn : ¬ s.LocksNow z) (h : s.Begun p z o .lock org)
  | waits (n : Nat) (h : p.Local z none) (hm : (p.zone z).marker = some ⟨.lock, .restore⟩) (hn : ¬ s.LocksNow z)
      (ht : p.noticeSet.Tells s.clock.stamp .sweepWaiting (.zone z) (.sweepWaiting .lock .restore n))
      (hd : (s.zone z).marker = none → s.KeptDoors p z)

section
variable {s p q : State} {z : ZoneNo} {o : Option SlotNo}

theorem State.KeptDoors.tended (h : s.KeptDoors p z) (ht : State.Tended (Touch.aside s z o) p q) : s.KeptDoors q z :=
  fun d hd => by
    obtain ⟨hi, hk, -, -⟩ := ht.moves.marks_outside (Touch.not_door_aside hd)
    obtain ⟨hi', hk'⟩ := h d hd
    exact ⟨hi.trans hi', hk.trans hk'⟩

/-- A sweep that stands keeps a marker of its zone away. -/
theorem State.SweepLaw.not_locksNow (hs : s.SweepLaw) {m : Marker} (hm : (s.zone z).marker = some m) : ¬ s.LocksNow z := by
  rintro ⟨k, w, hw, hz, -⟩
  have := hs.2 k w hw
  rw [hz, hm] at this
  cases this

theorem State.Local.not_locksNow (h : s.Local z o) (hl : ∀ k w, o = some k → s.slot k = some w → w.direction ≠ .lock) :
    ¬ s.LocksNow z := by
  rintro ⟨k, w, hw, hz, hd⟩
  exact hl k w ((h.slots k w hw).mp hz) hw hd

/-! ### The givings of other zones -/

section
variable (hb : ∀ y, ¬ s.Barred y) (hw : Work s p) {y : ZoneNo} (hyz : y ≠ z)
include hb hw hyz

theorem State.NotYetGiven.other (h : s.NotYetGiven p z) : s.NotYetGiven (p.give y .lock .restore).1 z := by
  cases h with
  | begun o m hm h =>
    exact .begun o m hm (h.tended hw (.giveAside hb hw h.at_slot h.marker hyz _ _))
  | stands o h₀ h hm hs hd =>
    have keep : ∀ {q}, State.Tended (Touch.aside s z o) p q → s.NotYetGiven q z := fun ht =>
      .stands o h₀ (h.tended hw ht) ((ht.moves.zone_outside Touch.not_zone_aside).1.trans hm)
        (fun k hk => (ht.slots k (Touch.not_slot_aside hk)).trans (hs k hk)) (hd.tended ht)
    cases hmp : (p.zone z).marker with
    | none => exact keep (.giveAside hb hw h hmp hyz _ _)
    | some m =>
      obtain rfl : o = none := by
        by_contra ho
        rw [h.marker ho] at hmp
        cases hmp
      rcases State.WaitsOrBegun.give hb hw h hmp hyz .lock .restore with ht | ⟨o', hbeg⟩
      · exact keep ht
      · exact .begun o' m (hm.symm.trans hmp) hbeg

theorem State.Given.other (h : s.Given p z) : s.Given (p.give y .lock .restore).1 z := by
  cases h with
  | ignored k w hs hz hlock hp h hm hd =>
    have ht := State.Tended.giveAside hb hw h hm hyz .lock .restore
    exact .ignored k w hs hz hlock ((ht.slots k (Touch.not_slot_aside rfl)).trans hp) (h.tended hw ht)
      ((ht.moves.zone_outside Touch.not_zone_aside).1.trans hm) (hd.tended ht)
  | begun o org hg hn h => exact .begun o org hg hn (h.tended hw (.giveAside hb hw h.at_slot h.marker hyz _ _))
  | waits n h hm hn htells hd =>
    rcases State.WaitsOrBegun.give hb hw h hm hyz .lock .restore with ht | ⟨o', hbeg⟩
    · exact .waits n (h.tended hw ht) ((ht.moves.zone_outside Touch.not_zone_aside).1.trans hm) hn
        (ht.notices.tells Touch.not_zone_aside htells) fun g => (hd g).tended ht
    · exact .begun o' .restore (.inl rfl) hn hbeg

end

/-! ### The giving of the zone itself -/

theorem State.Given.waiting (hw : Work s p) (h : p.Local z none) (hn : ¬ s.LocksNow z)
    (hd : (s.zone z).marker = none → s.KeptDoors p z) : s.Given (p.recordMarker z .lock .restore) z := by
  have ht : State.Tended (Touch.inSlot 0) p (p.recordMarker z .lock .restore) := .recordMarker trivial _ _
  have hslot : ∀ k, (p.recordMarker z .lock .restore).slot k = p.slot k := fun k => by rw [State.recordMarker_eq]; rfl
  have hdoor : ∀ d, (p.recordMarker z .lock .restore).door d = p.door d := fun d => by rw [State.recordMarker_eq]; rfl
  obtain ⟨n, htells⟩ : ∃ n, (p.recordMarker z .lock .restore).noticeSet.Tells s.clock.stamp .sweepWaiting (.zone z)
      (.sweepWaiting .lock .restore n) := by
    rw [State.recordMarker_eq, ← hw.clock_eq]
    exact ⟨_, .raised _ _ _ _ _⟩
  refine .waits n ⟨fun k w hk => h.slots k w ((hslot k).symm.trans hk), fun _ h => (nomatch h), fun d hi l hl => ?_,
    fun h => absurd rfl h⟩ ?_ hn htells fun g d hi => by rw [hdoor]; exact hd g d hi
  · rw [hdoor] at hl
    rw [hslot]
    exact h.links d ((ht.moves.work.isDoorOf z d).mp hi) l hl
  · rw [State.zone_of_set (congrArg State.zones (State.recordMarker_eq p z .lock .restore))]

theorem State.NotYetGiven.given (hb : ∀ y, ¬ s.Barred y) (hs : s.SweepLaw) (hw : Work s p) (h : s.NotYetGiven p z) :
    s.Given (p.give z .lock .restore).1 z := by
  cases h with
  | stands o h₀ h hm hk hd =>
    rcases State.give_restore hb hw h with ⟨⟨k, w, ho, hp, hlock⟩, hgive⟩ | ⟨hno, o', hbeg⟩ | ⟨ho, hgive⟩
    · subst ho
      rw [hgive]
      exact .ignored k w ((hk k rfl).symm.trans hp) ((h.slots k w hp).mpr rfl) hlock hp h (h.marker (by simp)) hd
    · exact .begun o' .restore (.inl rfl)
        (h₀.not_locksNow fun k w ho hw => hno k w ho ((hk k ho).trans hw)) hbeg
    · subst ho
      rw [hgive]
      exact .waiting hw h (h₀.not_locksNow fun _ _ h => (nomatch h)) fun _ => hd
  | begun o m hm h =>
    have hn := hs.not_locksNow hm
    rcases State.give_restore hb hw h.at_slot with ⟨⟨k, w, ho, hp, hlock⟩, hgive⟩ | ⟨-, o', hbeg⟩ | ⟨ho, hgive⟩
    · obtain ⟨v, hv, -, hdir, -⟩ := h.going k ho
      have hmd : m.direction = .lock := by
        rw [← hdir, Option.some.inj (hv.symm.trans hp)]
        exact hlock
      obtain ⟨dir, org⟩ := m
      obtain rfl : dir = .lock := hmd
      rw [hgive]
      exact .begun o org (.inr hm) hn h
    · exact .begun o' .restore (.inl rfl) hn hbeg
    · subst ho
      rw [hgive]
      exact .waiting hw h.at_slot hn fun g => by rw [hm] at g; cases g

end

end Sys2Proof.Machine


namespace Sys2Proof.Machine

/-! ### Several zones given one after another (R57) -/

section
variable {s p : State} {z : ZoneNo} {l : List (ZoneNo × Direction)}

theorem State.giveList_cons (o : Origin) (z : ZoneNo) (dir : Direction) (l : List (ZoneNo × Direction)) (p : State) :
    (State.giveList o ((z, dir) :: l) p).1 = (State.giveList o l (p.give z dir o).1).1 := rfl

theorem State.NotYetGiven.others (hb : ∀ y, ¬ s.Barred y) (hl : ∀ e ∈ l, e.2 = .lock) (hz : ∀ e ∈ l, e.1 ≠ z)
    (hw : Work s p) (h : s.NotYetGiven p z) : s.NotYetGiven (State.giveList .restore l p).1 z := by
  induction l generalizing p with
  | nil => exact h
  | cons e l ih =>
    obtain ⟨y, dir⟩ := e
    obtain rfl : dir = .lock := hl _ List.mem_cons_self
    rw [State.giveList_cons]
    exact ih (fun e he => hl e (List.mem_cons_of_mem _ he)) (fun e he => hz e (List.mem_cons_of_mem _ he))
      (hw.trans (.give y .lock .restore)) (h.other hb hw (hz _ List.mem_cons_self))

theorem State.Given.others (hb : ∀ y, ¬ s.Barred y) (hl : ∀ e ∈ l, e.2 = .lock) (hz : ∀ e ∈ l, e.1 ≠ z)
    (hw : Work s p) (h : s.Given p z) : s.Given (State.giveList .restore l p).1 z := by
  induction l generalizing p with
  | nil => exact h
  | cons e l ih =>
    obtain ⟨y, dir⟩ := e
    obtain rfl : dir = .lock := hl _ List.mem_cons_self
    rw [State.giveList_cons]
    exact ih (fun e he => hl e (List.mem_cons_of_mem _ he)) (fun e he => hz e (List.mem_cons_of_mem _ he))
      (hw.trans (.give y .lock .restore)) (h.other hb hw (hz _ List.mem_cons_self))

/-- Each zone of the list has its turn. -/
theorem State.NotYetGiven.inTurn (hb : ∀ y, ¬ s.Barred y) (hs : s.SweepLaw) (hl : ∀ e ∈ l, e.2 = .lock)
    (hn : (l.map Prod.fst).Nodup) (hz : z ∈ l.map Prod.fst) (hw : Work s p) (h : s.NotYetGiven p z) :
    s.Given (State.giveList .restore l p).1 z := by
  induction l generalizing p with
  | nil => exact absurd hz List.not_mem_nil
  | cons e l ih =>
    obtain ⟨y, dir⟩ := e
    obtain rfl : dir = .lock := hl _ List.mem_cons_self
    obtain ⟨hy, hn⟩ := List.nodup_cons.mp hn
    have hl' : ∀ e ∈ l, e.2 = .lock := fun e he => hl e (List.mem_cons_of_mem _ he)
    have hw' : Work s (p.give y .lock .restore).1 := hw.trans (.give y .lock .restore)
    rw [State.giveList_cons]
    by_cases hyz : y = z
    · subst hyz
      exact State.Given.others hb hl' (fun e he hne => hy (List.mem_map.mpr ⟨e, he, hne⟩)) hw' (h.given hb hs hw)
    · exact ih hl' hn ((List.mem_cons.mp hz).resolve_left (Ne.symm hyz)) hw' (h.other hb hw hyz)

/-- The zones of a set that is given LOCK with origin RESTORE, and the others. -/
theorem State.restored (hb : ∀ y, ¬ s.Barred y) (hs : s.SweepLaw) (hloc : ∀ y, ∃ o, s.Local y o) {due : List ZoneNo}
    (hn : due.Nodup) : (∀ y ∈ due, s.Given (s.giveSet .restore (due.map (fun z => (z, .lock)))).1 y) ∧
      ∀ y, y ∉ due → s.NotYetGiven (s.giveSet .restore (due.map (fun z => (z, .lock)))).1 y := by
  have hperm := sortByKey_perm (fun e : ZoneNo × Direction => (s.zone e.1).rank) (due.map (fun z => (z, .lock)))
  have hlock : ∀ e ∈ sortByKey (fun e : ZoneNo × Direction => (s.zone e.1).rank) (due.map (fun z => (z, .lock))),
      e.2 = .lock := fun e he => by
    obtain ⟨z, -, rfl⟩ := List.mem_map.mp (hperm.mem_iff.mp he)
    rfl
  have hfst : (due.map (fun z => (z, Direction.lock))).map Prod.fst = due := by
    rw [List.map_map]
    exact List.map_id due
  have hzones := hperm.map Prod.fst
  rw [hfst] at hzones
  have hstart : ∀ y, s.NotYetGiven s y := fun y => by
    obtain ⟨o, ho⟩ := hloc y
    exact .stands o ho ho rfl (fun _ _ => rfl) fun _ _ => ⟨rfl, rfl⟩
  refine ⟨fun y hy => (hstart y).inTurn hb hs hlock (hzones.nodup_iff.mpr hn) (hzones.mem_iff.mpr hy) (.refl s),
    fun y hy => (hstart y).others hb hlock (fun e he hey => hy ?_) (.refl s)⟩
  exact hzones.mem_iff.mp (List.mem_map.mpr ⟨e, he, hey⟩)

end

/-- A lawful state shows each zone's sweep and the doors linked to it (1.2). -/
theorem State.local_of_laws {s : State} (hs : s.SweepLaw)
    (hc : ∀ d, ∀ l ∈ (s.door d).sweep, ∃ w ∈ s.slot l.slot, w.phase = .active ∧ w.zone = (s.door d).zone) (z : ZoneNo) :
    ∃ o, s.Local z o := by
  have hlink : ∀ d, s.IsDoorOf z d → ∀ l, (s.door d).sweep = some l → ∃ w, s.slot l.slot = some w ∧ w.phase = .active ∧
      w.zone = z := fun d hd l hl => by
    obtain ⟨w, hw, ha, hz⟩ := hc d l hl
    exact ⟨w, hw, ha, hz.trans hd.2⟩
  by_cases h : ∃ k w, s.slot k = some w ∧ w.zone = z
  · obtain ⟨k, w, hw, hz⟩ := h
    refine ⟨some k, fun j v hv => ⟨fun hvz => ?_, fun hj => ?_⟩, fun j hj => ?_, fun d hd l hl => ?_, fun _ => hz ▸ hs.2 k w hw⟩
    · rw [hs.1 j k v hv w hw (hvz.trans hz.symm)]
    · cases hj
      rw [Option.some.inj (hv.symm.trans hw)]
      exact hz
    · cases hj
      rw [hw]
      exact fun h => nomatch h
    · obtain ⟨v, hv, ha, hvz⟩ := hlink d hd l hl
      refine ⟨by rw [hs.1 l.slot k v hv w hw (hvz.trans hz.symm)], fun u hu => ?_⟩
      rw [Option.some.inj (hu.symm.trans hv)]
      exact ha
  · refine ⟨none, fun j v hv => iff_of_false (fun hz => h ⟨j, v, hv, hz⟩) fun h => (nomatch h), fun _ h => (nomatch h),
      fun d hd l hl => ?_, fun h => absurd rfl h⟩
    obtain ⟨v, hv, -, hz⟩ := hlink d hd l hl
    exact absurd ⟨l.slot, v, hv, hz⟩ h

end Sys2Proof.Machine


namespace Sys2Proof.Machine

/-! ### The zones derived again (R48) -/

theorem State.rederiveAll_eq (s : State) :
    s.rederiveAll = { s with zones := Vector.ofFn (fun z : ZoneNo => { s.zone z with state := s.deriveZone z }) } := by
  have hzone : ∀ l : List ZoneNo, l.Nodup → ∀ (q : State) (y : ZoneNo), (forEach l State.rederive q).zone y =
      if y ∈ l then { q.zone y with state := q.deriveZone y } else q.zone y := fun l hl => by
    induction l with
    | nil => exact fun _ _ => rfl
    | cons a l ih =>
      intro q y
      obtain ⟨ha, hl⟩ := List.nodup_cons.mp hl
      refine (ih hl (q.rederive a) y).trans ?_
      rw [State.deriveZone_rederive, State.zone_rederive]
      by_cases hy : y = a
      · subst hy
        simp [ha]
      · simp [hy]
  have hrest : s.rederiveAll.setZones = s.setZones := forEach_same (f := State.rederive) _ (fun _ _ => rfl) s
  have hzones : s.rederiveAll.zones = Vector.ofFn (fun z : ZoneNo => { s.zone z with state := s.deriveZone z }) := by
    refine Vector.ext fun i hi => ?_
    rw [Vector.getElem_ofFn]
    exact (hzone (List.finRange 32) (List.nodup_finRange 32) s ⟨i, hi⟩).trans (if_pos (List.mem_finRange _))
  rw [← hzones]
  exact (State.setZones_self _).symm.trans (congrFun hrest _)

/-! ### The end of the alarm (R142) -/

/-- The fire state is NORMAL, the fire doors are at rest, and the zones are derived again; nothing is given yet. -/
def State.calmed (s : State) : State :=
  State.rederiveAll { s.later with fire := .normal, doors := mapAll Door.fireOver s.doors }

def State.barredZones (s : State) : List ZoneNo := (List.finRange 32).filter (fun z => decide (s.Barred z))

def State.dueZones (s : State) : List ZoneNo := s.barredZones.filter s.inLockedPeriod

theorem State.calmed_zones (s : State) : ∃ v, s.calmed =
    { s.later with fire := .normal, doors := mapAll Door.fireOver s.doors, zones := v } ∧
    ∀ z : ZoneNo, ∃ st, v[z.val] = { s.zone z with state := st } := by
  let u : State := { s.later with fire := .normal, doors := mapAll Door.fireOver s.doors }
  exact ⟨_, State.rederiveAll_eq u, fun z => ⟨u.deriveZone z, Vector.getElem_ofFn _⟩⟩

/-- The end of an alarm, in the words of the statement, is the calmed state with the reply. -/
theorem State.alarmOver_eq (s : State) (barred due : List ZoneNo) : s.alarmOver barred due =
    { s.calmed with blockResult := some ⟨.ok, zoneSetBytes (zoneSetOf barred) ++ zoneSetBytes (zoneSetOf due)⟩ } := by
  have hf : Door.fireOver = fun x => if x.configured = true ∧ x.fire = true ∧ x.keepOpen = false then
      { x with intent := .none } else x := funext fun x => by
    simp [Door.fireOver, and_assoc]
  rw [State.calmed, State.rederiveAll_eq, mapAll_eq_map, hf]
  rfl

theorem State.zone_calmed (s : State) (z : ZoneNo) : ∃ st, s.calmed.zone z = { s.zone z with state := st } := by
  obtain ⟨v, hv, hz⟩ := s.calmed_zones
  rw [hv]
  exact hz z

theorem State.inLockedPeriod_calmed (s : State) (z : ZoneNo) : s.calmed.inLockedPeriod z = s.inLockedPeriod z := by
  obtain ⟨st, hz⟩ := s.zone_calmed z
  obtain ⟨v, hv, -⟩ := s.calmed_zones
  rw [State.inLockedPeriod, State.inLockedPeriod, hz, hv]
  rfl

theorem takeFireRestore_eq {s : State} (h : s.fire = .cleared) : takeFireRestore s.later =
    ((s.calmed.giveSet .restore (s.dueZones.map (fun z => (z, .lock)))).1,
      okWith (zoneSetBytes (zoneSetOf s.barredZones) ++ zoneSetBytes (zoneSetOf s.dueZones))) := by
  have hbarred : (List.finRange 32).filter s.later.fireBarred = s.barredZones :=
    List.filter_congr fun z _ => by
      rw [Bool.eq_iff_iff, decide_eq_true_iff]
      exact State.fireBarred_iff (s := s.later)
  have hdue : s.barredZones.filter s.calmed.inLockedPeriod = s.dueZones :=
    List.filter_congr fun z _ => s.inLockedPeriod_calmed z
  have htake : takeFireRestore s.later = s.later.fireRestore := by
    unfold takeFireRestore
    rw [show s.later.fire = .cleared from h]
  have hcalm : State.rederiveAll { s.later with fire := .normal, doors := mapAll Door.fireOver s.later.doors } = s.calmed := rfl
  rw [htake, State.fireRestore, hbarred, hcalm, hdue]

end Sys2Proof.Machine


namespace Sys2Proof.Machine

/-! ### What the end of an alarm leaves a zone due, and the doors it does not reach (R57, R59, R142) -/

section
variable {s t : State} {z : ZoneNo}

/-- The four outcomes of a zone due. -/
theorem State.Given.outcome (h : s.Given t z) :
    let given := fun o : Origin => o = .restore ∨ (s.zone z).marker = some ⟨.lock, o⟩
    (∃ k w, s.slot k = some w ∧ w.zone = z ∧ w.direction = .lock ∧ t.slot k = some w) ∨
    (∃ k w, t.slot k = some w ∧ w.zone = z ∧ w.direction = .lock ∧ given w.origin ∧
      (w.origin = .restore → w.phase = .active ∧
        ∀ d, s.IsDoorOf z d → s.held d = false → (t.door d).intent = .lock ∧ (t.door d).keepOpen = false)) ∨
    ((t.zone z).marker = some ⟨.lock, .restore⟩ ∧ ∃ n,
      t.noticeSet.Tells s.clock.stamp .sweepWaiting (.zone z) (.sweepWaiting .lock .restore n)) ∨
    (¬ t.HasSweep z ∧ (t.zone z).marker = none ∧ (t.zone z).last = some .lock ∧
      (∀ d, t.IsDoorOf z d → (t.door d).sweep = none) ∧
      (∀ d, s.IsDoorOf z d → s.held d = false → (t.door d).intent = .lock ∧ (t.door d).keepOpen = false) ∧
      ∃ o, ∃ counts : Counts, given o ∧ counts.pending = 0 ∧ t.noticeSet.Tells s.clock.stamp .sweepDone (.zone z)
        (.sweepDone .lock o false counts.sum counts)) := by
  cases h with
  | ignored k w hs hz hw hp _ _ _ => exact .inl ⟨k, w, hs, hz, hw, hp⟩
  | waits n _ hm _ ht _ => exact .inr (.inr (.inl ⟨hm, n, ht⟩))
  | begun o org hg _ h =>
    cases o with
    | some k =>
      obtain ⟨w, hs, hz, hd, rfl, hwant⟩ := h.going k rfl
      exact .inr (.inl ⟨k, w, hs, hz, hd, hg, hwant rfl⟩)
    | none =>
      obtain ⟨hlast, hwant, counts, hp, htells⟩ := h.done rfl
      refine .inr (.inr (.inr ⟨h.at_slot.not_hasSweep, h.marker, hlast, fun d hd => ?_, hwant rfl, org, counts, hg, hp, htells⟩))
      cases hl : (t.door d).sweep with
      | none => rfl
      | some l => exact nomatch (h.at_slot.links d hd l hl).1

/-- A zone that waits after its giving, or whose LOCK sweep ran on, has its doors as the end of the alarm left them. -/
theorem State.Given.kept (h : s.Given t z) (hm : (s.zone z).marker = none) (hr : (t.zone z).marker ≠ none ∨ s.LocksNow z) :
    s.KeptDoors t z := by
  cases h with
  | ignored _ _ _ _ _ _ _ _ hd => exact hd
  | waits _ _ _ _ _ hd => exact hd hm
  | begun o org _ hn h => exact absurd hr (not_or.mpr ⟨fun g => g h.marker, hn⟩)

theorem State.NotYetGiven.kept (h : s.NotYetGiven t z) (hm : (s.zone z).marker = none) : s.KeptDoors t z := by
  cases h with
  | stands _ _ _ _ _ hd => exact hd
  | begun _ _ hs _ => rw [hm] at hs; cases hs

end

/-! ### What the calmed state keeps -/

section
variable {s : State}

theorem Door.fireOver_kept (x : Door) : (Door.fireOver x).configured = x.configured ∧ (Door.fireOver x).zone = x.zone ∧
    (Door.fireOver x).sweep = x.sweep := by
  unfold Door.fireOver
  split <;> exact ⟨rfl, rfl, rfl⟩

theorem State.door_calmed (s : State) (d : DoorNo) : s.calmed.door d = Door.fireOver (s.door d) := by
  obtain ⟨v, hv, -⟩ := s.calmed_zones
  rw [hv]
  exact State.door_mapDoors s Door.fireOver d

theorem State.slot_calmed (s : State) (k : SlotNo) : s.calmed.slot k = s.slot k := by
  obtain ⟨v, hv, -⟩ := s.calmed_zones
  rw [hv]
  rfl

theorem State.marker_calmed (s : State) (z : ZoneNo) : (s.calmed.zone z).marker = (s.zone z).marker := by
  obtain ⟨st, hz⟩ := s.zone_calmed z
  rw [hz]

theorem State.isDoorOf_calmed (s : State) (z : ZoneNo) (d : DoorNo) : s.calmed.IsDoorOf z d ↔ s.IsDoorOf z d := by
  obtain ⟨hc, hz, -⟩ := (s.door d).fireOver_kept
  rw [State.IsDoorOf, State.IsDoorOf, State.door_calmed, hc, hz]

theorem State.held_calmed (s : State) (d : DoorNo) : s.calmed.held d = s.held d := by
  obtain ⟨hc, hz, -⟩ := (s.door d).fireOver_kept
  have hh : s.calmed.holds = s.holds := by
    obtain ⟨v, hv, -⟩ := s.calmed_zones
    rw [hv]
    rfl
  have hcov : (fun h : Hold => h.covers d (Door.fireOver (s.door d))) = fun h => h.covers d (s.door d) :=
    funext fun h => Hold.covers_congr rfl hc hz
  rw [State.held, State.held, hh, State.door_calmed, hcov]

theorem State.rest_calmed (s : State) : s.calmed.clock.stamp = s.clock.stamp ∧ s.calmed.noticeSet = s.noticeSet ∧
    s.calmed.fire = .normal ∧ s.calmed.slots = s.slots := by
  obtain ⟨v, hv, -⟩ := s.calmed_zones
  rw [hv]
  exact ⟨rfl, rfl, rfl, rfl⟩

theorem State.not_barred_calmed (s : State) (z : ZoneNo) : ¬ s.calmed.Barred z := fun h => h.1 s.rest_calmed.2.2.1

theorem State.SweepLaw.calmed (h : s.SweepLaw) : s.calmed.SweepLaw := by
  refine ⟨fun j k v hv w hw => ?_, fun k w hw => ?_⟩
  · rw [State.slot_calmed] at hv hw
    exact h.1 j k v hv w hw
  · rw [State.slot_calmed] at hw
    rw [State.marker_calmed]
    exact h.2 k w hw

theorem State.CountLaw.local_calmed (hs : s.SweepLaw) (hc : s.CountLaw) (z : ZoneNo) : ∃ o, s.calmed.Local z o := by
  refine State.local_of_laws hs.calmed (fun d l hl => ?_) z
  obtain ⟨-, hz, hsw⟩ := (s.door d).fireOver_kept
  rw [State.door_calmed, hsw] at hl
  rw [State.slot_calmed, State.door_calmed, hz]
  exact (hc.1 d l hl).2.2

end

end Sys2Proof.Machine


namespace Sys2Proof.Machine

section
variable {s t : State} {z : ZoneNo}

/-- The four outcomes of a zone due, read from the state before the alarm's end. -/
theorem State.Given.outcome_calmed (hw : Work s.calmed t) (h : s.calmed.Given t z) :
    let given := fun o : Origin => o = .restore ∨ (s.zone z).marker = some ⟨.lock, o⟩
    (∃ k w, s.slot k = some w ∧ w.zone = z ∧ w.direction = .lock ∧ t.slot k = some w) ∨
    (∃ k w, t.slot k = some w ∧ w.zone = z ∧ w.direction = .lock ∧ given w.origin ∧
      (w.origin = .restore → w.phase = .active ∧
        ∀ d, s.IsDoorOf z d → s.held d = false → (t.door d).intent = .lock ∧ (t.door d).keepOpen = false)) ∨
    ((t.zone z).marker = some ⟨.lock, .restore⟩ ∧ ∃ n,
      t.noticeSet.Tells s.clock.stamp .sweepWaiting (.zone z) (.sweepWaiting .lock .restore n)) ∨
    (¬ t.HasSweep z ∧ (t.zone z).marker = none ∧ (t.zone z).last = some .lock ∧
      (∀ d, s.IsDoorOf z d → (t.door d).sweep = none ∧
        (s.held d = false → (t.door d).intent = .lock ∧ (t.door d).keepOpen = false)) ∧
      ∃ o, ∃ counts : Counts, given o ∧ counts.pending = 0 ∧ t.noticeSet.Tells s.clock.stamp .sweepDone (.zone z)
        (.sweepDone .lock o false counts.sum counts)) := by
  have hout := h.outcome
  dsimp only at hout ⊢
  simp only [State.slot_calmed, State.marker_calmed, State.isDoorOf_calmed, State.held_calmed, s.rest_calmed.1] at hout
  refine hout.imp id (.imp id (.imp id ?_))
  rintro ⟨hfree, hm, hl, hlinks, hwant, hnotice⟩
  exact ⟨hfree, hm, hl, fun d hd => ⟨hlinks d ((hw.isDoorOf z d).mpr ((s.isDoorOf_calmed z d).mpr hd)), hwant d hd⟩, hnotice⟩

end

section
variable {s : State}

theorem State.dueZones_nodup (s : State) : s.dueZones.Nodup := ((List.nodup_finRange 32).filter _).filter _

/-- What the givings of the zones due make of the calmed state (R142 step 5). -/
def State.restoredZones (s : State) : State := (s.calmed.giveSet .restore (s.dueZones.map (fun z => (z, .lock)))).1

theorem State.work_restoredZones (s : State) : Work s.calmed s.restoredZones := .giveSet _ _

/-- An operation that leaves one door alone. -/
def Touch.exceptDoor (d : DoorNo) : Touch := ⟨(· ≠ d), fun _ => True, fun _ => True⟩

/-- Offers leave a door alone that is not configured and not linked. -/
theorem Touch.offers_exceptDoor {d : DoorNo} (hc : (s.door d).configured = false) (hs : (s.door d).sweep = none) (k : SlotNo) :
    (Touch.exceptDoor d).Offers k s where
  slot := trivial
  sweep _ _ := trivial
  zone _ _ := trivial
  door z _ e he := by
    rintro rfl
    exact Bool.false_ne_true (hc.symm.trans he.1)
  linked e he := by
    rintro rfl
    unfold Door.linkedTo at he
    rw [hs] at he
    cases he

/-- A door that is not configured keeps its intent and its mark. -/
theorem State.restoredZones_unconfigured (hc : s.CountLaw) {d : DoorNo} (hd : (s.door d).configured = false) :
    (s.restoredZones.door d).intent = (s.calmed.door d).intent ∧
      (s.restoredZones.door d).keepOpen = (s.calmed.door d).keepOpen := by
  obtain ⟨hconf, -, hsw⟩ := (s.door d).fireOver_kept
  have hlink : (s.door d).sweep = none := by
    cases hl : (s.door d).sweep with
    | none => rfl
    | some l => exact absurd (hd.symm.trans (hc.1 d l hl).1) Bool.false_ne_true
  have ht : State.Tended (Touch.exceptDoor d) s.calmed s.restoredZones :=
    .giveSet (Touch.offers_exceptDoor (by rw [State.door_calmed, hconf, hd]) (by rw [State.door_calmed, hsw, hlink])) _ _
      fun _ _ => trivial
  obtain ⟨hi, hk, -, -⟩ := ht.moves.marks_outside (d := d) fun h => h rfl
  exact ⟨hi, hk⟩

/-- The zones due, and the doors whose intent and mark the end of the alarm decides alone (R57, R59, R142). -/
theorem State.restoredZones_spec (hs : s.SweepLaw) (hc : s.CountLaw) :
    (∀ z ∈ s.dueZones, s.calmed.Given s.restoredZones z) ∧
    ∀ d, (s.zone (s.door d).zone).marker = none →
      ((s.door d).zone ∉ s.dueZones ∨ (s.restoredZones.zone (s.door d).zone).marker ≠ none ∨ s.LocksNow (s.door d).zone) →
      (s.restoredZones.door d).intent = (s.calmed.door d).intent ∧
        (s.restoredZones.door d).keepOpen = (s.calmed.door d).keepOpen := by
  obtain ⟨hdue, hothers⟩ := State.restored (s := s.calmed) s.not_barred_calmed hs.calmed (hc.local_calmed hs) s.dueZones_nodup
  refine ⟨hdue, fun d hm hd => ?_⟩
  by_cases hconf : (s.door d).configured = true
  · have hdoor : s.calmed.IsDoorOf (s.door d).zone d := (s.isDoorOf_calmed _ d).mpr ⟨hconf, rfl⟩
    rw [← s.marker_calmed] at hm
    by_cases hz : (s.door d).zone ∈ s.dueZones
    · have hlocks : s.calmed.LocksNow (s.door d).zone ↔ s.LocksNow (s.door d).zone := by
        simp only [State.LocksNow, State.slot_calmed]
      have hr := hd.resolve_left fun h => h hz
      exact (hdue _ hz).kept hm (hr.imp id hlocks.mpr) d hdoor
    · exact (hothers _ hz).kept hm d hdoor
  · exact State.restoredZones_unconfigured hc (Bool.eq_false_iff.mpr hconf)

end

end Sys2Proof.Machine


namespace Sys2Proof.Machine

/-! ### Cancels do not read the markers (R77 to R79)

Each operation of a cancel does the same whether or not markers stand, and whatever was answered before. -/

/-- The state with no zone waiting, and with another answer. -/
def State.unmarked (a : Option Answer) (s : State) : State :=
  { s with zones := s.zones.map (fun x => { x with marker := none }), blockResult := a }

section
variable (a : Option Answer) (s : State)

theorem State.zone_unmarked (z : ZoneNo) : (s.unmarked a).zone z = { s.zone z with marker := none } :=
  Vector.getElem_map _ _

theorem State.door_unmarked (d : DoorNo) : (s.unmarked a).door d = s.door d := rfl

theorem State.slot_unmarked (k : SlotNo) : (s.unmarked a).slot k = s.slot k := rfl

/-- An operation that writes no zone and reads none. -/
theorem forEach_unmarked {α : Type} {f : α → State → State} (hf : ∀ x s, f x (s.unmarked a) = (f x s).unmarked a)
    (l : List α) : forEach l f (s.unmarked a) = (forEach l f s).unmarked a := by
  induction l generalizing s with
  | nil => rfl
  | cons x l ih =>
    show forEach l f (f x (s.unmarked a)) = (forEach l f (f x s)).unmarked a
    rw [hf, ih]

theorem State.updZone_unmarked (z : ZoneNo) {f : Zone → Zone}
    (hf : ∀ x, f { x with marker := none } = { f x with marker := none }) :
    (s.unmarked a).updZone z f = (s.updZone z f).unmarked a := by
  have hz : ((s.unmarked a).zones.set z.val (f ((s.unmarked a).zone z))) =
      (s.zones.set z.val (f (s.zone z))).map (fun x => { x with marker := none }) := by
    rw [State.zone_unmarked, hf, Vector.map_set]
    rfl
  unfold State.updZone State.setZone
  rw [hz]
  rfl

theorem State.rederive_unmarked (z : ZoneNo) : (s.unmarked a).rederive z = (s.rederive z).unmarked a :=
  State.updZone_unmarked a s z (f := fun x => { x with state := s.deriveZone z }) fun _ => rfl

theorem State.moveCount_unmarked (d : DoorNo) (c : Count) : (s.unmarked a).moveCount d c = (s.moveCount d c).unmarked a := by
  unfold State.moveCount
  rw [State.door_unmarked]
  cases (s.door d).sweep <;> rfl

theorem State.handOffCount_unmarked (d : DoorNo) (f : Direction → Count → Option Count) :
    (s.unmarked a).handOffCount d f = (s.handOffCount d f).unmarked a := by
  unfold State.handOffCount
  rw [show (s.unmarked a).linkedSweep d = s.linkedSweep d from rfl]
  cases s.linkedSweep d with
  | none => rfl
  | some e =>
    dsimp only
    cases f e.2.direction e.1.count with
    | none => rfl
    | some c => exact s.moveCount_unmarked a d c

theorem State.setState_unmarked (d : DoorNo) (st : DoorState) : (s.unmarked a).setState d st = (s.setState d st).unmarked a := by
  unfold State.setState
  exact (apply_ite (State.unmarked a) ((s.door d).state = st) s (s.updDoor d (Door.enter st))).symm

theorem State.changeState_unmarked (d : DoorNo) (st : DoorState) :
    (s.unmarked a).changeState d st = (s.changeState d st).unmarked a := by
  rw [State.changeState_eq, State.changeState_eq, State.door_unmarked, State.setState_unmarked, State.handOffCount_unmarked,
    State.rederive_unmarked]
  exact (apply_ite (State.unmarked a) _ _ _).symm

/-! Grants. -/

theorem State.grant_unmarked (t : Trunk) (e : Entry) : (s.unmarked a).grant t e = (s.grant t e).unmarked a := by
  have h := State.changeState_unmarked a (s.updTrunk t (TrunkState.toFlight e (s.charge t e))) e.door .acting
  unfold State.grant
  exact congrArg (State.updTrunk · t fun x => (if e.isUrgent then x else x.countRun).settleRun) h

theorem State.grantLoop_unmarked (n : Nat) (t : Trunk) :
    State.grantLoop n t (s.unmarked a) = (State.grantLoop n t s).unmarked a := by
  induction n generalizing s with
  | zero => rfl
  | succ n ih =>
    unfold State.grantLoop
    rw [show (s.unmarked a).trunk t = s.trunk t from rfl]
    cases (s.trunk t).queue with
    | nil => rfl
    | cons e l =>
      dsimp only
      rw [show (s.unmarked a).grantable t e = s.grantable t e from rfl, State.grant_unmarked, ih]
      exact (apply_ite (State.unmarked a) _ _ _).symm

theorem State.considerDoor_unmarked (d : DoorNo) : (s.unmarked a).considerDoor d = (s.considerDoor d).unmarked a :=
  State.grantLoop_unmarked a s _ _

/-! The cancel of a sweep. -/

theorem State.restate_unmarked (d : DoorNo) : (s.unmarked a).restate d = (s.restate d).unmarked a :=
  congrArg (State.updDoor · d Door.clearTimers) (s.changeState_unmarked a d _)

theorem State.withdrawEntry_unmarked (d : DoorNo) : (s.unmarked a).withdrawEntry d = (s.withdrawEntry d).unmarked a := by
  have h : State.updDoor ((State.dropEntry d (s.unmarked a)).restate d) d Door.noIntent =
      State.unmarked a (State.updDoor ((State.dropEntry d s).restate d) d Door.noIntent) :=
    congrArg (State.updDoor · d Door.noIntent) ((State.dropEntry d s).restate_unmarked a d)
  unfold State.withdrawEntry
  rw [h, State.considerDoor_unmarked]

theorem State.cancelDoor_unmarked (e : DoorNo × Count) : State.cancelDoor e (s.unmarked a) = (State.cancelDoor e s).unmarked a := by
  unfold State.cancelDoor
  dsimp only
  rw [State.door_unmarked]
  split
  · rfl
  · cases (s.door e.1).state with
    | waiting => exact s.withdrawEntry_unmarked a e.1
    | ajar => exact congrArg (State.updDoor · e.1 Door.noIntent) (s.changeState_unmarked a e.1 .released)
    | _ => rfl

theorem State.placeWarn_unmarked (m : Nat) (d : DoorNo) : (s.unmarked a).placeWarn m d = (s.placeWarn m d).unmarked a := by
  unfold State.placeWarn
  rw [State.door_unmarked, State.zone_unmarked]
  rfl

theorem State.stopSweep_unmarked (k : SlotNo) (w : Sweep) : (s.unmarked a).stopSweep k w = (s.stopSweep k w).unmarked a := by
  cases hp : w.phase with
  | warning c =>
    rw [State.stopSweep_warning hp, State.stopSweep_warning hp]
    exact forEach_unmarked a s (fun d q => q.placeWarn_unmarked a 0 d) _
  | active =>
    rw [State.stopSweep_active hp, State.stopSweep_active hp]
    exact forEach_unmarked a (s.unlinkAll k) (fun e q => q.cancelDoor_unmarked a e) _

theorem State.closeSweep_unmarked (k : SlotNo) (w : Sweep) (c : Bool) :
    (s.unmarked a).closeSweep k w c = (s.closeSweep k w c).unmarked a := by
  have h := State.updZone_unmarked a s w.zone (f := fun x => { x with last := some w.direction }) fun _ => rfl
  have h2 := State.rederive_unmarked a ((s.updZone w.zone (fun x => { x with last := some w.direction })).setSlot k none) w.zone
  unfold State.closeSweep
  dsimp only
  rw [h]
  exact congrArg (State.raise .sweepDone (.zone w.zone) (.sweepDone w.direction w.origin c w.total w.counts)) h2

theorem State.loadUnder_unmarked (r : LoadRule) (z : ZoneNo) : (s.unmarked a).loadUnder r z = (s.loadUnder r z).unmarked a := by
  have hload : ∀ x : Zone, Zone.load { x with marker := none } = { x.load with marker := none } := fun x => by
    unfold Zone.load
    cases hp : x.loadPending <;> simp [hp]
  have hgroup : (s.unmarked a).groupLoad z = (s.groupLoad z).unmarked a := forEach_unmarked a s (fun y q => by
    rw [State.zone_unmarked, State.updZone_unmarked a q y hload]
    exact (apply_ite (State.unmarked a) _ _ _).symm) _
  unfold State.loadUnder
  rw [State.zone_unmarked, hgroup]
  exact (apply_ite (State.unmarked a) _ _ _).symm

theorem State.cancelSweep_unmarked {k : SlotNo} {w : Sweep} (h : s.slot k = some w) :
    (s.unmarked a).cancelSweep k = (s.cancelSweep k).unmarked a := by
  rw [State.cancelSweep_eq (s := s.unmarked a) h, State.cancelSweep_eq h, State.stopSweep_unmarked,
    State.closeSweep_unmarked, State.loadUnder_unmarked]

end

end Sys2Proof.Machine


namespace Sys2Proof.Machine

/-! ### A walk reads neither the markers nor the last answer (R65 to R67, R89) -/

section
variable {s t : State} {z : ZoneNo} {dir : Direction} {o : Origin} {k : SlotNo} {v : Vector Zone 32}

/-- What the load of a plan reads and writes of a zone. -/
def Zone.SameLoads (x y : Zone) : Prop :=
  y.leader = x.leader ∧ y.rule = x.rule ∧ y.staged = x.staged ∧ y.live = x.live ∧ y.loadPending = x.loadPending

theorem State.LoadedAfter.withZones {a b : Option Answer} {ended : ZoneNo → Prop} (hv : ∀ y : ZoneNo, (s.zone y).SameLoads v[y.val])
    (h : s.LoadedAfter t ended) :
    State.LoadedAfter { s with zones := v, blockResult := a } { t with blockResult := b } ended := by
  intro y
  have hy := h y
  have hz : ∀ y, State.zone { s with zones := v, blockResult := a } y = v[y.val] := fun _ => rfl
  have ht : State.zone { t with blockResult := b } y = t.zone y := rfl
  obtain ⟨h1, -, h3, h4, h5⟩ := hv y
  obtain ⟨g1, g2, -⟩ := hv (s.zone y).leader
  simp only [hz, ht, h1, h3, h4, h5, g1, g2] at hy ⊢
  exact hy

theorem State.WalkedTo.withZones {a b : Option Answer} (hv : ∀ y : ZoneNo, (s.zone y).SameLoads v[y.val])
    (h : s.WalkedTo t z dir o k) :
    State.WalkedTo { s with zones := v, blockResult := a } { t with blockResult := b } z dir o k := by
  obtain ⟨hint, hwork, hrest⟩ := h
  refine ⟨hint, hwork, ?_⟩
  by_cases hp : (s.walkCounts z dir).pending = 0
  · rw [if_pos hp] at hrest
    exact (if_pos (c := (s.walkCounts z dir).pending = 0) hp).mpr hrest
  · rw [if_neg hp] at hrest
    obtain ⟨hslot, hlink, hload, hother, htrunk⟩ := hrest
    refine (if_neg (c := (s.walkCounts z dir).pending = 0) hp).mpr ⟨hslot, hlink, hload.withZones hv, hother, fun hw hs => ?_⟩
    obtain ⟨order, h1, h2, h3⟩ := htrunk hw hs
    have harbiter : ∀ u, State.SameArbiter (s.setTrunk u (s.walkTrunk z dir order u))
        (State.setTrunk { s with zones := v, blockResult := a } u (s.walkTrunk z dir order u)) u :=
      fun _ => ⟨rfl, fun _ => rfl⟩
    exact ⟨order, h1, h2, fun u => (h3 u).trans (harbiter u).consider.symm⟩

end

end Sys2Proof.Machine


namespace Sys2Proof.Machine

/-! ### One zone alone is due (R55, R56, R58, R60, R142) -/

section
variable {s : State} {k : SlotNo} {z : ZoneNo} {dir : Direction} {o : Origin}

/-- A sweep that starts without a warning and has a pending door is told of by nothing, and its zone does not wait. -/
theorem State.startSweep_going (hw : s.isWarned z dir o = false) (ho : ∀ j v, j ≠ k → s.slot j = some v → v.zone ≠ z)
    (hb : dir = .lock → ¬ s.Barred z) (hp : (s.walkCounts z dir).pending ≠ 0) :
    (s.startSweep k z dir o).noticeSet = s.noticeSet ∧ ((s.startSweep k z dir o).zone z).marker = none := by
  let w : Sweep := ⟨z, dir, o, .active, 0, Counts.zero⟩
  have hr : s.Ready ((s.taken k w).rederive z) k w := State.ready_taken ho hb
  have hgo : s.startSweep k z dir o = State.enterActive k ((s.taken k w).rederive z) := by
    have ht : s.startSweep k z dir o = (s.startIn k z dir o).finishIfDone k := rfl
    rw [ht, State.startIn_active hw]
    exact State.finishIfDone_going (hr.isFinished.trans (decide_eq_false hp))
  have hh : State.HandsTo (· = k) ((s.taken k w).rederive z) (State.enterActive k ((s.taken k w).rederive z)) := .enterActive rfl
  have hmark : ((State.enterActive k ((s.taken k w).rederive z)).zone z).marker = (((s.taken k w).rederive z).zone z).marker := by
    have := congrArg Zone.marker (hh.zones z)
    exact this
  rw [hgo]
  exact ⟨hh.notices, hmark.trans hr.marker⟩

theorem State.slot_startSweep_ne (p : State) {j : SlotNo} (hj : j ≠ k) : (p.startSweep k z dir o).slot j = p.slot j := by
  rw [State.startSweep_eq]
  exact State.slot_started_ne p k z dir o 33 hj

/-- A restoration is never warned of (R62). -/
theorem State.isWarned_restore (s : State) (z : ZoneNo) (dir : Direction) : s.isWarned z dir .restore = false :=
  Bool.eq_false_iff.mpr fun h => ((s.isWarned_iff z dir .restore).mp h).2.2.2 rfl

theorem State.hasSweep_calmed : s.calmed.HasSweep z ↔ s.HasSweep z := by
  simp only [State.HasSweep, State.slot_calmed]

theorem State.later_calmed (s : State) : s.calmed.later = s.calmed := by
  obtain ⟨v, hv, -⟩ := s.calmed_zones
  rw [hv]
  rfl

/-- CANCEL of the zone of a sweep, with no zone waiting, is the cancel of that sweep (R76). -/
theorem State.exec_cancel_unmarked (hs : s.SweepLaw) (hl : s.later = s) {w : Sweep} (hw : s.slot k = some w)
    (a : Option Answer) :
    ∃ b, exec (.cancel (oneZone w.zone)) (s.unmarked a) = .next ((s.cancelSweep k).unmarked (some b)) := by
  have hlater : (s.unmarked a).later = s.unmarked a := congrArg (State.unmarked a) hl
  have hmark : ∀ y, ((s.unmarked a).zone y).marker = none := fun y => by rw [State.zone_unmarked]
  obtain ⟨b, hb⟩ := exec_cancel_oneZone (s := s.unmarked a) ⟨hs.1, fun _ _ _ => hmark _⟩ hw hmark
  rw [hlater, State.cancelSweep_unmarked _ _ hw] at hb
  exact ⟨b, hb⟩

/-- A sweep is cancelled and the zone's LOCK sweep starts in its slot; `c` is what CANCEL alone would leave (R60). -/
theorem State.reversed (hs : s.SweepLaw) (hl : s.later = s) {w : Sweep} (hb : ¬ s.Barred w.zone) (hw : s.slot k = some w)
    (a b : Option Answer) :
    let t := (s.cancelSweep k).startSweep k w.zone .lock .restore
    ∃ c, exec (.cancel (oneZone w.zone)) (s.unmarked a) = .next c ∧
      (c.zone w.zone).last = some w.direction ∧
      c.noticeSet.Tells s.clock.stamp .sweepDone (.zone w.zone) (.sweepDone w.direction w.origin true w.total w.counts) ∧
      c.WalkedTo { t with blockResult := b } w.zone .lock .restore k ∧ (∀ j, j ≠ k → t.slot j = s.slot j) ∧
      (0 < (c.walkCounts w.zone .lock).pending → t.noticeSet = c.noticeSet) := by
  have hc := State.cancelled hw
  obtain ⟨r, hexec⟩ := State.exec_cancel_unmarked hs hl hw a
  have hother : ∀ j v, j ≠ k → (s.cancelSweep k).slot j = some v → v.zone ≠ w.zone := fun j v hj hv hvz => by
    rw [State.slot_cancelSweep_ne _ hj] at hv
    exact hj (hs.1 j k v hv w hw hvz)
  have hslots : ∀ j, j ≠ k → ((s.cancelSweep k).startSweep k w.zone .lock .restore).slot j = s.slot j := fun j hj =>
    (State.slot_startSweep_ne _ hj).trans (State.slot_cancelSweep_ne _ hj)
  have hbar : ¬ (s.cancelSweep k).Barred w.zone := fun h => hb ((hc.work.barred _).mp h)
  have hlast := hc.last
  have htells : (s.cancelSweep k).noticeSet.Tells s.clock.stamp .sweepDone (.zone w.zone)
      (.sweepDone w.direction w.origin true w.total w.counts) := by
    rw [hc.notices]
    exact .raised _ _ _ _ _
  generalize s.cancelSweep k = q at *
  have hwarn := q.isWarned_restore w.zone .lock
  refine ⟨_, hexec, ?_, htells, ?_, hslots, fun hp => ?_⟩
  · rw [State.zone_unmarked]
    exact hlast
  · exact (State.walkedTo_startSweep hwarn hother fun _ => hbar).withZones fun y => by
      rw [Vector.getElem_map]
      exact ⟨rfl, rfl, rfl, rfl, rfl⟩
  · exact (State.startSweep_going hwarn hother (fun _ => hbar) hp.ne').1

end

section
variable {s : State} {z : ZoneNo} (hz : s.dueZones = [z])
include hz

/-- The zone is given its LOCK alone. -/
theorem State.restoredZones_one : s.restoredZones = (s.calmed.give z .lock .restore).1 := by
  rw [State.restoredZones, hz]
  rfl

/-- Its LOCK sweep runs on. -/
theorem State.restoredZones_ignored (hs : s.SweepLaw) {k : SlotNo} {w : Sweep} (hw : s.slot k = some w) (hwz : w.zone = z)
    (hd : w.direction = .lock) : s.restoredZones = s.calmed := by
  have hsweep := State.sweepOf_eq_some hs.calmed ((s.slot_calmed k).trans hw)
  rw [hwz] at hsweep
  rw [State.restoredZones_one hz, State.give_ignored (fun _ => s.not_barred_calmed z) hsweep hd]

/-- It waits when no slot is free. -/
theorem State.restoredZones_waits (hsw : ¬ s.HasSweep z) (hk : ∀ k, s.slot k ≠ none) : s.restoredZones = { s.calmed with
    zones := s.calmed.zones.set z.val { s.calmed.zone z with marker := some ⟨.lock, .restore⟩ }
    noticeSet := s.noticeSet.raise s.clock.stamp .sweepWaiting (.zone z) (.sweepWaiting .lock .restore
      ((List.finRange 32).filter (fun y => decide (y = z) || (s.zone y).marker.isSome)).length) } := by
  obtain ⟨hstamp, hnotices, -, -⟩ := s.rest_calmed
  rw [State.restoredZones_one hz, State.give_waiting (fun _ => s.not_barred_calmed z) (State.hasSweep_calmed.not.mpr hsw)
    fun k => by rw [State.slot_calmed]; exact hk k]
  dsimp only
  rw [State.recordMarker_eq, hstamp, hnotices]
  simp only [State.marker_calmed]

/-- Its sweep starts in the lowest free slot. -/
theorem State.restoredZones_starts {k : SlotNo} (hsw : ¬ s.HasSweep z) (hk : s.slot k = none)
    (hlow : ∀ j, j < k → s.slot j ≠ none) (a : Option Answer) :
    State.WalkedTo { s.calmed with blockResult := a } { s.restoredZones with blockResult := a } z .lock .restore k ∧
    (∀ j, j ≠ k → s.restoredZones.slot j = s.slot j) ∧
    (0 < (s.calmed.walkCounts z .lock).pending → s.restoredZones.noticeSet = s.noticeSet ∧
      (s.restoredZones.zone z).marker = none) := by
  have hb := s.not_barred_calmed z
  have hfree : ¬ s.calmed.HasSweep z := State.hasSweep_calmed.not.mpr hsw
  have hother : ∀ j v, j ≠ k → s.calmed.slot j = some v → v.zone ≠ z := fun j v _ hv hvz =>
    hfree ⟨j, by rw [hv, ← hvz]; rfl⟩
  have hgive : s.restoredZones = s.calmed.startSweep k z .lock .restore := by
    rw [State.restoredZones_one hz, State.give_started (fun _ => hb) hfree ((s.slot_calmed k).trans hk)
      fun j hj => by rw [State.slot_calmed]; exact hlow j hj]
  have hwarn := s.calmed.isWarned_restore z .lock
  rw [hgive]
  refine ⟨(State.walkedTo_startSweep hwarn hother fun _ => hb).withZones (v := s.calmed.zones) fun _ => ⟨rfl, rfl, rfl, rfl, rfl⟩,
    fun j hj => (State.slot_startSweep_ne _ hj).trans (s.slot_calmed j), fun hp => ?_⟩
  obtain ⟨hn, hm⟩ := State.startSweep_going hwarn hother (fun _ => hb) hp.ne'
  exact ⟨hn.trans s.rest_calmed.2.1, hm⟩

/-- Its RELEASE sweep is cancelled, and its LOCK sweep starts in the same slot. -/
theorem State.restoredZones_reverses (hs : s.SweepLaw) {k : SlotNo} {w : Sweep} (hw : s.slot k = some w) (hwz : w.zone = z)
    (hd : w.direction = .release) (a : Answer) : ∃ c, exec (.cancel (oneZone z)) (s.calmed.unmarked (some a)) = .next c ∧
      (c.zone z).last = some .release ∧
      c.noticeSet.Tells s.clock.stamp .sweepDone (.zone z) (.sweepDone .release w.origin true w.total w.counts) ∧
      c.WalkedTo { s.restoredZones with blockResult := some a } z .lock .restore k ∧
      (∀ j, j ≠ k → s.restoredZones.slot j = s.slot j) ∧
      (0 < (c.walkCounts z .lock).pending → s.restoredZones.noticeSet = c.noticeSet) := by
  subst hwz
  have hslot : s.calmed.slot k = some w := (s.slot_calmed k).trans hw
  have hgive : s.restoredZones = (s.calmed.cancelSweep k).startSweep k w.zone .lock .restore := by
    rw [State.restoredZones_one hz, State.give_eq (fun _ => s.not_barred_calmed _), State.sweepOf_eq_some hs.calmed hslot]
    dsimp only
    rw [if_neg (by rw [hd]; decide)]
  obtain ⟨c, hexec, hlast, htells, hwalk, hslots, hgo⟩ :=
    State.reversed hs.calmed s.later_calmed (s.not_barred_calmed _) hslot (some a) (some a)
  rw [hd] at hlast htells
  rw [s.rest_calmed.1] at htells
  rw [hgive]
  exact ⟨c, hexec, hlast, htells, hwalk, fun j hj => (hslots j hj).trans (s.slot_calmed j), hgo⟩

end

end Sys2Proof.Machine


namespace Sys2Proof.Machine

theorem exec_fireRestore (s : State) : exec .fireRestore s = answered takeFireRestore s := rfl

/-- The end of an alarm is refused while there is nothing to end (R142). -/
theorem exec_fireRestore_refused (s : State) :
    (s.fire = .active → exec .fireRestore s = .next (s.refusedAs .fire)) ∧
    (s.fire = .normal → exec .fireRestore s = .next (s.refusedAs .state)) := by
  have htake : ∀ {e : Result}, takeFireRestore s.later = (s.later, refusal e) → exec .fireRestore s = .next (s.refusedAs e) :=
    fun h => (exec_fireRestore s).trans (answered_taken h)
  refine ⟨fun h => htake ?_, fun h => htake ?_⟩
  all_goals
    unfold takeFireRestore
    rw [show s.later.fire = _ from h]

/-- The reply carries the zones that were fire-barred and those of them that are due (R142 step 6). -/
def State.restoreAnswer (s : State) : Answer :=
  ⟨.ok, zoneSetBytes (zoneSetOf s.barredZones) ++ zoneSetBytes (zoneSetOf s.dueZones)⟩

theorem exec_fireRestore_cleared {s : State} (h : s.fire = .cleared) :
    exec .fireRestore s = .next { s.restoredZones with blockResult := some s.restoreAnswer } :=
  (exec_fireRestore s).trans (answered_taken (takeFireRestore_eq h))

/-- With no zone due nothing is given. -/
theorem State.restoredZones_none (s : State) (h : s.dueZones = []) : s.restoredZones = s.calmed := by
  rw [State.restoredZones, h]
  rfl

/-- Settles O39: the refusals of FIRE_RESTORE, the calm that the end of the alarm makes, and the givings to the zones due
after it, one alone case by case and several by what each can come to. -/
theorem fireRestoreEndsTheAlarm : Obligations.FireRestoreEndsTheAlarm := by
  intro s
  obtain ⟨hactive, hnormal⟩ := exec_fireRestore_refused s
  obtain h | h | h : s.fire = .active ∨ s.fire = .normal ∨ s.fire = .cleared := by cases s.fire <;> simp
  · refine ⟨_, hactive h, ?_⟩
    split
    · rfl
    all_goals next g => cases h.symm.trans g
  · refine ⟨_, hnormal h, ?_⟩
    split
    case h_2 => rfl
    all_goals next g => cases h.symm.trans g
  · have hcalm : s.alarmOver s.barredZones s.dueZones = { s.calmed with blockResult := some s.restoreAnswer } :=
      s.alarmOver_eq _ _
    have hwork := s.work_restoredZones
    have hnone := s.restoredZones_none
    have hignored := fun z (hz : s.dueZones = [z]) k w hs => State.restoredZones_ignored (k := k) (w := w) hz hs
    have hwaits := fun z (hz : s.dueZones = [z]) => State.restoredZones_waits hz
    have hstarts := fun z (hz : s.dueZones = [z]) k => State.restoredZones_starts (k := k) hz
    have hreverses := fun z (hz : s.dueZones = [z]) k w hs => State.restoredZones_reverses (k := k) (w := w) hz hs
    have houtcome := fun hs hc z hz => ((s.restoredZones_spec hs hc).1 z hz).outcome_calmed s.work_restoredZones
    have hkept := fun hs hc => (s.restoredZones_spec hs hc).2
    refine ⟨_, exec_fireRestore_cleared h, ?_⟩
    split
    case h_3 =>
      dsimp only
      simp only [show (List.finRange 32).filter (fun z => decide (s.Barred z)) = s.barredZones from rfl,
        show s.barredZones.filter s.inLockedPeriod = s.dueZones from rfl, hcalm]
      -- The two states are large terms, and the facts above are all that is used of them.
      generalize s.calmed = u at *
      generalize s.restoredZones = r at *
      refine ⟨hwork.sameAround, trivial, fun hd => ?none, fun z hz hs => ⟨fun k w hw hwz hd => ?ignored, fun hsw hk => ?waits,
        fun k hsw hk hlow => hstarts z hz k hsw hk hlow _, fun k w hw hwz hd => hreverses z hz k w hs hw hwz hd _⟩,
        fun hs hc => ⟨houtcome hs hc, hkept hs hc⟩⟩
      case none => rw [hnone hd]
      case ignored => rw [hignored z hz k w hs hw hwz hd]
      case waits =>
        rw [hwaits z hz hsw hk]
        rfl
    all_goals next g => cases h.symm.trans g

end Sys2Proof.Machine


namespace Sys2Proof.Machine

/-! ### What the laws of sweeps read of a state (R52, R54, R56) -/

/-- A door's record keeps its place and its link, and gains no unreached mark. -/
def Door.SameLink (x y : Door) : Prop :=
  y.configured = x.configured ∧ y.zone = x.zone ∧ y.sweep = x.sweep ∧ (y.unreached = true → x.unreached = true)

theorem Door.SameLink.refl (x : Door) : x.SameLink x := ⟨rfl, rfl, rfl, id⟩

/-- Doors keep their links, slots their sweeps but for what is left of a warning, and no zone gains a marker; a door may
lose its unreached mark. -/
structure State.SameSweeps (s s' : State) : Prop where
  doors : ∀ d, (s.door d).SameLink (s'.door d)
  slots : ∀ k, ∃ p : Phase → Phase, (∀ x, p x = .active ↔ x = .active) ∧
    s'.slot k = (s.slot k).map (fun w => { w with phase := p w.phase })
  markers : ∀ z, (s.zone z).marker = none → (s'.zone z).marker = none

/-- How many doors have a link, as a count over the door numbers. -/
theorem State.linkedWith_eq (s : State) (k : SlotNo) (c : Count) :
    s.linkedWith k c = (List.finRange 256).countP (fun d => (s.door d).sweep == some ⟨k, c⟩) := by
  have h : s.doors.toList = (List.finRange 256).map s.door :=
    List.ext_getElem (by simp) (fun i _ _ => by simp [State.door])
  rw [State.linkedWith, h, List.filter_map, List.length_map, List.countP_eq_length_filter]
  rfl

theorem State.linkedWith_congr {s s' : State} {k : SlotNo} {c : Count}
    (h : ∀ d, (s'.door d).sweep = some ⟨k, c⟩ ↔ (s.door d).sweep = some ⟨k, c⟩) : s'.linkedWith k c = s.linkedWith k c := by
  rw [State.linkedWith_eq, State.linkedWith_eq]
  exact List.countP_congr fun d _ => by rw [beq_iff_eq, beq_iff_eq, h]

/-- No door counts where none is linked to the slot. -/
theorem State.linkedWith_eq_zero {s : State} {k : SlotNo} (h : ∀ d l, (s.door d).sweep = some l → l.slot ≠ k) (c : Count) :
    s.linkedWith k c = 0 := by
  rw [State.linkedWith_eq, List.countP_eq_zero]
  intro d _ hd
  exact h d _ (beq_iff_eq.mp hd) rfl

/-- A linked door is one of those that its count counts. -/
theorem State.one_le_linkedWith {s : State} {d : DoorNo} {l : SweepLink} (h : (s.door d).sweep = some l) :
    1 ≤ s.linkedWith l.slot l.count := by
  rw [State.linkedWith_eq]
  exact List.countP_pos_iff.mpr ⟨d, List.mem_finRange d, beq_iff_eq.mpr h⟩

/-- The law of counts, but for the counts of the slots of `K` (R54). -/
def State.CountLawBut (K : SlotNo → Prop) (s : State) : Prop :=
  (∀ d, ∀ l ∈ (s.door d).sweep, (s.door d).configured = true ∧ (s.door d).unreached = false ∧
    ∃ w ∈ s.slot l.slot, w.phase = .active ∧ w.zone = (s.door d).zone) ∧
  ∀ k, ¬ K k → ∀ w ∈ s.slot k, (∀ c, w.counts.get c = s.linkedWith k c) ∧ w.total = w.counts.sum

theorem State.countLaw_iff (s : State) : s.CountLaw ↔ s.CountLawBut (fun _ => False) := by
  simp only [State.CountLaw, State.CountLawBut, not_false_eq_true, forall_const]

theorem State.CountLaw.but {s : State} (h : s.CountLaw) (K : SlotNo → Prop) : s.CountLawBut K :=
  ⟨h.1, fun k _ => h.2 k⟩

/-- One door's link alone is changed: the doors with a link change by this one. -/
theorem State.linkedWith_update {s s' : State} {d : DoorNo} (h : ∀ e, e ≠ d → (s'.door e).sweep = (s.door e).sweep)
    (k : SlotNo) (c : Count) :
    s'.linkedWith k c + (if (s.door d).sweep = some ⟨k, c⟩ then 1 else 0) =
      s.linkedWith k c + (if (s'.door d).sweep = some ⟨k, c⟩ then 1 else 0) := by
  have hp : (List.finRange 256).Perm (d :: (List.finRange 256).erase d) := List.perm_cons_erase (List.mem_finRange d)
  have hrest : ((List.finRange 256).erase d).countP (fun e => (s'.door e).sweep == some ⟨k, c⟩) =
      ((List.finRange 256).erase d).countP (fun e => (s.door e).sweep == some ⟨k, c⟩) :=
    List.countP_congr fun e he => by
      rw [h e ((List.nodup_finRange 256).mem_erase_iff.mp he).1]
  simp only [State.linkedWith_eq, hp.countP_eq, List.countP_cons, hrest, beq_iff_eq]
  omega

namespace State.SameSweeps

variable {s s' s'' : State}

theorem refl (s : State) : SameSweeps s s :=
  ⟨fun _ => .refl _, fun _ => ⟨id, fun _ => .rfl, by simp⟩, fun _ => id⟩

/-- An operation outside the slots that writes nothing of a door's link and of a zone's marker. -/
theorem of_eq (hd : ∀ d, (s.door d).SameLink (s'.door d))
    (hk : ∀ k, s'.slot k = s.slot k) (hz : ∀ z, (s.zone z).marker = none → (s'.zone z).marker = none) : SameSweeps s s' :=
  ⟨hd, fun k => ⟨id, fun _ => .rfl, by simp [hk]⟩, hz⟩

/-- An operation that leaves the three tables alone. -/
theorem of_tables (hd : s'.doors = s.doors) (hk : s'.slots = s.slots) (hz : s'.zones = s.zones) : SameSweeps s s' :=
  of_eq (fun d => by rw [State.door, State.door, hd]; exact .refl _) (fun k => by rw [State.slot, State.slot, hk])
    (fun z => by simp [State.zone, hz])

theorem slot_some (h : SameSweeps s s') {k : SlotNo} {w : Sweep} (hw : s'.slot k = some w) :
    ∃ v, s.slot k = some v ∧ v.zone = w.zone ∧ v.total = w.total ∧ v.counts = w.counts ∧
      (w.phase = .active ↔ v.phase = .active) := by
  obtain ⟨p, hp, hk⟩ := h.slots k
  rw [hk] at hw
  obtain ⟨v, hv, rfl⟩ := Option.map_eq_some_iff.mp hw
  exact ⟨v, hv, rfl, rfl, rfl, hp v.phase⟩

theorem slot_of_some (h : SameSweeps s s') {k : SlotNo} {v : Sweep} (hv : s.slot k = some v) :
    ∃ w, s'.slot k = some w ∧ v.zone = w.zone ∧ (w.phase = .active ↔ v.phase = .active) := by
  obtain ⟨p, hp, hk⟩ := h.slots k
  refine ⟨{ v with phase := p v.phase }, ?_, rfl, hp v.phase⟩
  rw [hk, hv]
  rfl

theorem slot_none (h : SameSweeps s s') (k : SlotNo) : s'.slot k = none ↔ s.slot k = none := by
  obtain ⟨p, -, hk⟩ := h.slots k
  rw [hk, Option.map_eq_none_iff]

theorem sweepLaw (h : SameSweeps s s') (hl : s.SweepLaw) : s'.SweepLaw := by
  obtain ⟨hone, hmark⟩ := hl
  refine ⟨fun j k v hv w hw hz => ?_, fun k w hw => ?_⟩
  · obtain ⟨v', hv', hvz, -⟩ := h.slot_some hv
    obtain ⟨w', hw', hwz, -⟩ := h.slot_some hw
    exact hone j k v' hv' w' hw' (by rw [hvz, hwz, hz])
  · obtain ⟨w', hw', hwz, -⟩ := h.slot_some hw
    rw [← hwz]
    exact h.markers _ (hmark k w' hw')

theorem countLawBut (h : SameSweeps s s') {K : SlotNo → Prop} (hl : s.CountLawBut K) : s'.CountLawBut K := by
  obtain ⟨hlink, hcount⟩ := hl
  refine ⟨fun d l hd => ?_, fun k hk w hw => ?_⟩
  · obtain ⟨hc, hz, hs, hu⟩ := h.doors d
    obtain ⟨hconf, hun, v, hv, ha, hvz⟩ := hlink d l (hs.symm.trans hd)
    obtain ⟨w, hw, hzw, hact⟩ := h.slot_of_some hv
    refine ⟨hc.trans hconf, Bool.eq_false_iff.mpr fun g => ?_, w, hw, hact.mpr ha, by rw [← hzw, hvz, hz]⟩
    rw [hu g] at hun
    cases hun
  · obtain ⟨v, hv, -, ht, hcs, -⟩ := h.slot_some hw
    obtain ⟨hget, hsum⟩ := hcount k hk v hv
    rw [← ht, ← hcs]
    exact ⟨fun c => (hget c).trans (State.linkedWith_congr fun d => by rw [(h.doors d).2.2.1]).symm, hsum⟩

end State.SameSweeps

/-! ### The move of a door to another count (R68 to R70) -/

theorem Counts.get_move (c : Counts) (a b n : Count) : (c.move a b).get n =
    c.get n - (if b ≠ a ∧ n = a then 1 else 0) + (if b ≠ a ∧ n = b then 1 else 0) := by
  unfold Counts.move
  by_cases h : a = b
  · simp [h]
  · have hba : b ≠ a := fun g => h g.symm
    simp only [if_neg h, Counts.get_upd]
    by_cases hn : n = b
    · subst hn
      simp [hba]
    · by_cases hna : n = a <;> simp [hn, hna, h, hba]

/-- The sum of the counts with one of them changed. -/
theorem Counts.sum_upd_add (c : Counts) (k : Count) (f : Nat → Nat) : (c.upd k f).sum + c.get k = c.sum + f (c.get k) := by
  cases k <;> simp only [Counts.upd, Counts.sum, Counts.get] <;> omega

/-- A door that is counted moves without changing the sum. -/
theorem Counts.sum_move {c : Counts} {a : Count} (h : 1 ≤ c.get a) (b : Count) : (c.move a b).sum = c.sum := by
  unfold Counts.move
  split
  · rfl
  · next hab =>
    have h1 := Counts.sum_upd_add c a (· - 1)
    have h2 := Counts.sum_upd_add (c.upd a (· - 1)) b (· + 1)
    omega

theorem State.moveCount_none {s : State} {d : DoorNo} (h : (s.door d).sweep = none) (c : Count) : s.moveCount d c = s := by
  rw [State.moveCount, h]

/-- A move of a door keeps the sweeps apart: no slot's zone and no marker is written. -/
theorem State.SweepLaw.moveCount {s : State} (h : s.SweepLaw) (d : DoorNo) (c : Count) : (s.moveCount d c).SweepLaw := by
  have hzone : ∀ k w, (s.moveCount d c).slot k = some w → ∃ v, s.slot k = some v ∧ v.zone = w.zone := by
    intro k w hw
    rw [State.slot_moveCount] at hw
    split at hw
    · exact ⟨w, hw, rfl⟩
    · split at hw
      · next hk =>
        obtain ⟨v, hv, rfl⟩ := Option.map_eq_some_iff.mp hw
        exact ⟨v, hk ▸ hv, rfl⟩
      · exact ⟨w, hw, rfl⟩
  obtain ⟨hone, hmark⟩ := h
  refine ⟨fun j k v hv w hw hz => ?_, fun k w hw => ?_⟩
  · obtain ⟨v', hv', hvz⟩ := hzone j v hv
    obtain ⟨w', hw', hwz⟩ := hzone k w hw
    exact hone j k v' hv' w' hw' (by rw [hvz, hwz, hz])
  · obtain ⟨w', hw', hwz⟩ := hzone k w hw
    rw [State.zone_moveCount, ← hwz]
    exact hmark k w' hw'

/-- The doors with a link after the move of one. -/
theorem State.linkedWith_moveCount {s : State} {d : DoorNo} {l : SweepLink} (hd : (s.door d).sweep = some l) (c : Count)
    (k : SlotNo) (n : Count) : (s.moveCount d c).linkedWith k n = if k = l.slot then
      s.linkedWith k n - (if c ≠ l.count ∧ n = l.count then 1 else 0) + (if c ≠ l.count ∧ n = c then 1 else 0)
    else s.linkedWith k n := by
  have hupd := State.linkedWith_update (s := s) (s' := s.moveCount d c) (d := d)
    (fun e he => by rw [State.door_moveCount, if_neg he]) k n
  have hself : ((s.moveCount d c).door d).sweep = some ⟨l.slot, c⟩ := by
    rw [State.door_moveCount, if_pos rfl, hd]
    rfl
  obtain ⟨j, a⟩ := l
  simp only [hd, hself, Option.some.injEq, SweepLink.mk.injEq] at hupd
  by_cases hk : k = j
  · subst hk
    simp only [true_and, if_true] at hupd ⊢
    grind
  · have hkj : j ≠ k := fun g => hk g.symm
    simpa [hk, hkj] using hupd

/-- A move of a linked door keeps the counts those of the linked doors. -/
theorem State.CountLawBut.moveCount {K : SlotNo → Prop} {s : State} (h : s.CountLawBut K) (d : DoorNo) (c : Count) :
    (s.moveCount d c).CountLawBut K := by
  cases hd : (s.door d).sweep with
  | none => rwa [State.moveCount_none hd]
  | some l =>
    have hslot : ∀ k, (s.moveCount d c).slot k = if k = l.slot then
        (s.slot l.slot).map (fun w => { w with counts := w.counts.move l.count c }) else s.slot k := by
      intro k
      rw [State.slot_moveCount, hd]
    have hactive : ∀ k w, s.slot k = some w → ∃ v, (s.moveCount d c).slot k = some v ∧ v.phase = w.phase ∧ v.zone = w.zone := by
      intro k w hw
      rw [hslot]
      split
      · next hk => rw [← hk, hw]; exact ⟨_, rfl, rfl, rfl⟩
      · exact ⟨w, hw, rfl, rfl⟩
    obtain ⟨hlink, hcount⟩ := h
    refine ⟨fun e m he => ?_, fun k hK w hw => ?_⟩
    · obtain ⟨m', hm', hslot', hfix⟩ : ∃ m', (s.door e).sweep = some m' ∧ m'.slot = m.slot ∧
          ((s.moveCount d c).door e).configured = (s.door e).configured ∧
          ((s.moveCount d c).door e).unreached = (s.door e).unreached ∧
          ((s.moveCount d c).door e).zone = (s.door e).zone := by
        rw [State.door_moveCount] at he ⊢
        split at he
        · next hed =>
          subst hed
          rw [hd] at he
          cases he
          exact ⟨l, hd, rfl, by simp⟩
        · next hed => exact ⟨m, he, rfl, by simp [hed]⟩
      obtain ⟨hc, hu, hz⟩ := hfix
      obtain ⟨hconf, hun, x, hx, ha, hxz⟩ := hlink e m' hm'
      obtain ⟨v, hv, hvp, hvz⟩ := hactive _ x hx
      exact ⟨hc.trans hconf, hu.trans hun, v, hslot' ▸ hv, hvp.trans ha, by rw [hvz, hxz, hz]⟩
    · rw [Option.mem_def, hslot] at hw
      simp only [State.linkedWith_moveCount hd]
      split at hw
      · next hk =>
        subst hk
        obtain ⟨v, hv, rfl⟩ := Option.map_eq_some_iff.mp hw
        obtain ⟨hget, hsum⟩ := hcount l.slot hK v hv
        have hpos : 1 ≤ v.counts.get l.count := hget l.count ▸ State.one_le_linkedWith hd
        exact ⟨fun n => by rw [Counts.get_move, hget, if_pos rfl], by rw [Counts.sum_move hpos]; exact hsum⟩
      · next hk =>
        obtain ⟨hget, hsum⟩ := hcount k hK w hw
        exact ⟨fun n => by rw [if_neg hk, hget], hsum⟩

end Sys2Proof.Machine



namespace Sys2Proof.Machine

/-! ### Work that hands doors' counts on (R68, R69) -/

/-- One step of work on doors, seen from the sweeps: nothing of theirs is touched, or one linked door moves to another
count. Only a door of `D` is taken out of pending. -/
inductive HandStep (D : DoorNo → Prop) (s : State) : State → Prop where
  | same {s' : State} (h : s.SameSweeps s') : HandStep D s s'
  | move {d : DoorNo} {c : Count} (h : D d ∨ c = .pending) : HandStep D s (s.moveCount d c)

/-- Work on doors that takes out of pending doors of `D` at most. -/
def Hands (D : DoorNo → Prop) : State → State → Prop := Relation.ReflTransGen (HandStep D)

/-- Every ACTIVE sweep but those of `E` has a pending door (R73). -/
def State.PendingBut (E : SlotNo → Prop) (s : State) : Prop :=
  ∀ k, ¬ E k → ∀ w, s.slot k = some w → w.phase = .active → 0 < w.counts.pending

/-- While a slot is free that is not of `F`, no zone waits (R56, R59). -/
def State.IdleBut (F : SlotNo → Prop) (s : State) : Prop :=
  ∀ k, ¬ F k → s.slot k = none → ∀ z, (s.zone z).marker = none

theorem State.busyLaw_iff (s : State) :
    s.BusyLaw ↔ s.PendingBut (fun _ => False) ∧ s.IdleBut (fun _ => False) := by
  simp only [State.BusyLaw, State.PendingBut, State.IdleBut, Option.mem_def, not_false_eq_true, forall_const,
    forall_exists_index]

/-- The slot a door is linked to. -/
def State.linkSlot (s : State) (d : DoorNo) : Option SlotNo := (s.door d).sweep.map SweepLink.slot

/-- The slots that doors of `D` are linked to. -/
def State.slotsOf (s : State) (D : DoorNo → Prop) (k : SlotNo) : Prop := ∃ d, D d ∧ s.linkSlot d = some k

theorem State.linkSlot_moveCount (s : State) (d : DoorNo) (c : Count) (e : DoorNo) :
    (s.moveCount d c).linkSlot e = s.linkSlot e := by
  unfold State.linkSlot
  rw [State.door_moveCount]
  split
  · next h => subst h; cases (s.door e).sweep <;> rfl
  · rfl

theorem State.SameSweeps.linkSlot {s s' : State} (h : s.SameSweeps s') (d : DoorNo) : s'.linkSlot d = s.linkSlot d := by
  unfold State.linkSlot
  rw [(h.doors d).2.2.1]

theorem State.SameSweeps.pendingBut {s s' : State} (h : s.SameSweeps s') {E : SlotNo → Prop} (hp : s.PendingBut E) :
    s'.PendingBut E := by
  intro k hk w hw ha
  obtain ⟨v, hv, -, -, hc, hact⟩ := h.slot_some hw
  rw [← hc]
  exact hp k hk v hv (hact.mp ha)

theorem State.SameSweeps.idleBut {s s' : State} (h : s.SameSweeps s') {F : SlotNo → Prop} (hi : s.IdleBut F) :
    s'.IdleBut F := fun k hk hs z => h.markers z (hi k hk ((h.slot_none k).mp hs) z)

/-- A door that moves to pending leaves no sweep without a pending door. -/
theorem Counts.pending_move_pending (c : Counts) (a : Count) : c.pending ≤ (c.move a .pending).pending := by
  have := Counts.get_move c a .pending .pending
  simp only [Counts.get] at this
  rw [this]
  by_cases h : a = .pending
  · simp [h]
  · have h1 : ¬ (Count.pending = a) := fun g => h g.symm
    simp [h1]

namespace HandStep

variable {D : DoorNo → Prop} {s s' : State}

theorem linkSlot (h : HandStep D s s') (d : DoorNo) : s'.linkSlot d = s.linkSlot d := by
  cases h with
  | same h => exact h.linkSlot d
  | move h => exact s.linkSlot_moveCount _ _ d

theorem sweepLaw (h : HandStep D s s') (hs : s.SweepLaw) : s'.SweepLaw := by
  cases h with
  | same h => exact h.sweepLaw hs
  | move h => exact hs.moveCount _ _

theorem countLawBut (h : HandStep D s s') {K : SlotNo → Prop} (hc : s.CountLawBut K) : s'.CountLawBut K := by
  cases h with
  | same h => exact h.countLawBut hc
  | move h => exact hc.moveCount _ _

theorem idleBut (h : HandStep D s s') {F : SlotNo → Prop} (hi : s.IdleBut F) : s'.IdleBut F := by
  cases h with
  | same h => exact h.idleBut hi
  | @move d c h =>
    intro k hk hs z
    rw [State.zone_moveCount]
    refine hi k hk ?_ z
    rw [State.slot_moveCount] at hs
    split at hs
    · exact hs
    · split at hs
      · next hk => rw [hk]; exact Option.map_eq_none_iff.mp hs
      · exact hs

theorem pendingBut (h : HandStep D s s') {E : SlotNo → Prop} (hp : s.PendingBut E) :
    s'.PendingBut (fun k => E k ∨ s.slotsOf D k) := by
  cases h with
  | same h => exact h.pendingBut fun k hk => hp k fun he => hk (.inl he)
  | @move d c h =>
    intro k hk w hw ha
    obtain ⟨hE, hD⟩ := not_or.mp hk
    rw [State.slot_moveCount] at hw
    split at hw
    · exact hp k hE w hw ha
    · next l hl =>
      split at hw
      · next hkl =>
        obtain ⟨v, hv, rfl⟩ := Option.map_eq_some_iff.mp hw
        have hpos := hp k hE v (hkl ▸ hv) ha
        rcases h with hd | rfl
        · exact absurd ⟨d, hd, by rw [State.linkSlot, hl, hkl]; rfl⟩ hD
        · exact Nat.lt_of_lt_of_le hpos (Counts.pending_move_pending _ _)
      · exact hp k hE w hw ha

end HandStep

namespace Hands

variable {D : DoorNo → Prop} {s s' s'' : State} {d : DoorNo}

theorem refl (s : State) : Hands D s s := Relation.ReflTransGen.refl

theorem trans (h : Hands D s s') (g : Hands D s' s'') : Hands D s s'' := Relation.ReflTransGen.trans h g

theorem same (h : s.SameSweeps s') : Hands D s s' := Relation.ReflTransGen.single (.same h)

theorem move (h : D d) (c : Count) : Hands D s (s.moveCount d c) := Relation.ReflTransGen.single (.move (.inl h))

theorem toPending (d : DoorNo) : Hands D s (s.moveCount d .pending) := Relation.ReflTransGen.single (.move (.inr rfl))

theorem forEach {α : Type} {f : α → State → State} (l : List α) (hf : ∀ a s, Hands D s (f a s)) :
    Hands D s (Machine.forEach l f s) := by
  induction l generalizing s with
  | nil => exact refl s
  | cons a l ih => exact (hf a s).trans ih

theorem linkSlot (h : Hands D s s') (d : DoorNo) : s'.linkSlot d = s.linkSlot d := by
  induction h with
  | refl => rfl
  | tail _ h ih => exact (h.linkSlot d).trans ih

theorem sweepLaw (h : Hands D s s') (hs : s.SweepLaw) : s'.SweepLaw := by
  induction h with
  | refl => exact hs
  | tail _ h ih => exact h.sweepLaw ih

theorem countLawBut (h : Hands D s s') {K : SlotNo → Prop} (hc : s.CountLawBut K) : s'.CountLawBut K := by
  induction h with
  | refl => exact hc
  | tail _ h ih => exact h.countLawBut ih

theorem idleBut (h : Hands D s s') {F : SlotNo → Prop} (hi : s.IdleBut F) : s'.IdleBut F := by
  induction h with
  | refl => exact hi
  | tail _ h ih => exact h.idleBut ih

theorem pendingBut (h : Hands D s s') (hp : s.PendingBut (fun _ => False)) : s'.PendingBut (s'.slotsOf D) := by
  induction h with
  | refl => exact fun k _ => hp k id
  | @tail q r g h ih =>
    refine fun k hk => h.pendingBut ih k fun hor => hk ?_
    obtain ⟨d, hd, hl⟩ := or_self_iff.mp hor
    exact ⟨d, hd, (h.linkSlot d).trans hl⟩

/-! ### The writes -/

theorem updDoor (d : DoorNo) {f : Door → Door} (hf : ∀ x, Door.SameLink x (f x) := by exact fun _ => ⟨rfl, rfl, rfl, id⟩) :
    Hands D s (s.updDoor d f) :=
  same (.of_eq (fun e => by
    rw [State.door_updDoor]
    split
    · next h => subst h; exact hf _
    · exact .refl _) (fun _ => rfl) (fun _ => id))

theorem mapDoors {f : Door → Door} (hf : ∀ x, Door.SameLink x (f x)) :
    Hands D s { s with doors := mapAll f s.doors } :=
  same (.of_eq (fun e => by rw [State.door_mapDoors]; exact hf _) (fun _ => rfl) (fun _ => id))

/-- An operation that leaves the three tables alone. -/
theorem of_tables (hd : s'.doors = s.doors) (hk : s'.slots = s.slots) (hz : s'.zones = s.zones) : Hands D s s' :=
  same (.of_tables hd hk hz)

theorem updTrunk (t : Trunk) (f : TrunkState → TrunkState) : Hands D s (s.updTrunk t f) := of_tables rfl rfl rfl

theorem updInput (i : InputNo) (f : Input → Input) : Hands D s (s.updInput i f) := of_tables rfl rfl rfl

theorem raise (k : NoticeKind) (u : Subject) (v : Detail) : Hands D s (s.raise k u v) := of_tables rfl rfl rfl

theorem raiseDoor (k : NoticeKind) (d : DoorNo) : Hands D s (s.raiseDoor k d) := raise _ _ _

theorem secondRuns : Hands D s s.secondRuns := of_tables rfl rfl rfl

theorem updZone (z : ZoneNo) {f : Zone → Zone} (hf : ∀ x, x.marker = none → (f x).marker = none) :
    Hands D s (s.updZone z f) :=
  same (.of_eq (fun _ => .refl _) (fun _ => rfl) (fun y hy => by
    rw [State.zone_updZone]
    split
    · next h => subst h; exact hf _ hy
    · exact hy))

theorem rederive (z : ZoneNo) : Hands D s (s.rederive z) := updZone z fun _ h => h

theorem rederiveAll : Hands D s s.rederiveAll := forEach _ fun z _ => rederive z

theorem groupLoad (l : ZoneNo) : Hands D s (s.groupLoad l) := by
  refine forEach _ (fun z s => ?_)
  split
  · refine updZone z (f := Zone.load) (fun x hx => ?_)
    unfold Zone.load
    split <;> exact hx
  · exact refl _

theorem loadUnder (r : LoadRule) (z : ZoneNo) : Hands D s (s.loadUnder r z) := by
  unfold State.loadUnder
  split
  · exact groupLoad z
  · exact refl _

/-! ### Changes of state -/

theorem handOffCount (h : D d) (f : Direction → Count → Option Count) : Hands D s (s.handOffCount d f) := by
  unfold State.handOffCount
  split
  · exact refl _
  · split
    · exact refl _
    · exact move h _

theorem setState (d : DoorNo) (st : DoorState) : Hands D s (s.setState d st) := by
  unfold State.setState
  split
  · exact refl _
  · exact updDoor d

theorem changeState (h : D d) (st : DoorState) : Hands D s (s.changeState d st) := by
  rw [State.changeState_eq]
  split
  · exact refl _
  · exact ((setState d st).trans (handOffCount h _)).trans (rederive _)

/-- A door that begins to wait is taken out of no pending count: the tables name for it a move to pending alone (R68). -/
theorem changeState_waiting (d : DoorNo) : Hands D s (s.changeState d .waiting) := by
  have hcount : ∀ dir c new, countAfterState dir c .waiting = some new → new = .pending := by
    intro dir c new h
    cases dir <;> cases c <;> simp_all [countAfterState]
  rw [State.changeState_eq]
  split
  · exact refl _
  · refine ((setState d .waiting).trans ?_).trans (rederive _)
    unfold State.handOffCount
    split
    · exact refl _
    · split
      · exact refl _
      · next new hnew =>
        rw [hcount _ _ _ hnew]
        exact toPending d

/-! ### The arbiter -/

theorem grant (t : Trunk) (e : Entry) : Hands D s (s.grant t e) := by
  unfold State.grant
  refine ((updTrunk t (TrunkState.toFlight e (s.charge t e))).trans ?_).trans (updTrunk t _)
  rw [State.changeState_acting]
  split
  · exact refl _
  · exact (updDoor e.door).trans (rederive _)

theorem grantLoop (n : Nat) (t : Trunk) : Hands D s (State.grantLoop n t s) := by
  induction n generalizing s with
  | zero => exact refl s
  | succ n ih =>
    unfold State.grantLoop
    split
    · exact refl s
    · split
      · exact (grant t _).trans ih
      · exact refl s

theorem consider (t : Trunk) : Hands D s (s.consider t) := grantLoop _ t

theorem considerAll : Hands D s s.considerAll := forEach _ (fun t _ => consider t)

theorem considerUnless (w : Bool) (t : Trunk) : Hands D s (s.considerUnless w t) := by
  unfold State.considerUnless
  split
  · exact refl _
  · exact consider t

theorem considerDoor (d : DoorNo) : Hands D s (s.considerDoor d) := consider _

/-! ### Placement -/

theorem addEntry (d : DoorNo) (dir : Direction) (c : QueueClass) : Hands D s (s.addEntry d dir c) :=
  ((updTrunk _ _).trans (updDoor d)).trans (changeState_waiting d)

theorem place (w : Bool) (d : DoorNo) (dir : Direction) (c : QueueClass) : Hands D s (s.place w d dir c) := by
  unfold State.place
  split
  · exact refl _
  · split
    · exact ((updTrunk _ _).trans (updDoor d)).trans (considerUnless w _)
    · exact updTrunk _ _
    all_goals exact (addEntry d dir c).trans (considerUnless w _)

theorem placeLock (d : DoorNo) : Hands D s (s.placeLock d) := place _ _ _ _

theorem placeRelease (d : DoorNo) : Hands D s (s.placeRelease d) := place _ _ _ _

/-! ### Re-statement, AJAR, restoration, removal -/

theorem clearTimers (d : DoorNo) : Hands D s (s.updDoor d Door.clearTimers) := updDoor d

theorem restate (h : D d) : Hands D s (s.restate d) := (changeState h _).trans (clearTimers d)

theorem setReminder (d : DoorNo) : Hands D s (s.setReminder d) := by
  unfold State.setReminder
  exact updDoor d

theorem enterAjar (h : D d) : Hands D s (s.enterAjar d) :=
  ((changeState h _).trans (setReminder d)).trans (raiseDoor _ d)

theorem restoreIntent (d : DoorNo) : Hands D s (s.restoreIntent d) := by
  unfold State.restoreIntent
  split
  · exact placeLock d
  · exact placeRelease d
  · exact refl _

theorem noIntent (d : DoorNo) : Hands D s (s.updDoor d Door.noIntent) := updDoor d

theorem dropEntry (d : DoorNo) : Hands D s (s.dropEntry d) := updTrunk _ _

theorem dropRecord (d : DoorNo) : Hands D s (s.dropRecord d) := updTrunk _ _

theorem withdrawEntry (h : D d) : Hands D s (s.withdrawEntry d) :=
  (((dropEntry d).trans (restate h)).trans (noIntent d)).trans (considerDoor d)

/-! ### Sweeps, without their starts and ends -/

theorem placeWarns (z : ZoneNo) (m : Nat) : Hands D s (s.placeWarns z m) := forEach _ (fun _ _ => updTrunk _ _)

theorem sweepIntent (dir : Direction) (d : DoorNo) : Hands D s (s.sweepIntent dir d) := by
  unfold State.sweepIntent
  split
  · split
    · exact refl _
    · exact updDoor d
  · exact updDoor d

theorem sweepAct (h : D d) (w : Bool) (dir : Direction) (a : SweepAction) : Hands D s (s.sweepAct w dir d a) := by
  cases a with
  | leave => exact refl _
  | place c => exact place w d dir c
  | becomeReleased => exact changeState h _

theorem moveToHeld (h : D d) : Hands D s (s.moveToHeld d) := by
  unfold State.moveToHeld
  split
  · exact refl _
  · split
    · exact move h _
    · exact refl _

/-! ### Drives -/

theorem rejoin (r : Record) (h : D r.door) (b : Option (List (DoorNo × QueueClass))) : Hands D s (s.rejoin r b) := by
  unfold State.rejoin
  split
  · exact restate h
  · exact (updTrunk _ _).trans (changeState_waiting _)

theorem jam (r : Record) (h : D r.door) : Hands D s (s.jam r) := (changeState h _).trans (raise _ _ _)

theorem failedAttempt (r : Record) (h : D r.door) : Hands D s (s.failedAttempt r) := by
  refine trans (updDoor r.door (f := fun x => { x with attempts := x.attempts + 1 })) ?_
  unfold State.failedAttempt
  generalize s.updDoor r.door (fun x => { x with attempts := x.attempts + 1 }) = q
  dsimp only
  split
  · exact rejoin r h none
  · exact jam r h

theorem takeOutcome (r : Record) (h : D r.door) (e : DriveEnd) : Hands D s (s.takeOutcome r e) := by
  unfold State.takeOutcome
  split
  · exact (updDoor _).trans (changeState h _)
  · exact enterAjar h
  · exact failedAttempt r h
  · exact rejoin r h _

theorem intentCheck (d : DoorNo) : Hands D s (s.intentCheck d) := by
  unfold State.intentCheck
  split
  · split
    · exact refl _
    · exact placeLock d
  · split
    · exact refl _
    · exact placeRelease d
  · exact refl _

theorem endReversed (h : D d) : Hands D s (s.endReversed d) :=
  ((updDoor d).trans (restate h)).trans (intentCheck d)

end Hands

end Sys2Proof.Machine



namespace Sys2Proof.Machine

/-! ### The walk of a sweep, in the laws of sweeps (R54, R65) -/

theorem State.linkSlot_of {s : State} {d : DoorNo} {l : SweepLink} (h : (s.door d).sweep = some l) :
    s.linkSlot d = some l.slot := by
  rw [State.linkSlot, h]
  rfl

theorem State.linkSlot_none {s : State} {d : DoorNo} : s.linkSlot d = none ↔ (s.door d).sweep = none := by
  rw [State.linkSlot, Option.map_eq_none_iff]

/-- The walk of a zone, seen from the state that has the sweep in its slot. -/
theorem State.walkEnd_self {q : State} {k : SlotNo} {w : Sweep} (hb : w.direction = .lock → ¬ q.Barred w.zone) :
    q.WalkEnd w.zone w.direction w.origin k (q.walkedZone k w) :=
  State.walkEnd (s := q) (zones := q.zones) (slots := q.slots) (.refl q) hb

/-- A sweep that has entered ACTIVE stands in its slot with the counts of its walk. -/
theorem State.slot_enterActive {q : State} {k : SlotNo} {w : Sweep} (hw : q.slot k = some w)
    (hb : w.direction = .lock → ¬ q.Barred w.zone) : (q.enterActive k).slot k = some ⟨w.zone, w.direction, w.origin,
      .active, ((List.finRange 256).filter (fun d => decide (q.IsDoorOf w.zone d))).length,
      q.walkCounts w.zone w.direction⟩ := by
  have hh : (q.walkedZone k w).HandsTo (fun _ => False) (q.walkedZone k w).considerAll := .considerAll
  rw [State.enterActive_eq hw]
  exact (hh.slots k id).trans (State.walkEnd_self hb).slot

/-- Where the slot of a sweep links no door before its walk, the doors of its zone have no link at all. -/
theorem State.unlinked_of_laws {q : State} {k : SlotNo} {w : Sweep} (hs : q.SweepLaw) (hc : q.CountLawBut (· = k))
    (hw : q.slot k = some w) (hk : ∀ d, q.linkSlot d ≠ some k) {d : DoorNo} (hd : q.IsDoorOf w.zone d) :
    (q.door d).sweep = none := by
  cases hl : (q.door d).sweep with
  | none => rfl
  | some l =>
    obtain ⟨-, -, v, hv, -, hz⟩ := hc.1 d l hl
    have hlk : l.slot = k := hs.1 l.slot k v hv w hw (hz.trans hd.2)
    exact absurd (hlk ▸ State.linkSlot_of hl) (hk d)

/-- The links after the walk of a zone none of whose doors was linked, through a slot that linked none. -/
theorem State.WalkEnd.link_iff {q r : State} {z : ZoneNo} {dir : Direction} {o : Origin} {k : SlotNo}
    (hr : q.WalkEnd z dir o k r) (hfree : ∀ d, q.IsDoorOf z d → (q.door d).sweep = none)
    (hk : ∀ d, q.linkSlot d ≠ some k) (d : DoorNo) (l : SweepLink) : (r.door d).sweep = some l ↔
      if l.slot = k then q.IsDoorOf z d ∧ q.tableCount dir d = l.count else (q.door d).sweep = some l := by
  by_cases hd : q.IsDoorOf z d
  · obtain ⟨-, -, hs, -⟩ := hr.marks hd
    obtain ⟨j, c⟩ := l
    rw [hs, hfree d hd]
    by_cases hj : j = k
    · subst hj
      rw [if_pos rfl]
      exact ⟨fun h => by cases h; exact ⟨hd, rfl⟩, fun h => by rw [h.2]⟩
    · rw [if_neg hj]
      exact ⟨fun h => absurd (congrArg SweepLink.slot (Option.some.inj h)).symm hj, fun h => nomatch h⟩
  · rw [hr.outside d hd]
    by_cases hj : l.slot = k
    · rw [if_pos hj]
      exact iff_of_false (fun h => hk d (hj ▸ State.linkSlot_of h)) fun h => hd h.1
    · rw [if_neg hj]

/-- A sweep enters ACTIVE with the laws of sweeps: its slot, that linked no door, links those of its zone, each with the
count that the walk gives it (R54, R65). -/
theorem State.laws_enterActive {q : State} {k : SlotNo} {w : Sweep} (hs : q.SweepLaw) (hc : q.CountLawBut (· = k))
    (hw : q.slot k = some w) (hk : ∀ d, q.linkSlot d ≠ some k) (hb : w.direction = .lock → ¬ q.Barred w.zone) :
    (q.enterActive k).SweepLaw ∧ (q.enterActive k).CountLaw := by
  have hr := State.walkEnd_self (k := k) hb
  have hh := State.Ready.handsTo k w q
  have hlink := hr.link_iff (fun d => State.unlinked_of_laws hs hc hw hk) hk
  have hall : Hands (fun _ => False) (q.walkedZone k w) (q.enterActive k) := by
    rw [State.enterActive_eq hw]
    exact .considerAll
  refine ⟨hall.sweepLaw ?_, (State.countLaw_iff _).mpr (hall.countLawBut ?_)⟩
  all_goals generalize q.walkedZone k w = r at *
  · have hzone : ∀ j v, r.slot j = some v → ∃ v', q.slot j = some v' ∧ v'.zone = v.zone := by
      intro j v hv
      by_cases hj : j = k
      · subst hj
        rw [hr.slot] at hv
        cases hv
        exact ⟨w, hw, rfl⟩
      · exact ⟨v, (hh.slots j hj) ▸ hv, rfl⟩
    obtain ⟨hone, hmark⟩ := hs
    refine ⟨fun i j v hv x hx hz => ?_, fun j v hv => ?_⟩
    · obtain ⟨v', hv', hvz⟩ := hzone i v hv
      obtain ⟨x', hx', hxz⟩ := hzone j x hx
      exact hone i j v' hv' x' hx' (by rw [hvz, hxz, hz])
    · obtain ⟨v', hv', hvz⟩ := hzone j v hv
      have := congrArg Zone.marker (hh.zones v.zone)
      exact Eq.trans this (hvz ▸ hmark j v' hv')
  · refine ⟨fun d l hl => ?_, fun j _ v hv => ?_⟩
    · rw [hr.work.configured_eq, hr.work.doorZone_eq]
      have hcase := (hlink d l).mp hl
      split at hcase
      · next hlk =>
        obtain ⟨hd, -⟩ := hcase
        refine ⟨hd.1, (hr.marks hd).2.2.2, ?_⟩
        rw [hlk, hr.slot]
        exact ⟨_, rfl, rfl, hd.2.symm⟩
      · next hlk =>
        have hd : ¬ q.IsDoorOf w.zone d := fun hd => by
          rw [State.unlinked_of_laws hs hc hw hk hd] at hcase
          cases hcase
        rw [hr.outside d hd, hh.slots l.slot hlk]
        exact hc.1 d l hcase
    · by_cases hj : j = k
      · subst hj
        rw [Option.mem_def, hr.slot] at hv
        cases hv
        refine ⟨fun c => ?_, (State.sum_walkCounts _ _ _).symm⟩
        rw [State.get_walkCounts, State.tableTotal, State.linkedWith_eq, ← List.countP_eq_length_filter]
        refine List.countP_congr fun d _ => ?_
        rw [beq_iff_eq, hlink d ⟨j, c⟩, if_pos rfl, decide_eq_true_iff]
      · rw [Option.mem_def, hh.slots j hj] at hv
        obtain ⟨hget, hsum⟩ := hc.2 j hj v hv
        exact ⟨fun c => (hget c).trans (State.linkedWith_congr fun d => by rw [hlink d ⟨j, c⟩, if_neg hj]).symm, hsum⟩

end Sys2Proof.Machine



namespace Sys2Proof.Machine

/-! ### The end of a sweep, in the laws of sweeps (R74, R78, R79) -/

theorem State.linkedTo_iff {s : State} {d : DoorNo} {k : SlotNo} : (s.door d).linkedTo k = true ↔ s.linkSlot d = some k := by
  unfold Door.linkedTo State.linkSlot
  cases (s.door d).sweep <;> simp

/-- The doors of a slot lose their links, and no other door is touched. -/
structure State.Unlinked (k : SlotNo) (s s' : State) : Prop where
  linked : ∀ d, s.linkSlot d = some k → (s'.door d).sweep = none
  others : ∀ d, s.linkSlot d ≠ some k → s'.door d = s.door d
  slots : s'.slots = s.slots
  zones : s'.zones = s.zones

theorem State.Unlinked.mapDoors {s : State} {k : SlotNo} {f : Door → Door}
    (hf : ∀ x : Door, x.linkedTo k = true → (f x).sweep = none) (hn : ∀ x : Door, x.linkedTo k = false → f x = x) :
    s.Unlinked k { s with doors := mapAll f s.doors } := by
  have hdoor := State.door_mapDoors s f
  refine ⟨fun d hd => ?_, fun d hd => ?_, rfl, rfl⟩
  · rw [hdoor, hf _ (State.linkedTo_iff.mpr hd)]
  · rw [hdoor, hn _ (Bool.eq_false_iff.mpr fun hl => hd (State.linkedTo_iff.mp hl))]

theorem State.Unlinked.unlinkAll (s : State) (k : SlotNo) : s.Unlinked k (s.unlinkAll k) :=
  .mapDoors (fun x hx => by rw [if_pos hx]) (fun x hx => if_neg (by rw [hx]; decide))

theorem State.Unlinked.leaveDoors (s : State) (k : SlotNo) : s.Unlinked k (s.leaveDoors k) :=
  .mapDoors (fun x hx => by rw [Door.leaveSweep, if_pos hx]) (fun x hx => if_neg (by rw [hx]; decide))

section
variable {s s' : State} {k : SlotNo}

theorem State.Unlinked.slot (h : s.Unlinked k s') (j : SlotNo) : s'.slot j = s.slot j := by
  rw [State.slot, State.slot, h.slots]

theorem State.Unlinked.zone (h : s.Unlinked k s') (z : ZoneNo) : s'.zone z = s.zone z := by
  rw [State.zone, State.zone, h.zones]

theorem State.Unlinked.sweepLaw (h : s.Unlinked k s') (hs : s.SweepLaw) : s'.SweepLaw := by
  simpa only [State.SweepLaw, h.slot, h.zone] using hs

/-- What is linked afterwards was linked so before, to another slot. -/
theorem State.Unlinked.link_iff (h : s.Unlinked k s') (d : DoorNo) (l : SweepLink) :
    (s'.door d).sweep = some l ↔ (s.door d).sweep = some l ∧ l.slot ≠ k := by
  by_cases hk : s.linkSlot d = some k
  · rw [h.linked d hk]
    exact iff_of_false (fun g => nomatch g) fun ⟨hl, hne⟩ => hne (Option.some.inj ((State.linkSlot_of hl).symm.trans hk))
  · rw [h.others d hk]
    exact ⟨fun hl => ⟨hl, fun hlk => hk (hlk ▸ State.linkSlot_of hl)⟩, And.left⟩

theorem State.Unlinked.free (h : s.Unlinked k s') (d : DoorNo) : s'.linkSlot d ≠ some k := by
  intro hd
  obtain ⟨l, hl, hlk⟩ := Option.map_eq_some_iff.mp hd
  exact ((h.link_iff d l).mp hl).2 hlk

/-- Without the doors of its slot, a sweep's counts alone are off. -/
theorem State.Unlinked.countLawBut (h : s.Unlinked k s') (hc : s.CountLawBut (· = k)) : s'.CountLawBut (· = k) := by
  obtain ⟨hlink, hcount⟩ := hc
  refine ⟨fun d l hl => ?_, fun j hj w hw => ?_⟩
  · obtain ⟨hs, hne⟩ := (h.link_iff d l).mp hl
    rw [h.others d fun hk => hne (Option.some.inj ((State.linkSlot_of hs).symm.trans hk)), h.slot]
    exact hlink d l hs
  · rw [h.slot] at hw
    obtain ⟨hget, hsum⟩ := hcount j hj w hw
    exact ⟨fun c => (hget c).trans (State.linkedWith_congr fun d => by
      rw [h.link_iff]
      exact and_iff_left hj).symm, hsum⟩

/-- A slot that links no door is closed with the laws of sweeps. -/
theorem State.laws_closeSweep (hs : s.SweepLaw) (hc : s.CountLawBut (· = k)) (hk : ∀ d, s.linkSlot d ≠ some k) (w : Sweep)
    (c : Bool) : (s.closeSweep k w c).SweepLaw ∧ (s.closeSweep k w c).CountLaw := by
  have hslot : ∀ j v, (s.closeSweep k w c).slot j = some v → j ≠ k ∧ s.slot j = some v := by
    intro j v hv
    rw [State.slot_closeSweep] at hv
    split at hv
    · cases hv
    · next hj => exact ⟨hj, hv⟩
  obtain ⟨hone, hmark⟩ := hs
  obtain ⟨hlink, hcount⟩ := hc
  refine ⟨⟨fun i j v hv x hx => hone i j v (hslot i v hv).2 x (hslot j x hx).2, fun j v hv => ?_⟩, fun d l hl => ?_,
    fun j v hv => ?_⟩
  · rw [State.marker_closeSweep]
    exact hmark j v (hslot j v hv).2
  · have hlk : l.slot ≠ k := fun hlk => hk d (hlk ▸ State.linkSlot_of hl)
    rw [State.slot_closeSweep, if_neg hlk]
    exact hlink d l hl
  · obtain ⟨hj, hv⟩ := hslot j v hv
    exact hcount j hj v hv

/-- A sweep that finishes leaves its doors and its slot with the laws of sweeps (R74). -/
theorem State.laws_closed (hs : s.SweepLaw) (hc : s.CountLawBut (· = k)) (w : Sweep) :
    (s.closed k w).SweepLaw ∧ (s.closed k w).CountLaw := by
  have h := State.Unlinked.leaveDoors s k
  rw [State.closed_eq]
  exact State.laws_closeSweep (h.sweepLaw hs) (h.countLawBut hc) h.free w false

/-- What a cancel does to one door is work on that door (R78). -/
theorem Hands.cancelDoor {D : DoorNo → Prop} {e : DoorNo × Count} (h : D e.1) : Hands D s (s.cancelDoor e) := by
  unfold State.cancelDoor
  dsimp only
  split
  · exact refl _
  · split
    · exact withdrawEntry h
    · exact (changeState h _).trans (noIntent _)
    all_goals exact noIntent _

/-- A cancel keeps the laws of sweeps (R77 to R79). -/
theorem State.laws_cancelSweep (hs : s.SweepLaw) (hc : s.CountLaw) (k : SlotNo) :
    (s.cancelSweep k).SweepLaw ∧ (s.cancelSweep k).CountLaw := by
  cases hw : s.slot k with
  | none => rw [State.cancelSweep_free hw]; exact ⟨hs, hc⟩
  | some w =>
    obtain ⟨q, hq, hqc, hqk, hstop⟩ : ∃ q : State, q.SweepLaw ∧ q.CountLawBut (· = k) ∧ (∀ d, q.linkSlot d ≠ some k) ∧
        Hands (fun _ => True) q (s.stopSweep k w) := by
      cases hp : w.phase with
      | warning c =>
        rw [State.stopSweep_warning hp]
        refine ⟨s, hs, hc.but _, fun d hd => ?_, .placeWarns _ _⟩
        obtain ⟨l, hl, hlk⟩ := Option.map_eq_some_iff.mp hd
        obtain ⟨-, -, v, hv, ha, -⟩ := hc.1 d l hl
        rw [hlk, hw] at hv
        cases hv
        rw [hp] at ha
        cases ha
      | active =>
        have hu := State.Unlinked.unlinkAll s k
        rw [State.stopSweep_active hp]
        exact ⟨_, hu.sweepLaw hs, hu.countLawBut (hc.but _), hu.free, .forEach _ fun _ _ => .cancelDoor trivial⟩
    rw [State.cancelSweep_eq hw]
    obtain ⟨h1, h2⟩ := State.laws_closeSweep (hstop.sweepLaw hq) (hstop.countLawBut hqc)
      (fun d => by rw [hstop.linkSlot]; exact hqk d) w true
    have hload := Hands.loadUnder (D := fun _ => False) (s := (s.stopSweep k w).closeSweep k w true) .afterSweep w.zone
    exact ⟨hload.sweepLaw h1, (State.countLaw_iff _).mpr (hload.countLawBut (h2.but _))⟩

end

/-! ### The start of a sweep, in the laws of sweeps (R54, R62) -/

section
variable {s : State} {k : SlotNo} {z : ZoneNo} {dir : Direction} {o : Origin}

/-- A slot that stands free links no door. -/
theorem State.CountLawBut.free_slot {K : SlotNo → Prop} (hc : s.CountLawBut K) (hk : s.slot k = none) (d : DoorNo) :
    s.linkSlot d ≠ some k := by
  intro hd
  obtain ⟨l, hl, hlk⟩ := Option.map_eq_some_iff.mp hd
  obtain ⟨-, -, v, hv, -⟩ := hc.1 d l hl
  rw [hlk, hk] at hv
  cases hv

/-- A free slot takes a sweep of a zone that has none, with no door linked yet. -/
theorem State.laws_taken (hs : s.SweepLaw) (hc : s.CountLaw) (hk : s.slot k = none) {w : Sweep} (hz : ¬ s.HasSweep w.zone) :
    (s.taken k w).SweepLaw ∧ (s.taken k w).CountLawBut (· = k) ∧ ∀ d, (s.taken k w).linkSlot d ≠ some k := by
  have hfree := (hc.but (· = k)).free_slot hk
  have hother : ∀ j v, s.slot j = some v → v.zone ≠ w.zone := fun j v hv hvz => hz ⟨j, by rw [hv, ← hvz]; rfl⟩
  obtain ⟨hone, hmark⟩ := hs
  refine ⟨⟨fun i j v hv x hx hvx => ?_, fun j v hv => ?_⟩, ⟨fun d l hl => ?_, fun j hj v hv => ?_⟩, hfree⟩
  · rw [Option.mem_def, State.slot_taken] at hv hx
    split at hv <;> split at hx
    · next hi hj => rw [hi, hj]
    · cases hv
      exact absurd hvx.symm (hother j x hx)
    · cases hx
      exact absurd hvx (hother i v hv)
    · exact hone i j v hv x hx hvx
  · rw [State.zone_taken]
    split
    · rfl
    · next hne =>
      rw [Option.mem_def, State.slot_taken] at hv
      split at hv
      · cases hv
        exact absurd rfl hne
      · exact hmark j v hv
  · have hlk : l.slot ≠ k := fun hlk => hfree d (hlk ▸ State.linkSlot_of hl)
    rw [State.slot_taken, if_neg hlk]
    exact hc.1 d l hl
  · rw [State.slot_taken, if_neg hj] at hv
    exact hc.2 j v hv

/-- A sweep of a zone without one starts in a free slot with the laws of sweeps (R52, R54, R62, R65). -/
theorem State.laws_startIn (hs : s.SweepLaw) (hc : s.CountLaw) (hk : s.slot k = none) (hz : ¬ s.HasSweep z)
    (hb : dir = .lock → ¬ s.Barred z) : (s.startIn k z dir o).SweepLaw ∧ (s.startIn k z dir o).CountLaw := by
  cases hw : s.isWarned z dir o with
  | true =>
    rw [State.startIn_warned hw]
    obtain ⟨h1, h2, h3⟩ := State.laws_taken hs hc hk (w := ⟨z, dir, o, .warning ⟨(s.zone z).lead, false⟩, 0, Counts.zero⟩) hz
    have hall : Hands (fun _ => False) _ (State.rederive z (State.placeWarns z (s.zone z).lead
        (s.taken k ⟨z, dir, o, .warning ⟨(s.zone z).lead, false⟩, 0, Counts.zero⟩))) :=
      (Hands.placeWarns z _).trans (.rederive z)
    refine ⟨hall.sweepLaw h1, (State.countLaw_iff _).mpr (hall.countLawBut ⟨h2.1, fun j _ v hv => ?_⟩)⟩
    by_cases hj : j = k
    · subst hj
      rw [Option.mem_def, State.slot_taken, if_pos rfl] at hv
      cases hv
      refine ⟨fun c => ?_, rfl⟩
      rw [Counts.get_zero, State.linkedWith_eq_zero fun d l hl hlk => h3 d ((State.linkSlot_of hl).trans (congrArg some hlk))]
    · exact h2.2 j hj v hv
  | false =>
    rw [State.startIn_active hw]
    obtain ⟨h1, h2, h3⟩ := State.laws_taken hs hc hk (w := ⟨z, dir, o, .active, 0, Counts.zero⟩) hz
    have hall := Hands.rederive (D := fun _ => False) (s := s.taken k ⟨z, dir, o, .active, 0, Counts.zero⟩) z
    refine State.laws_enterActive (w := ⟨z, dir, o, .active, 0, Counts.zero⟩) (hall.sweepLaw h1) (hall.countLawBut h2)
      ?_ (fun d => by rw [hall.linkSlot]; exact h3 d) hb
    rw [State.slot_rederive, State.slot_taken, if_pos rfl]

end

end Sys2Proof.Machine



namespace Sys2Proof.Machine

/-! ### The waiting zones and a slot on offer (R59) -/

section
variable {s s' : State} {k : SlotNo} {z : ZoneNo}

/-- No zone has come to wait. -/
def State.NoNewWaits (s s' : State) : Prop := ∀ z, (s.zone z).marker = none → (s'.zone z).marker = none

theorem State.NoNewWaits.sublist (h : s.NoNewWaits s') : s'.waitingZones.Sublist s.waitingZones :=
  List.monotone_filter_right _ fun z hz => by
    by_contra hn
    rw [h z (by simpa using hn)] at hz
    cases hz

/-- Where a waiting zone waits no longer, fewer wait. -/
theorem State.NoNewWaits.length_lt (h : s.NoNewWaits s') (hz : (s.zone z).marker ≠ none) (hz' : (s'.zone z).marker = none) :
    s'.waitingZones.length < s.waitingZones.length := by
  refine lt_of_le_of_ne h.sublist.length_le fun he => ?_
  have hmem : z ∈ s'.waitingZones := by
    rw [h.sublist.eq_of_length he, State.mem_waitingZones]
    exact Option.isSome_iff_ne_none.mpr hz
  rw [State.mem_waitingZones, hz'] at hmem
  cases hmem

theorem Hands.noNewWaits {D : DoorNo → Prop} (h : Hands D s s') : s.NoNewWaits s' := by
  induction h with
  | refl => exact fun _ => id
  | tail _ h ih =>
    intro z hz
    cases h with
    | same h => exact h.markers z (ih z hz)
    | move h => rw [State.zone_moveCount]; exact ih z hz

/-- The choice of the zone that takes a slot drops markers of fire-barred zones and does nothing else: it is a waiting
zone that is not barred, or none waits any longer. -/
theorem State.takeWaiting_spec (l : List ZoneNo) (s : State) :
    Hands (fun _ => False) s (State.takeWaiting l s).1 ∧ (State.takeWaiting l s).1.slots = s.slots ∧
    match (State.takeWaiting l s).2 with
    | none => (∀ z, (s.zone z).marker ≠ none → z ∈ l) → ∀ z, ((State.takeWaiting l s).1.zone z).marker = none
    | some (z, m) => ((State.takeWaiting l s).1.zone z).marker = some m ∧
        (m.direction = .lock → ¬ (State.takeWaiting l s).1.Barred z) := by
  induction l generalizing s with
  | nil =>
    refine ⟨.refl s, rfl, fun h z => ?_⟩
    by_contra hz
    exact absurd (h z hz) List.not_mem_nil
  | cons z l ih =>
    unfold State.takeWaiting
    split
    · next hm =>
      obtain ⟨h1, h2, h3⟩ := ih s
      refine ⟨h1, h2, ?_⟩
      split at h3
      · exact fun hl => h3 fun y hy => (List.mem_cons.mp (hl y hy)).resolve_left fun hyz => hy (hyz ▸ hm)
      · exact h3
    · next m hm =>
      split
      · obtain ⟨h1, h2, h3⟩ := ih (s.updZone z fun x => { x with marker := none })
        refine ⟨(Hands.updZone z fun _ _ => rfl).trans h1, h2, ?_⟩
        split at h3
        · refine fun hl => h3 fun y hy => (List.mem_cons.mp (hl y fun hn => hy ?_)).resolve_left fun hyz => hy ?_
          · rw [State.zone_updZone]
            split
            · rfl
            · exact hn
          · rw [State.zone_updZone, if_pos hyz]
        · exact h3
      · next hb => exact ⟨.refl s, rfl, hm, fun hd h => hb ⟨hd, State.fireBarred_iff.mpr h⟩⟩

theorem State.HandsTo.marker {K : SlotNo → Prop} (h : s.HandsTo K s') (y : ZoneNo) :
    (s'.zone y).marker = (s.zone y).marker := by
  have := congrArg Zone.marker (h.zones y)
  exact this

/-- The markers after a start in a slot: that of the zone is used up. -/
theorem State.marker_startIn (s : State) (k : SlotNo) (z : ZoneNo) (dir : Direction) (o : Origin) (y : ZoneNo) :
    ((s.startIn k z dir o).zone y).marker = if y = z then none else (s.zone y).marker := by
  have htaken : ∀ w : Sweep, w.zone = z → ((s.taken k w).zone y).marker = if y = z then none else (s.zone y).marker := by
    rintro w rfl
    rw [State.zone_taken]
    split <;> rfl
  have hplace : ∀ (q : State) (m : Nat), ((State.rederive z (State.placeWarns z m q)).zone y).marker = (q.zone y).marker := fun q m =>
    ((State.HandsTo.placeWarns (K := (· = k)) z m).trans (.rederive z)).marker y
  have henter : ∀ q : State, ((State.enterActive k (q.rederive z)).zone y).marker = (q.zone y).marker := fun q =>
    ((State.HandsTo.rederive (K := (· = k)) z).trans (.enterActive rfl)).marker y
  cases hw : s.isWarned z dir o with
  | true => rw [State.startIn_warned hw, hplace]; exact htaken _ rfl
  | false => rw [State.startIn_active hw, henter]; exact htaken _ rfl

theorem State.slot_startIn_ne (s : State) {k j : SlotNo} (hj : j ≠ k) (z : ZoneNo) (dir : Direction) (o : Origin) :
    (s.startIn k z dir o).slot j = s.slot j :=
  (State.Tended.startIn (A := Touch.inSlot k) rfl trivial (fun _ _ => trivial) dir o).slots j hj

/-- A start leaves the zone's sweep in the slot. -/
theorem State.slot_startIn {dir : Direction} (hb : dir = .lock → ¬ s.Barred z) (k : SlotNo) (o : Origin) :
    ∃ w, (s.startIn k z dir o).slot k = some w ∧ w.zone = z := by
  cases hw : s.isWarned z dir o with
  | true => exact ⟨_, State.slot_startIn_warned hw, rfl⟩
  | false =>
    rw [State.startIn_active hw]
    exact ⟨_, State.slot_enterActive (w := ⟨z, dir, o, .active, 0, Counts.zero⟩)
      (by rw [State.slot_rederive, State.slot_taken, if_pos rfl]) hb, rfl⟩

end

/-! ### Sweeps kept at work (R56, R59, R73) -/

/-- Every ACTIVE sweep has a pending door, and no zone waits while a slot is free that is not of `F`: one that is to be
offered yet. -/
def State.BusyBut (F : SlotNo → Prop) (s : State) : Prop := s.PendingBut (fun _ => False) ∧ s.IdleBut F

theorem State.IdleBut.mono {F G : SlotNo → Prop} {s : State} (h : s.IdleBut F) (hFG : ∀ k, F k → G k) : s.IdleBut G :=
  fun k hk => h k fun hF => hk (hFG k hF)

section
variable {s : State} {k : SlotNo} {F : SlotNo → Prop}

/-- A slot that has been offered is no longer to be offered, when it is taken or no zone waits. -/
theorem State.IdleBut.offered (h : s.IdleBut (fun j => F j ∨ j = k)) (hk : s.slot k ≠ none) : s.IdleBut F :=
  fun j hj hs => h j (fun hor => hor.elim hj fun hjk => hk (hjk ▸ hs)) hs

/-- A closed sweep leaves the others at work; its slot is to be offered. -/
theorem State.busy_closed (hp : s.PendingBut (· = k)) (hi : s.IdleBut (fun j => F j ∨ j = k)) (w : Sweep) :
    (s.closed k w).BusyBut (fun j => F j ∨ j = k) := by
  refine ⟨fun j _ v hv => ?_, fun j hj hs z => ?_⟩
  · rw [State.slot_closed] at hv
    split at hv
    · cases hv
    · next hj => exact hp j hj v hv
  · rw [State.slot_closed, if_neg fun hjk => hj (.inr hjk)] at hs
    rw [State.closed_eq, State.marker_closeSweep]
    exact hi j hj hs z

theorem Hands.busyBut {s s' : State} (h : Hands (fun _ => False) s s') (hs : s.BusyBut F) : s'.BusyBut F :=
  ⟨fun k _ => h.pendingBut hs.1 k fun ⟨_, hd, _⟩ => hd, h.idleBut hs.2⟩

/-- The offer of a slot goes on until a sweep stands in it with a pending door or in WARNING, or no zone waits; each round
but the last uses a marker up (R59). -/
theorem State.busy_offerLoop {n : Nat} (hn : s.waitingZones.length < n) (h : s.BusyBut (fun j => F j ∨ j = k)) :
    (State.offerLoop n k s).BusyBut F := by
  induction n generalizing s with
  | zero => exact absurd hn (Nat.not_lt_zero _)
  | succ n ih =>
    obtain ⟨htake, hslots, hspec⟩ := State.takeWaiting_spec (s.zonesInRankOrder s.waitingZones) s
    unfold State.offerLoop
    split
    · next q hq =>
      rw [hq] at htake hspec
      have hnone := hspec fun z hz => mem_sortByKey.mpr (State.mem_waitingZones.mpr (Option.isSome_iff_ne_none.mpr hz))
      exact ⟨(htake.busyBut h).1, fun _ _ _ => hnone⟩
    · next q z m hq =>
      rw [hq] at htake hspec
      obtain ⟨hmark, hb⟩ := hspec
      have hq := htake.busyBut h
      have hmarks := q.marker_startIn k z m.direction m.origin
      have hno : q.NoNewWaits (q.startIn k z m.direction m.origin) := fun y hy => by rw [hmarks, hy, ite_self]
      obtain ⟨v, hv, -⟩ := State.slot_startIn hb k m.origin
      have hpend : (q.startIn k z m.direction m.origin).PendingBut (· = k) := fun j hj x hx =>
        hq.1 j id x (q.slot_startIn_ne hj z _ _ ▸ hx)
      have hidle : (q.startIn k z m.direction m.origin).IdleBut F := fun j hj hs => by
        have hjk : j ≠ k := by rintro rfl; rw [hv] at hs; cases hs
        rw [q.slot_startIn_ne hjk] at hs
        exact fun y => hno y (hq.2 j (fun hor => hor.elim hj hjk) hs y)
      dsimp only
      split
      · rw [hv]
        refine (Hands.loadUnder _ _).busyBut (ih (s := (q.startIn k z m.direction m.origin).closed k v) ?_
          (State.busy_closed hpend (hidle.mono fun _ => .inl) v))
        have hclosed : (q.startIn k z m.direction m.origin).NoNewWaits
            ((q.startIn k z m.direction m.origin).closed k v) := fun y hy => by
          rw [State.closed_eq, State.marker_closeSweep]
          exact hy
        have h1 : q.waitingZones.length ≤ s.waitingZones.length := htake.noNewWaits.sublist.length_le
        have h2 := hno.length_lt (z := z) (by rw [hmark]; exact fun g => nomatch g) (by rw [hmarks, if_pos rfl])
        have h3 := hclosed.sublist.length_le
        omega
      · next hfin =>
        refine ⟨fun j _ x hx ha => ?_, hidle⟩
        by_cases hjk : j = k
        · subst hjk
          rw [hx] at hv
          cases hv
          rw [State.isFinished_of hx ha, decide_eq_true_iff] at hfin
          exact Nat.pos_of_ne_zero hfin
        · exact hpend j hjk x hx ha

theorem State.busy_offer (h : s.BusyBut (fun j => F j ∨ j = k)) : (s.offer k).BusyBut F := by
  unfold State.offer
  split
  · next hk => exact ⟨h.1, h.2.offered (Option.isSome_iff_ne_none.mp hk)⟩
  · refine State.busy_offerLoop ?_ h
    have : s.waitingZones.length ≤ (List.finRange 32).length := List.length_filter_le _ _
    rw [List.length_finRange] at this
    omega

/-- A sweep that may have no pending door is tested, and finishes and offers its slot if it has none (R73). -/
theorem State.busy_finishIfDone (hp : s.PendingBut (· = k)) (hi : s.IdleBut F) : (s.finishIfDone k).BusyBut F := by
  unfold State.finishIfDone
  split
  · next hfin =>
    obtain ⟨w, hw⟩ := State.isFinished_slot hfin
    rw [State.finish_eq hw]
    exact (Hands.loadUnder _ _).busyBut (State.busy_offer (State.busy_closed hp (hi.mono fun _ => .inl) w))
  · next hfin =>
    refine ⟨fun j _ w hw ha => ?_, hi⟩
    by_cases hj : j = k
    · subst hj
      rw [State.isFinished_of hw ha, decide_eq_true_iff] at hfin
      exact Nat.pos_of_ne_zero hfin
    · exact hp j hj w hw ha

/-- A cancel leaves the other sweeps at work; its slot is to be offered. -/
theorem State.busy_cancelSweep (h : s.BusyBut F) (k : SlotNo) : (s.cancelSweep k).BusyBut (fun j => F j ∨ j = k) := by
  refine ⟨fun j _ v hv => ?_, fun j hj hs z => ?_⟩
  · by_cases hj : j = k
    · rw [hj, State.slot_cancelSweep] at hv
      cases hv
    · rw [State.slot_cancelSweep_ne s hj] at hv
      exact h.1 j id v hv
  · rw [State.slot_cancelSweep_ne s fun hjk => hj (.inr hjk)] at hs
    have hmark : ((s.cancelSweep k).zone z).marker = (s.zone z).marker := by
      cases hw : s.slot k with
      | none => rw [State.cancelSweep_free hw]
      | some w => exact (State.cancelled hw).markers z
    rw [hmark]
    exact h.2 j (fun hF => hj (.inl hF)) hs z

/-- A start of a sweep in a slot that was to be offered, with its test (R56, R62, R73). -/
theorem State.busy_startSweep {z : ZoneNo} {dir : Direction} (hb : dir = .lock → ¬ s.Barred z)
    (hp : s.PendingBut (· = k)) (hi : s.IdleBut (fun j => F j ∨ j = k)) (o : Origin) :
    (s.startSweep k z dir o).BusyBut F := by
  obtain ⟨v, hv, -⟩ := State.slot_startIn hb k o
  refine State.busy_finishIfDone (fun j hj x hx => hp j hj x (s.slot_startIn_ne hj z dir o ▸ hx)) fun j hj hs y => ?_
  have hjk : j ≠ k := by rintro rfl; rw [hv] at hs; cases hs
  rw [s.slot_startIn_ne hjk] at hs
  rw [State.marker_startIn, hi j (fun hor => hor.elim hj hjk) hs y, ite_self]

end

end Sys2Proof.Machine



namespace Sys2Proof.Machine

/-! ### The offers and the finishes, in the laws of sweeps (R59, R73, R74) -/

/-- The sweeps are of different zones, none of which waits, and their counts are those of their linked doors (R52, R54,
R56). -/
def State.SweepLaws (s : State) : Prop := s.SweepLaw ∧ s.CountLaw

section
variable {s s' : State} {k : SlotNo} {z : ZoneNo}

theorem Hands.sweepLaws {D : DoorNo → Prop} (h : Hands D s s') (hs : s.SweepLaws) : s'.SweepLaws :=
  ⟨h.sweepLaw hs.1, (State.countLaw_iff _).mpr (h.countLawBut (hs.2.but _))⟩

/-- A zone that waits has no sweep (R56). -/
theorem State.SweepLaw.not_hasSweep (hs : s.SweepLaw) (hz : (s.zone z).marker ≠ none) : ¬ s.HasSweep z := by
  rintro ⟨k, hk⟩
  obtain ⟨w, hw, rfl⟩ := Option.map_eq_some_iff.mp hk
  exact hz (hs.2 k w hw)

theorem State.laws_offerLoop (n : Nat) (hs : s.SweepLaws) (hk : s.slot k = none) : (State.offerLoop n k s).SweepLaws := by
  induction n generalizing s with
  | zero => exact hs
  | succ n ih =>
    obtain ⟨htake, hslots, hspec⟩ := State.takeWaiting_spec (s.zonesInRankOrder s.waitingZones) s
    unfold State.offerLoop
    split
    · next q hq =>
      rw [hq] at htake
      exact htake.sweepLaws hs
    · next q z m hq =>
      rw [hq] at htake hslots hspec
      obtain ⟨hmark, hb⟩ := hspec
      have hfree : q.slot k = none := (congrArg (·[k.val]) hslots).trans hk
      obtain ⟨hq, hqc⟩ := htake.sweepLaws hs
      have hr := State.laws_startIn (o := m.origin) hq hqc hfree
        (hq.not_hasSweep fun hn => nomatch hmark.symm.trans hn) hb
      dsimp only
      split
      · split
        · exact hr
        · next v _ =>
          refine (Hands.loadUnder (D := fun _ => False) _ _).sweepLaws (ih (State.laws_closed hr.1 (hr.2.but _) v) ?_)
          exact (State.slot_closed _ _ _ _).trans (if_pos rfl)
      · exact hr

theorem State.laws_offer (k : SlotNo) (hs : s.SweepLaws) : (s.offer k).SweepLaws := by
  unfold State.offer
  split
  · exact hs
  · next hk => exact State.laws_offerLoop _ hs (by simpa using hk)

theorem State.laws_finishIfDone (k : SlotNo) (hs : s.SweepLaws) : (s.finishIfDone k).SweepLaws := by
  unfold State.finishIfDone
  split
  · next hfin =>
    obtain ⟨w, hw⟩ := State.isFinished_slot hfin
    rw [State.finish_eq hw]
    exact (Hands.loadUnder (D := fun _ => False) _ _).sweepLaws
      (State.laws_offer k (State.laws_closed hs.1 (hs.2.but _) w))
  · exact hs

theorem State.laws_startSweep {dir : Direction} (hs : s.SweepLaws) (hk : s.slot k = none) (hz : ¬ s.HasSweep z)
    (hb : dir = .lock → ¬ s.Barred z) (o : Origin) : (s.startSweep k z dir o).SweepLaws :=
  State.laws_finishIfDone k (State.laws_startIn hs.1 hs.2 hk hz hb)

end

/-! ### Operations that keep the laws of sweeps -/

/-- An operation keeps the laws of sweeps, and keeps the sweeps at work whatever slots are to be offered yet. -/
structure KeepsSweeps (s s' : State) : Prop where
  laws : s.SweepLaws → s'.SweepLaws
  busy : ∀ F, s.BusyBut F → s'.BusyBut F

namespace KeepsSweeps

variable {s s' s'' : State} {d : DoorNo}

theorem refl (s : State) : KeepsSweeps s s := ⟨id, fun _ => id⟩

theorem trans (h : KeepsSweeps s s') (g : KeepsSweeps s' s'') : KeepsSweeps s s'' :=
  ⟨g.laws ∘ h.laws, fun F => g.busy F ∘ h.busy F⟩

theorem forEach {α : Type} {f : α → State → State} (l : List α) (hf : ∀ a s, KeepsSweeps s (f a s)) :
    KeepsSweeps s (Machine.forEach l f s) := by
  induction l generalizing s with
  | nil => exact refl s
  | cons a l ih => exact (hf a s).trans ih

/-- Work that takes no door out of pending. -/
theorem of_hands (h : Hands (fun _ => False) s s') : KeepsSweeps s s' := ⟨h.sweepLaws, fun _ => h.busyBut⟩

theorem of_tables (hd : s'.doors = s.doors) (hk : s'.slots = s.slots) (hz : s'.zones = s.zones) : KeepsSweeps s s' :=
  of_hands (.of_tables hd hk hz)

/-- Work on a door that no ACTIVE sweep links. -/
theorem of_inactive (h : Hands (Eq d) s s')
    (hd : ∀ k, s'.linkSlot d = some k → ∀ w, s'.slot k = some w → w.phase ≠ .active) : KeepsSweeps s s' :=
  ⟨h.sweepLaws, fun _ hs => ⟨fun k _ w hw ha =>
    h.pendingBut hs.1 k (by rintro ⟨_, rfl, hk⟩; exact hd k hk w hw ha) w hw ha, h.idleBut hs.2⟩⟩

/-- Work on a door that has no link. -/
theorem of_unlinked (h : Hands (Eq d) s s') (hd : (s.door d).sweep = none) : KeepsSweeps s s' :=
  of_inactive h fun k hk => by
    rw [h.linkSlot, State.linkSlot_none.mpr hd] at hk
    cases hk

theorem finishIfDone (k : SlotNo) : KeepsSweeps s (s.finishIfDone k) :=
  ⟨State.laws_finishIfDone k, fun _ h => State.busy_finishIfDone (fun j _ => h.1 j id) h.2⟩

/-- Work on one door and the test of its sweep (R73): this alone can leave its sweep without a pending door. -/
theorem finishOf (h : Hands (Eq d) s s') : KeepsSweeps s (s'.finishOf d) := by
  unfold State.finishOf
  split
  · next hd =>
    exact of_inactive h fun k hk => by
      rw [State.linkSlot_none.mpr hd] at hk
      cases hk
  · next l hl =>
    refine ⟨State.laws_finishIfDone _ ∘ h.sweepLaws, fun F hs => State.busy_finishIfDone ?_ (h.idleBut hs.2)⟩
    intro j hj
    refine h.pendingBut hs.1 j ?_
    rintro ⟨_, rfl, hk⟩
    exact hj (Option.some.inj (hk.symm.trans (State.linkSlot_of hl)))

/-- Work on one door and its reclassification (R70). -/
theorem reclassify (h : Hands (Eq d) s s') : KeepsSweeps s (s'.reclassify d) := by
  unfold State.reclassify
  split
  · next hn =>
    refine of_inactive h fun k hk w hw => ?_
    obtain ⟨l, hl, rfl⟩ := Option.map_eq_some_iff.mp hk
    rw [State.linkedSweep, hl] at hn
    rw [Option.map_eq_none_iff] at hn
    rw [hn] at hw
    cases hw
  · next l w hs =>
    split
    · exact finishOf (((h.trans (.sweepIntent w.direction d)).trans (.move rfl _)).trans (.sweepAct rfl false _ _))
    · next ha =>
      refine of_inactive h fun k hk v hv => ?_
      obtain ⟨m, hm, rfl⟩ := Option.map_eq_some_iff.mp hk
      rw [State.linkedSweep, hm] at hs
      dsimp only at hs
      rw [hv] at hs
      cases hs
      exact ha

/-! ### Givings, offers and the ends of warnings -/

theorem offer (k : SlotNo) : KeepsSweeps s (s.offer k) :=
  ⟨State.laws_offer k, fun _ h => State.busy_offer ⟨h.1, h.2.mono fun _ => .inl⟩⟩

theorem offerSlots (l : List SlotNo) : KeepsSweeps s (s.offerSlots l) := forEach _ fun k _ => offer k

theorem cancelSweep_laws (k : SlotNo) (h : s.SweepLaws) : (s.cancelSweep k).SweepLaws :=
  State.laws_cancelSweep h.1 h.2 k

theorem recordMarker (z : ZoneNo) (dir : Direction) (o : Origin) (hz : ¬ s.HasSweep z) (hk : ∀ k, s.slot k ≠ none) :
    KeepsSweeps s (s.recordMarker z dir o) := by
  refine ⟨fun ⟨hs, hc⟩ => ⟨⟨hs.1, fun k w hw => ?_⟩, hc⟩, fun F h => ⟨h.1, fun k _ hs => absurd hs (hk k)⟩⟩
  have hne : w.zone ≠ z := fun he => hz ⟨k, Option.map_eq_some_iff.mpr ⟨w, hw, he⟩⟩
  have hzone : (s.recordMarker z dir o).zone w.zone = s.zone w.zone := by
    simp [State.recordMarker, hne]
  exact (congrArg Zone.marker hzone).trans (hs.2 k w hw)

theorem give (z : ZoneNo) (dir : Direction) (o : Origin) : KeepsSweeps s (s.give z dir o).1 := by
  by_cases hb : dir = .lock → ¬ s.Barred z
  · rw [State.give_eq hb]
    split
    · next k w hs =>
      obtain ⟨hw, rfl⟩ : s.slot k = some w ∧ w.zone = z :=
        ⟨State.mem_sweeps.mp (List.mem_of_find?_eq_some hs), by simpa using List.find?_some hs⟩
      split
      · exact refl s
      · have hcb : dir = .lock → ¬ (s.cancelSweep k).Barred w.zone := fun hd => by
          rw [(State.cancelled hw).work.barred]
          exact hb hd
        refine ⟨fun hl => State.laws_startSweep (cancelSweep_laws k hl) (State.slot_cancelSweep s k) ?_ hcb o, fun F h => ?_⟩
        · rintro ⟨j, hj⟩
          obtain ⟨v, hv, hvz⟩ := Option.map_eq_some_iff.mp hj
          by_cases hjk : j = k
          · rw [hjk, State.slot_cancelSweep] at hv
            cases hv
          · rw [State.slot_cancelSweep_ne s hjk] at hv
            exact hjk (hl.1.1 j k v hv w hw hvz)
        · have hc := State.busy_cancelSweep h k
          exact State.busy_startSweep hcb (fun j _ => hc.1 j id) hc.2 o
    · next hs =>
      rw [State.sweepOf_eq_none] at hs
      split
      · next k hk =>
        have hfree : s.slot k = none := Option.isNone_iff_eq_none.mp (List.find?_some (p := fun k => (s.slot k).isNone) hk)
        exact ⟨fun hl => State.laws_startSweep hl hfree hs hb o,
          fun F h => State.busy_startSweep hb (fun j _ => h.1 j id) (h.2.mono fun _ => .inl) o⟩
      · next hk =>
        refine recordMarker z dir o hs fun k hn => ?_
        exact List.find?_eq_none.mp hk k (List.mem_finRange k) (Option.isNone_iff_eq_none.mpr hn)
  · obtain ⟨hd, hb⟩ := Classical.not_imp.mp hb
    rw [State.give, if_pos ⟨hd, State.fireBarred_iff.mpr (not_not.mp hb)⟩]
    exact refl s

theorem giveList (o : Origin) (l : List (ZoneNo × Direction)) : KeepsSweeps s (State.giveList o l s).1 := by
  induction l generalizing s with
  | nil => exact refl s
  | cons a l ih => exact (give a.1 a.2 o).trans ih

theorem giveSet (o : Origin) (l : List (ZoneNo × Direction)) : KeepsSweeps s (s.giveSet o l).1 := giveList o _

/-- A warning ends in ACTIVE, with its test, or in a cancel whose slot is offered at once (R64). -/
theorem endWarning (k : SlotNo) : KeepsSweeps s (s.endWarning k) := by
  unfold State.endWarning
  split
  · exact refl s
  · next w hw =>
    split
    · next hend =>
      have hphase : w.phase ≠ .active := fun ha => by
        rw [Sweep.warningEnds, ha] at hend
        cases hend
      split
      · exact ⟨fun hl => State.laws_offer k (cancelSweep_laws k hl),
          fun F h => State.busy_offer (State.busy_cancelSweep h k)⟩
      · next hb =>
        have hb : w.direction = .lock → ¬ s.Barred w.zone := fun _ h => hb (State.fireBarred_iff.mpr h)
        refine ⟨fun hl => State.laws_finishIfDone k ?_, fun F h => State.busy_finishIfDone (fun j hj v hv => ?_) ?_⟩
        · refine State.laws_enterActive hl.1 (hl.2.but _) hw (fun d hd => ?_) hb
          obtain ⟨l, hl', hlk⟩ := Option.map_eq_some_iff.mp hd
          obtain ⟨-, -, v, hv, ha, -⟩ := hl.2.1 d l hl'
          rw [hlk, hw] at hv
          cases hv
          exact hphase ha
        · have hslots := (State.HandsTo.enterActive (K := (· = k)) (s := s) rfl).slots j hj
          exact h.1 j id v (hslots ▸ hv)
        · intro j hj hs z
          have hh := State.HandsTo.enterActive (K := (· = k)) (s := s) rfl
          by_cases hjk : j = k
          · subst hjk
            rw [State.slot_enterActive hw hb] at hs
            cases hs
          · rw [hh.slots j hjk] at hs
            rw [hh.marker]
            exact h.2 j hj hs z
    · exact refl s

end KeepsSweeps

end Sys2Proof.Machine



namespace Sys2Proof.Machine

/-! ### Drives, reports and silence keep the laws of sweeps -/

namespace Hands

variable {D : DoorNo → Prop} {s : State} {d : DoorNo}

theorem waitTrunk (t : Trunk) (n : Nat) : Hands D s (s.waitTrunk t n) := by
  have hdoors : Hands D s { s with doors := mapAll (fun x => if x.trunk = t then x.wait n else x) s.doors } :=
    mapDoors fun x => by
      split
      · exact ⟨rfl, rfl, rfl, id⟩
      · exact .refl x
  exact hdoors.trans (of_tables rfl rfl rfl)

theorem wantLockUnlessBlocked (d : DoorNo) : Hands D s (s.wantLockUnlessBlocked d) := by
  unfold State.wantLockUnlessBlocked
  split
  · exact refl s
  · exact updDoor d

theorem classifyUnknown (h : D d) : Hands D s (s.classifyUnknown d) := by
  unfold State.classifyUnknown
  split
  · exact (wantLockUnlessBlocked d).trans (enterAjar h)
  · exact changeState h _

theorem restoreUnreached (d : DoorNo) (x : Door) : Hands D s (s.restoreUnreached d x) := by
  unfold State.restoreUnreached
  split
  · exact restoreIntent d
  · exact refl s

theorem dropWork (d : DoorNo) : Hands D s (s.dropWork d) := by
  unfold State.dropWork
  split
  · exact dropEntry d
  · exact dropRecord d
  all_goals exact refl s

theorem becomeUnknown (h : D d) : Hands D s (s.becomeUnknown d) := by
  unfold State.becomeUnknown
  split
  · exact refl s
  · exact (changeState h _).trans (updDoor d)

theorem turnToRelease (h : D d) : Hands D s (s.turnToRelease d) := by
  unfold State.turnToRelease
  split
  · exact refl s
  · split
    · exact changeState h _
    · exact placeRelease d
  · split
    · exact placeRelease d
    · exact refl s
  all_goals exact placeRelease d

theorem actOn (h : D d) (dir : Direction) : Hands D s (s.actOn d dir) := by
  have hset : Hands D s (s.updDoor d fun x => { x with intent := dir.intent, keepOpen := false }) := updDoor d
  refine hset.trans ?_
  cases dir with
  | lock =>
    show Hands D _ (State.actLock d _)
    unfold State.actLock
    split
    case h_4 | h_5 =>
      split
      all_goals first | exact placeLock d | exact refl _
    all_goals first | exact placeLock d | exact refl _
  | release =>
    show Hands D _ (State.actRelease d _)
    unfold State.actRelease
    split
    · exact refl _
    · split
      · exact changeState h _
      · exact place _ _ _ _
    · split
      · exact place _ _ _ _
      · exact refl _
    all_goals exact place _ _ _ _

end Hands

namespace KeepsSweeps

variable {s s' : State} {d : DoorNo}

theorem trunkBack (t : Trunk) (l : List DoorNo) : KeepsSweeps s (s.trunkBack t l) := by
  refine forEach _ fun d s => ?_
  unfold State.reclassifyUnreachable
  split
  · exact refl s
  · split
    · exact reclassify (.refl s)
    · exact refl s

/-! ### The ends of drives -/

theorem endDrive (r : Record) (e : DriveEnd) : KeepsSweeps s (s.endDrive r e) := by
  unfold State.endDrive
  refine (finishOf (d := r.door) (.trans (.dropRecord r.door) ?_)).trans (of_hands (.considerDoor r.door))
  split
  · exact .takeOutcome r rfl e
  · exact .endReversed rfl

theorem settle (r : Record) : KeepsSweeps s (s.settle r) := by
  unfold State.settle
  split
  · exact refl s
  · exact endDrive r _

theorem acceptDrive (r : Record) : KeepsSweeps s (s.acceptDrive r) := by
  unfold State.acceptDrive
  refine trans (s' := s.updTrunk (s.door r.door).trunk (TrunkState.updRecord r.door id fun _ =>
    .driving ((s.lockClass (s.door r.door).cls).limit * 1000))) (of_hands (.updTrunk _ _)) ?_
  dsimp only
  split
  · exact refl _
  · exact settle _

theorem reportToRecord (r : Record) (drive accepted : Bool) : KeepsSweeps s (s.reportToRecord r drive accepted) := by
  unfold State.reportToRecord
  split
  · exact settle r
  · split
    · split
      · exact acceptDrive r
      · exact endDrive r _
    · split
      · exact endDrive r _
      · exact refl s

theorem driveFailed (r : Record) : KeepsSweeps s (s.driveFailed r) := by
  unfold State.driveFailed
  split
  all_goals exact endDrive r _

theorem returnGranted (l : List DoorNo) (b : List (DoorNo × QueueClass)) : KeepsSweeps s (State.returnGranted l b s) := by
  induction l generalizing s b with
  | nil => exact refl s
  | cons d l ih =>
    unfold State.returnGranted
    split
    · exact ih _
    · exact (endDrive _ _).trans (ih _)

theorem endRest (t : Trunk) : KeepsSweeps s (s.endRest t) := by
  unfold State.endRest
  split
  · exact refl s
  · exact of_hands (((Hands.waitTrunk t _).trans (.updTrunk t _)).trans (.consider t))

theorem timeOut (d : DoorNo) : KeepsSweeps s (s.timeOut d) := by
  unfold State.timeOut
  split
  · exact refl s
  · split
    · exact refl s
    · exact (of_hands (.waitTrunk _ _)).trans (driveFailed _)

/-! ### Reports, door state by door state -/

theorem reportUnknown (d : DoorNo) : KeepsSweeps s (s.reportUnknown d) := by
  have h : Hands (Eq d) s (s.classifyUnknown d) := .classifyUnknown rfl
  unfold State.reportUnknown State.afterClassified
  split
  · exact reclassify h
  · exact finishOf (h.trans (.restoreIntent d))

theorem reportReleased (d : DoorNo) : KeepsSweeps s (s.reportReleased d) := by
  unfold State.reportReleased
  split
  · exact finishOf (.trans (.changeState rfl _) (.raiseDoor _ d))
  · exact refl s

theorem openedSecured (d : DoorNo) (rex : Bool) : KeepsSweeps s (s.openedSecured d rex) := by
  unfold State.openedSecured
  dsimp only
  split
  · exact finishOf (.trans (.changeState rfl _) (.updDoor d))
  · exact finishOf (((Hands.wantLockUnlessBlocked d).trans (.changeState rfl _)).trans (.raiseDoor _ d))

theorem reportSecured (d : DoorNo) (rex : Bool) : KeepsSweeps s (s.reportSecured d rex) := by
  unfold State.reportSecured
  dsimp only
  split
  · exact openedSecured d rex
  · split
    · exact finishOf (.trans (.changeState rfl _) (.raiseDoor _ d))
    · split
      · exact of_hands (.updDoor d)
      · exact refl s

theorem reportPassage (d : DoorNo) : KeepsSweeps s (s.reportPassage d) := by
  unfold State.reportPassage
  dsimp only
  split
  · split
    · exact finishOf (.changeState rfl _)
    · split
      · exact finishOf (.changeState rfl _)
      · exact finishOf (.trans (.updDoor d) (.placeLock d))
    all_goals exact refl s
  · exact refl s

theorem reportAjarForced (d : DoorNo) : KeepsSweeps s (s.reportAjarForced d) := by
  have h : Hands (Eq d) s (s.restate d) := .restate rfl
  unfold State.reportAjarForced
  split
  · split
    · split
      · exact finishOf h
      · exact finishOf (.placeLock d)
    · dsimp only
      split
      · exact finishOf h
      · exact finishOf (h.trans (.placeRelease d))
    · exact finishOf h
  · exact refl s

theorem reportWaiting (d : DoorNo) : KeepsSweeps s (s.reportWaiting d) := by
  unfold State.reportWaiting
  split
  · exact refl s
  · split
    · exact (finishOf (.trans (.dropEntry d) (.enterAjar rfl))).trans (of_hands (.considerDoor d))
    · exact refl s

theorem reportActing (d : DoorNo) (drive accepted : Bool) : KeepsSweeps s (s.reportActing d drive accepted) := by
  unfold State.reportActing
  split
  · exact refl s
  · exact reportToRecord _ _ _

theorem reportState (d : DoorNo) (drive : Bool) (rep : Report) : KeepsSweeps s (s.reportState d drive rep) := by
  unfold State.reportState
  split
  · exact reportUnknown d
  · exact reportReleased d
  · exact reportSecured d _
  · exact reportPassage d
  · exact reportAjarForced d
  · exact reportAjarForced d
  · exact refl s
  · exact reportWaiting d
  · exact reportActing d _ _

theorem report (d : DoorNo) (drive : Bool) (rep : Report) : KeepsSweeps s (s.report d drive rep) := by
  have hobs : Hands (fun _ => False) s (s.observe d rep) := .updDoor d
  have hmark : Hands (fun _ => False) (s.observe d rep) ((s.observe d rep).updDoor d fun x => { x with unreached := false }) :=
    .updDoor d fun _ => ⟨rfl, rfl, rfl, fun h => nomatch h⟩
  exact ((of_hands (hobs.trans hmark)).trans (reportState d drive rep)).trans (of_hands (.restoreUnreached d _))

theorem goSilent (d : DoorNo) : KeepsSweeps s (s.goSilent d) := by
  have hset : Hands (Eq d) s (s.updDoor d fun x => { x with health := .silent }) := .updDoor d
  have h := finishOf (((((hset.trans (.raiseDoor .silent d)).trans (.dropWork d)).trans (.becomeUnknown rfl))).trans
    (.handOffCount rfl countAfterSilence))
  unfold State.goSilent
  dsimp only
  split
  · exact h.trans (of_hands (.considerDoor d))
  · exact h

/-! ### DOOR_SET, DOOR_CLEAR and DOOR_ACT -/

theorem evaluateTrunk (t : Trunk) : KeepsSweeps s (s.evaluateTrunk t) := by
  unfold State.evaluateTrunk
  split
  · exact (of_hands (.trans (.updTrunk t _) (.consider t))).trans (trunkBack t _)
  · exact of_hands (.updTrunk t _)
  · exact of_hands (.updTrunk t _)
  all_goals exact refl s

theorem leavePlace (d : DoorNo) (old : Door) : KeepsSweeps s (s.leavePlace d old) := by
  unfold State.leavePlace
  split
  · exact ((of_hands (.updTrunk _ _)).trans (evaluateTrunk _)).trans (of_hands (.rederive _))
  · exact refl s

/-- The record of a door without a link is replaced by another without one. -/
theorem setDoor {x : Door} (hd : (s.door d).sweep = none) (hx : x.sweep = none) : KeepsSweeps s (s.setDoor d x) := by
  have hlink : ∀ e, ((s.setDoor d x).door e).sweep = (s.door e).sweep := by
    intro e
    rw [State.door_setDoor]
    split
    · next he => rw [he, hd, hx]
    · rfl
  refine ⟨fun ⟨hs, hc⟩ => ⟨hs, fun e l he => ?_, fun k w hw => ?_⟩, fun _ => id⟩
  · rw [Option.mem_def, hlink] at he
    have hne : e ≠ d := by
      rintro rfl
      rw [hd] at he
      cases he
    rw [State.door_setDoor, if_neg hne]
    exact hc.1 e l he
  · obtain ⟨hget, hsum⟩ := hc.2 k w hw
    exact ⟨fun c => (hget c).trans (State.linkedWith_congr fun e => by rw [hlink]).symm, hsum⟩

theorem applyDoorSet (d : DoorNo) {x : Door} (hd : (s.door d).sweep = none) (hx : x.sweep = none) :
    KeepsSweeps s (s.applyDoorSet d x) := by
  have hfire : (x.underFire s.fire).sweep = none := by
    unfold Door.underFire
    split
    all_goals exact hx
  unfold State.applyDoorSet
  exact (((setDoor hd hfire).trans (leavePlace d _)).trans (evaluateTrunk _)).trans (of_hands (.rederive _))

theorem takeDoorSet (door trunk address zone rank cls flags : Byte) :
    KeepsSweeps s (takeDoorSet door trunk address zone rank cls flags s).1 := by
  unfold Machine.takeDoorSet
  dsimp only
  split
  · split
    · split
      · exact refl s
      · split
        · exact refl s
        · next hd =>
          split
          · exact refl s
          · exact applyDoorSet _ (Option.not_isSome_iff_eq_none.mp hd) rfl
    · exact refl s
  · exact refl s

theorem takeDoorClear (door : Byte) : KeepsSweeps s (takeDoorClear door s).1 := by
  unfold Machine.takeDoorClear
  dsimp only
  split
  · exact refl s
  · next hd =>
    split
    · exact refl s
    · split
      · exact (setDoor (Option.not_isSome_iff_eq_none.mp hd) rfl).trans (leavePlace _ _)
      · exact refl s

theorem takeDoorAct (door direction : Byte) : KeepsSweeps s (takeDoorAct door direction s).1 := by
  unfold Machine.takeDoorAct
  dsimp only
  split
  · exact refl s
  · split
    · split
      · exact refl s
      · next hd =>
        split
        · exact refl s
        · split
          · exact refl s
          · exact of_unlinked (.actOn rfl _) (Option.not_isSome_iff_eq_none.mp hd)
    · exact refl s

end KeepsSweeps

end Sys2Proof.Machine



namespace Sys2Proof.Machine

/-! ### Trunks, holds, inputs and the clock keep the laws of sweeps -/

namespace Hands

variable {D : DoorNo → Prop} {s : State} {d : DoorNo}

theorem noIntentThen (h : D d) : Hands D s (let q := s.updDoor d Door.noIntent
    if (q.door d).bolt = .withdrawn then q.changeState d .released else q.updDoor d fun x => { x with reminder := none }) := by
  refine (noIntent d).trans ?_
  dsimp only
  split
  · exact changeState h _
  · exact updDoor d

theorem deferOn (h : D d) : Hands D s (s.deferOn d) := by
  unfold State.deferOn
  split
  · split
    · exact refl s
    · split
      · exact withdrawEntry h
      · exact refl s
  · split
    · exact refl s
    · split
      · exact noIntent d
      · exact refl s
  · exact noIntentThen h
  · exact noIntentThen h
  all_goals exact refl s

theorem keepOpenOn (h : D d) : Hands D s (s.keepOpenOn d) := by
  have hset : Hands D s (s.updDoor d fun x => { x with intent := .release, keepOpen := true }) := updDoor d
  exact hset.trans (turnToRelease h)

theorem freeUnlinked (d : DoorNo) : Hands D s (s.freeUnlinked d) := by
  unfold State.freeUnlinked
  split
  · exact noIntent d
  · exact restoreIntent d

end Hands

namespace KeepsSweeps

variable {s s' : State} {d : DoorNo}

/-! ### CLASS_SET and the trunks -/

theorem mapDoors {f : Door → Door} (hf : ∀ x, Door.SameLink x (f x)) :
    KeepsSweeps s { s with doors := mapAll f s.doors } := of_hands (.mapDoors hf)

theorem applyClass (c : ClassNo) (v : LockClass) : KeepsSweeps s (s.applyClass c v) := by
  have hset : KeepsSweeps s { s with classes := s.classes.set c.val v } := of_tables rfl rfl rfl
  have hcap : KeepsSweeps { s with classes := s.classes.set c.val v }
      { s with classes := s.classes.set c.val v, doors := mapAll (Door.capAttempts c v.retries) s.doors } :=
    mapDoors fun x => by unfold Door.capAttempts; split <;> exact ⟨rfl, rfl, rfl, id⟩
  by_cases h : v.retries < (s.lockClass c).retries
  · have := (hset.trans hcap).trans (of_hands .considerAll)
    simpa only [State.applyClass, h, decide_true, if_true] using this
  · have := hset.trans (of_hands .considerAll)
    simpa only [State.applyClass, h, decide_false, Bool.false_eq_true, if_false] using this

theorem takeClassSet (cls lockCost releaseCost limit retries : Byte) :
    KeepsSweeps s (takeClassSet cls lockCost releaseCost limit retries s).1 := by
  unfold Machine.takeClassSet
  split
  · exact refl s
  · split
    · split
      · exact refl s
      · dsimp only
        exact applyClass _ _
    · exact refl s

theorem sendFrame (t : Trunk) (waited : Nat) : KeepsSweeps s (s.sendFrame t waited) := by
  have hsend : ∀ (q : State) (o : LineOrder), KeepsSweeps q (q.send t o) := by
    intro q o
    unfold State.send
    exact of_hands (.trans (.updTrunk t _) (.updDoor o.door))
  have hdrop : ∀ q : State, KeepsSweeps q (if (q.trunk t).mode = .running then q.dropDeadUrgent t else q) := by
    intro q
    unfold State.dropDeadUrgent
    split
    · split
      · exact of_hands (.updTrunk t _)
      · exact refl q
    · exact refl q
  unfold State.sendFrame
  split
  · refine trans (of_hands (.waitTrunk t waited)) ?_
    unfold State.schedule
    split
    · exact of_hands (.updTrunk t _)
    · dsimp only
      split
      · exact hdrop _
      · exact (hdrop _).trans (hsend _ _)
  · exact refl s

theorem accountGood (d : DoorNo) : KeepsSweeps s (s.accountGood d) := by
  have hset : Hands (fun _ => False) s (s.updDoor d fun x => { x with misses := 0 }) := .updDoor d
  unfold State.accountGood
  refine trans (of_hands hset) (of_hands ?_)
  dsimp only
  split
  · exact .refl _
  · exact .updDoor d
  · exact .trans (.updDoor d) (.raiseDoor _ d)

theorem accountMiss (d : DoorNo) : KeepsSweeps s (s.accountMiss d) := by
  unfold State.accountMiss
  dsimp only
  split
  · exact refl s
  · split
    · exact (of_hands (.updDoor d)).trans (goSilent d)
    · exact of_hands (.updDoor d)

theorem trunkDown (t : Trunk) : KeepsSweeps s (s.trunkDown t) := by
  unfold State.trunkDown
  exact ((of_hands (.trans (.updTrunk t _) (.raise _ _ _))).trans (returnGranted _ _)).trans (of_hands (.updTrunk t _))

theorem trunkUp (t : Trunk) (skip : List DoorNo) : KeepsSweeps s (s.trunkUp t skip) := by
  unfold State.trunkUp
  exact (of_hands (.trans (.trans (.updTrunk t _) (.raise _ _ _)) (.consider t))).trans (trunkBack t skip)

theorem trunkGood (t : Trunk) (skip : List DoorNo) : KeepsSweeps s (s.trunkGood t skip) := by
  unfold State.trunkGood
  dsimp only
  split
  · exact (of_hands (.updTrunk t _)).trans (trunkUp t skip)
  · exact of_hands (.updTrunk t _)

theorem trunkFailure (t : Trunk) : KeepsSweeps s (s.trunkFailure t) := by
  unfold State.trunkFailure
  dsimp only
  split
  · exact (of_hands (.updTrunk t _)).trans (trunkDown t)
  · exact of_hands (.updTrunk t _)

theorem deliverFailure (f : LineFrame) : KeepsSweeps s (s.deliverFailure f) := by
  unfold State.deliverFailure
  split
  · split
    · exact refl s
    · exact driveFailed _
  · exact refl s

theorem outcomeGood (t : Trunk) (f : LineFrame) (rep : Report) : KeepsSweeps s (s.outcomeGood t f rep) := by
  unfold State.outcomeGood
  split
  · exact ((accountGood _).trans (trunkGood t _)).trans (report _ _ _)
  · exact trunkGood t _

theorem outcomeBad (t : Trunk) (f : LineFrame) : KeepsSweeps s (s.outcomeBad t f) := by
  unfold State.outcomeBad
  split
  · exact ((accountMiss _).trans (trunkFailure t)).trans (deliverFailure f)
  · exact trunkFailure t

theorem takeFrame (t : Trunk) (f : LineFrame) (reply : LineReply) : KeepsSweeps s (s.takeFrame t f reply) := by
  have hclear : ∀ q : State, KeepsSweeps q (q.clearOffCount t) := by
    intro q
    unfold State.clearOffCount
    split
    · exact of_hands (.updTrunk t _)
    · exact refl q
  unfold State.takeFrame
  refine trans ?_ (hclear _)
  split
  · exact outcomeGood t f _
  all_goals exact outcomeBad t f

theorem freeLine (t : Trunk) : KeepsSweeps s (s.freeLine t) := of_hands (.trans (.updTrunk t _) .secondRuns)

theorem frameOutcome (t : Trunk) (reply : LineReply) : KeepsSweeps s (s.frameOutcome t reply) := by
  have hsent : ∀ f, KeepsSweeps s (s.frameSent t f) := by
    intro f
    unfold State.frameSent
    refine of_hands (.trans (.updTrunk t _) (.updDoor _ fun x => ?_))
    split
    all_goals exact ⟨rfl, rfl, rfl, id⟩
  unfold State.frameOutcome
  split
  · dsimp only
    split
    · exact (hsent _).trans (freeLine t)
    · exact ((hsent _).trans (freeLine t)).trans (takeFrame t _ reply)
  all_goals exact refl s

theorem endWindow (t : Trunk) (bits : BitVec 7) : KeepsSweeps s (s.endWindow t bits) := by
  have hbid : ∀ q : State, KeepsSweeps q (q.takeBid t bits.toNat) := by
    intro q
    unfold State.takeBid
    split
    · exact refl q
    · split
      · exact of_hands (.updTrunk t _)
      · exact refl q
  unfold State.endWindow
  split
  · split
    · exact freeLine t
    · exact (freeLine t).trans (hbid _)
  all_goals exact refl s

theorem lowerLimit (n : Nat) (d : DoorNo) : KeepsSweeps s (s.lowerLimit n d) := by
  unfold State.lowerLimit
  dsimp only
  split
  · exact of_hands (.updDoor d)
  · exact (of_hands (.updDoor d)).trans (goSilent d)

theorem applyLimit (t : Trunk) (old new : Nat) : KeepsSweeps s (s.applyLimit t old new) := by
  unfold State.applyLimit
  split
  · exact mapDoors fun x => by unfold Door.raiseLimit; split <;> exact ⟨rfl, rfl, rfl, id⟩
  · split
    · exact forEach _ fun d _ => lowerLimit new d
    · exact refl s

theorem takeTrunkSet (trunk budget runLength : Byte) (rest : Word16) (gap silence : Byte) :
    KeepsSweeps s (takeTrunkSet trunk budget runLength rest gap silence s).1 := by
  unfold Machine.takeTrunkSet
  split
  · exact refl s
  · split
    · split
      · exact (of_hands (.trans (.updTrunk _ _) (.consider _))).trans (applyLimit _ _ _)
      · exact refl s
    · exact refl s

/-! ### Holds -/

theorem beginOn (k : HoldKind) (d : DoorNo) : KeepsSweeps s (s.beginOn k d) := by
  have h : Hands (Eq d) s (s.moveToHeld d) := .moveToHeld rfl
  unfold State.beginOn
  cases k with
  | defer => exact finishOf (h.trans (.deferOn rfl))
  | keepOpen => exact finishOf (h.trans (.keepOpenOn rfl))

theorem addHold (h : Hold) : KeepsSweeps s (s.addHold h) := by
  unfold State.addHold
  exact trans (s' := { s with holds := s.holds ++ [h], lastHoldId := h.id }) (of_tables rfl rfl rfl)
    (forEach _ fun d _ => beginOn _ d)

theorem freeDoor (d : DoorNo) : KeepsSweeps s (s.freeDoor d) := by
  unfold State.freeDoor
  split
  · exact of_hands (.freeUnlinked d)
  · split
    · exact reclassify (.refl s)
    · split
      · exact of_hands (.updDoor d)
      · exact of_hands (.freeUnlinked d)

theorem endHold (h : Hold) (cause : HoldCause) : KeepsSweeps s (s.endHold h cause) := by
  have hrem : KeepsSweeps s (s.removeHold h) := by
    unfold State.removeHold
    refine trans (s' := { s with holds := s.holds.filter (fun x => !(x.id == h.id)) }) (of_tables rfl rfl rfl) ?_
    dsimp only
    split
    · exact refl _
    · exact of_hands (.updInput _ _)
  unfold State.endHold
  exact ((hrem.trans (forEach _ fun d _ => freeDoor d)).trans (giveSet _ _)).trans (of_hands (.raise _ _ _))

theorem endSpent (id : Nat) : KeepsSweeps s (s.endSpent id) := by
  unfold State.endSpent
  split
  · exact refl s
  · split
    · exact endHold _ _
    · exact refl s

theorem endCountedDown (id : Nat) : KeepsSweeps s (s.endCountedDown id) := by
  unfold State.endCountedDown
  dsimp only
  split
  · exact (forEach _ fun id _ => endSpent id).trans (endSpent id)
  · exact refl s

theorem takeHoldAdd (kind form : Byte) (scope : ZoneSet) (minutes : Word16) :
    KeepsSweeps s (takeHoldAdd kind form scope minutes s).1 := by
  unfold Machine.takeHoldAdd
  split
  · split
    · split
      · exact refl s
      · exact addHold _
    · exact refl s
  · exact refl s

theorem takeHoldEnd (id : Byte) : KeepsSweeps s (takeHoldEnd id s).1 := by
  unfold Machine.takeHoldEnd
  split
  · exact refl s
  · exact endHold _ _

/-! ### CANCEL and the fire onset, which free several slots before they offer them -/

theorem clearMarkers (l : List ZoneNo) : KeepsSweeps s (s.clearMarkers l) := forEach l fun z _ => of_hands (.updZone z fun _ _ => rfl)

theorem busy_cancelSweep_of {F : SlotNo → Prop} (h : s.BusyBut F) {k : SlotNo} (hk : F k) : (s.cancelSweep k).BusyBut F := by
  obtain ⟨hp, hi⟩ := State.busy_cancelSweep h k
  exact ⟨hp, hi.mono fun j hj => hj.elim id fun hjk => hjk ▸ hk⟩

/-- Sweeps are cancelled, and their slots are offered afterwards, one at a time (R59, R76). -/
theorem busy_offers {F : SlotNo → Prop} (l : List SlotNo) (h : s.BusyBut fun k => F k ∨ k ∈ l) :
    (Machine.forEach l State.offer s).BusyBut F := by
  induction l generalizing s with
  | nil => exact ⟨h.1, h.2.mono fun k hk => hk.resolve_right List.not_mem_nil⟩
  | cons k l ih =>
    refine ih (State.busy_offer ⟨h.1, h.2.mono fun j hj => ?_⟩)
    rcases hj with hj | hj
    · exact .inl (.inl hj)
    · exact (List.mem_cons.mp hj).elim .inr fun hl => .inl (.inr hl)

theorem busy_offerSlots {F : SlotNo → Prop} (l : List SlotNo) (h : s.BusyBut fun k => F k ∨ k ∈ l) :
    (s.offerSlots l).BusyBut F :=
  busy_offers _ ⟨h.1, h.2.mono fun _ hk => hk.imp_right mem_sortByKey.mpr⟩

theorem takeCancel (zones : ZoneSet) : KeepsSweeps s (takeCancel zones s).1 := by
  unfold Machine.takeCancel
  split
  · exact refl s
  · dsimp only
    generalize (zonesOf zones).filter (fun z => (s.zone z).marker.isSome) = marked
    generalize (zonesOf zones).filterMap (fun z => (s.sweepOf z).map fun e => (z, e.1)) = swept
    refine trans (clearMarkers marked) ?_
    generalize s.clearMarkers marked = q
    refine ⟨fun hl => (offerSlots _).laws ?_, fun F h => busy_offerSlots _ ?_⟩
    · induction swept generalizing q with
      | nil => exact hl
      | cons e l ih => exact ih _ (cancelSweep_laws e.2 hl)
    · suffices hall : ∀ l, (∀ e ∈ l, e ∈ swept) → ∀ q : State, (q.BusyBut fun k => F k ∨ k ∈ swept.map Prod.snd) →
          (Machine.forEach l (fun e => State.cancelSweep e.2) q).BusyBut fun k => F k ∨ k ∈ swept.map Prod.snd from
        hall swept (fun _ => id) q ⟨h.1, h.2.mono fun _ => .inl⟩
      intro l
      induction l with
      | nil => exact fun _ _ => id
      | cons e l ih =>
        intro hl q hq
        obtain ⟨he, hl⟩ := List.forall_mem_cons.mp hl
        exact ih hl _ (busy_cancelSweep_of hq (.inr (List.mem_map.mpr ⟨e, he, rfl⟩)))

/-- What a zone gives up at the onset: its marker of LOCK, and its sweep of LOCK. -/
theorem withdrawLock_eq (z : ZoneNo) : ∃ q, Hands (fun _ => False) s q ∧ q.slots = s.slots ∧
    s.withdrawLock z = match s.lockSweepOf z with
      | none => q
      | some k => q.cancelSweep k := by
  unfold State.withdrawLock
  split
  · exact ⟨_, .updZone z fun _ _ => rfl, rfl, rfl⟩
  · exact ⟨_, .refl s, rfl, rfl⟩

end KeepsSweeps

end Sys2Proof.Machine



namespace Sys2Proof.Machine

/-! ### Fire, inputs, the clock and the restarts keep the laws of sweeps -/

/-- A zone's sweep is found by the slots that hold a sweep of that zone. -/
theorem State.sweepOf_congr {s s' : State} {z : ZoneNo}
    (h : ∀ k w, w.zone = z → (s'.slot k = some w ↔ s.slot k = some w)) : s'.sweepOf z = s.sweepOf z := by
  have hany : ∀ k, ((s'.slot k).map fun w => (k, w)).any (fun e => e.2.zone == z) =
      ((s.slot k).map fun w => (k, w)).any (fun e => e.2.zone == z) := by
    intro k
    rw [Bool.eq_iff_iff]
    simp only [Option.any_eq_true, Option.map_eq_some_iff, beq_iff_eq]
    constructor
    · rintro ⟨_, ⟨w, hw, rfl⟩, hz⟩
      exact ⟨_, ⟨w, (h k w hz).mp hw, rfl⟩, hz⟩
    · rintro ⟨_, ⟨w, hw, rfl⟩, hz⟩
      exact ⟨_, ⟨w, (h k w hz).mpr hw, rfl⟩, hz⟩
  simp only [State.sweepOf, State.sweeps, List.find?_filterMap, hany]
  cases hk : (List.finRange 8).find? (fun k => ((s.slot k).map fun w => (k, w)).any (fun e => e.2.zone == z)) with
  | none => rfl
  | some k =>
    obtain ⟨_, he, hz⟩ := (Option.any_eq_true ..).mp (List.find?_eq_some_iff_append.mp hk).1
    obtain ⟨w, hw, rfl⟩ := Option.map_eq_some_iff.mp he
    rw [Option.bind_some, Option.bind_some, hw, (h k w (beq_iff_eq.mp hz)).mpr hw]

namespace KeepsSweeps

variable {s s' : State}

/-- A LOCK sweep found is of the zone and stands in its slot. -/
theorem slot_lockSweepOf {z : ZoneNo} {k : SlotNo} (h : s.lockSweepOf z = some k) : ∃ w, s.slot k = some w ∧ w.zone = z := by
  unfold State.lockSweepOf at h
  split at h
  · cases h
  · next j w hs =>
    split at h
    · cases h
      exact ⟨w, State.mem_sweeps.mp (List.mem_of_find?_eq_some hs), by simpa using List.find?_some hs⟩
    · cases h

/-- A zone's withdrawal leaves the sweeps of the other zones. -/
theorem lockSweepOf_withdrawLock {z y : ZoneNo} (hy : y ≠ z) : (s.withdrawLock z).lockSweepOf y = s.lockSweepOf y := by
  have hcongr : (s.withdrawLock z).sweepOf y = s.sweepOf y := by
    obtain ⟨q, -, hslots, he⟩ := withdrawLock_eq (s := s) z
    have hslot : ∀ j, q.slot j = s.slot j := fun j => congrArg (·[j.val]) hslots
    refine State.sweepOf_congr fun j v hv => ?_
    rw [he]
    split
    · rw [hslot]
    · next k hk =>
      obtain ⟨w, hw, hz⟩ := slot_lockSweepOf hk
      by_cases hj : j = k
      · rw [hj, State.slot_cancelSweep, hw]
        exact iff_of_false (fun h => nomatch h) fun h => hy (by rw [← hv, ← Option.some.inj h, hz])
      · rw [State.slot_cancelSweep_ne q hj, hslot]
  unfold State.lockSweepOf
  rw [hcongr]

theorem withdrawLocks_laws (l : List ZoneNo) (h : s.SweepLaws) : (Machine.forEach l State.withdrawLock s).SweepLaws := by
  induction l generalizing s with
  | nil => exact h
  | cons z l ih =>
    obtain ⟨q, hq, -, he⟩ := withdrawLock_eq (s := s) z
    refine ih (?_ : (s.withdrawLock z).SweepLaws)
    rw [he]
    split
    · exact hq.sweepLaws h
    · exact cancelSweep_laws _ (hq.sweepLaws h)

/-- The slots of the sweeps withdrawn are those found at first (R139 step 2). -/
theorem withdrawLocks_busy {F : SlotNo → Prop} {l : List ZoneNo} (hl : l.Nodup) (h : s.BusyBut F)
    (hF : ∀ z ∈ l, ∀ k, s.lockSweepOf z = some k → F k) : (Machine.forEach l State.withdrawLock s).BusyBut F := by
  induction l generalizing s with
  | nil => exact h
  | cons z l ih =>
    obtain ⟨hz, hl⟩ := List.nodup_cons.mp hl
    obtain ⟨hFz, hFl⟩ := List.forall_mem_cons.mp hF
    refine ih hl (?_ : (s.withdrawLock z).BusyBut F) fun y hy k hk => ?_
    · obtain ⟨q, hq, -, he⟩ := withdrawLock_eq (s := s) z
      rw [he]
      split
      · exact hq.busyBut h
      · next k hk => exact busy_cancelSweep_of (hq.busyBut h) (hFz k hk)
    · rw [lockSweepOf_withdrawLock (ne_of_mem_of_not_mem hy hz)] at hk
      exact hFl y hy k hk

theorem releaseFireDoor (d : DoorNo) : KeepsSweeps s (s.releaseFireDoor d) := by
  have hset : Hands (Eq d) s (s.updDoor d fun x => { x with intent := .release }) := .updDoor d
  exact finishOf (hset.trans (.turnToRelease rfl))

theorem fireOnset : KeepsSweeps s s.fireOnset := by
  have hfire : KeepsSweeps s { s with fire := .active } := of_tables rfl rfl rfl
  unfold State.fireOnset
  dsimp only
  refine hfire.trans (trans ?_ (of_hands (.raise _ _ _)))
  generalize ({ s with fire := .active } : State) = q
  have hdoors : ∀ p : State, KeepsSweeps p (Machine.forEach p.fireDoors State.releaseFireDoor p).rederiveAll := fun p =>
    (forEach _ fun d _ => releaseFireDoor d).trans (of_hands .rederiveAll)
  refine ⟨fun hl => (offerSlots _).laws ((hdoors _).laws (withdrawLocks_laws _ hl)), fun F h =>
    busy_offerSlots _ ((hdoors _).busy _ (withdrawLocks_busy ((List.nodup_finRange 32).filter _)
      ⟨h.1, h.2.mono fun _ => .inl⟩ fun z hz k hk => .inr (List.mem_filterMap.mpr ⟨z, hz, hk⟩)))⟩

theorem fireChange (b : Bool) : KeepsSweeps s (s.fireChange b) := by
  unfold State.fireChange
  split
  · exact fireOnset
  · exact fireOnset
  · unfold State.fireCleared
    have hfire : KeepsSweeps s { s with fire := .cleared } := of_tables rfl rfl rfl
    exact hfire.trans (of_hands (.trans (.raise _ _ _) .rederiveAll))
  all_goals exact refl s

/-! ### Inputs -/

theorem raiseInput (i : InputNo) (b : Bool) : KeepsSweeps s (s.raiseInput i b) := of_hands (.raise _ _ _)

theorem makeInputHold (i : InputNo) : KeepsSweeps s (s.makeInputHold i) := by
  unfold State.makeInputHold
  split
  · exact raiseInput i _
  · exact (addHold _).trans (of_hands (.updInput i _))

theorem endOwned (i : InputNo) (cause : HoldCause) : KeepsSweeps s (s.endOwned i cause) := by
  unfold State.endOwned
  split
  · exact refl s
  · split
    · exact refl s
    · exact endHold _ _

theorem takeActivity (i : InputNo) (was : Bool) : KeepsSweeps s (s.takeActivity i was) := by
  unfold State.takeActivity
  split
  · unfold State.becameActive
    split
    · exact makeInputHold i
    · exact giveSet _ _
    · exact giveSet _ _
    · exact fireChange _
    all_goals exact refl s
  · unfold State.becameInactive
    split
    · exact endOwned i _
    · exact fireChange _
    all_goals exact refl s
  all_goals exact refl s

theorem acceptLevel (i : InputNo) : KeepsSweeps s (s.acceptLevel i) := by
  unfold State.acceptLevel
  split
  · exact refl s
  · split
    · exact refl s
    · refine trans ?_ (takeActivity i _)
      split
      · exact (of_hands (.updInput i _)).trans (raiseInput i _)
      · exact of_hands (.updInput i _)

theorem takeInputSet (input level function : Byte) (zones : ZoneSet) (kind : Byte) :
    KeepsSweeps s (takeInputSet input level function zones kind s).1 := by
  have hfire : ∀ l, KeepsSweeps s (s.setFireInput l) := fun l => by
    unfold State.setFireInput
    exact (of_hands (.updInput 0 _)).trans (takeActivity 0 _)
  have hconfig : ∀ i l f z k, KeepsSweeps s (s.setInputConfig i l f z k) := by
    intro i l f z k
    unfold State.setInputConfig
    dsimp only
    split
    · exact ((endOwned i _).trans (of_hands (.updInput i _))).trans (makeInputHold i)
    · exact (endOwned i _).trans (of_hands (.updInput i _))
  unfold Machine.takeInputSet
  split
  · split
    · exact hfire _
    · split
      · split
        · exact hconfig _ _ _ _ _
        · exact refl s
      · exact refl s
  · exact refl s

theorem takeFireRestore : KeepsSweeps s (takeFireRestore s).1 := by
  unfold Machine.takeFireRestore
  split
  · exact refl s
  · exact refl s
  · have hfire : KeepsSweeps s { s with fire := .normal } := of_tables rfl rfl rfl
    have hdoors : KeepsSweeps s { s with fire := .normal, doors := mapAll Door.fireOver s.doors } :=
      hfire.trans (mapDoors fun x => by unfold Door.fireOver; split <;> exact ⟨rfl, rfl, rfl, id⟩)
    unfold State.fireRestore
    exact (hdoors.trans (of_hands .rederiveAll)).trans (giveSet _ _)

/-! ### Zones, plans and sweeps -/

theorem takeZoneSet (zone rank lead chime passage ajar leader rule : Byte) :
    KeepsSweeps s (takeZoneSet zone rank lead chime passage ajar leader rule s).1 := by
  unfold Machine.takeZoneSet
  repeat' split
  all_goals dsimp only
  all_goals first | exact refl s | exact of_hands (.updZone _ fun _ h => h)

theorem takePlanStage (zone dayType : Byte) (lockup release : Word16) :
    KeepsSweeps s (takePlanStage zone dayType lockup release s).1 := by
  unfold Machine.takePlanStage
  split
  · split
    · exact refl s
    · dsimp only
      split
      · exact of_hands (.trans (.updZone _ (by exact fun _ h => h)) (.groupLoad _))
      · exact of_hands (.updZone _ (by exact fun _ h => h))
  · exact refl s

theorem takePlanLoad (zone : Byte) : KeepsSweeps s (takePlanLoad zone s).1 := by
  unfold Machine.takePlanLoad
  split
  · dsimp only
    exact of_hands (.groupLoad _)
  · exact refl s

theorem takeSweep (zones : ZoneSet) (direction : Byte) : KeepsSweeps s (takeSweep zones direction s).1 := by
  unfold Machine.takeSweep
  split
  · exact refl s
  · split
    · exact refl s
    · split
      · exact refl s
      · exact giveSet .link _

/-! ### The clock -/

/-- A minute of a warning leaves it a warning. -/
def Phase.minute : Phase → Phase
  | .warning c => .warning c.tick
  | .active => .active

theorem sweep_minute (w : Sweep) : w.minute = { w with phase := Phase.minute w.phase } := by
  obtain ⟨z, d, o, p, t, c⟩ := w
  cases p <;> rfl

theorem minuteBoundary : KeepsSweeps s s.minuteBoundary := by
  have hcount : s.SameSweeps s.countMinute := by
    refine ⟨fun d => ?_, fun k => ⟨Phase.minute, fun p => by cases p <;> simp [Phase.minute], ?_⟩, fun _ => id⟩
    · rw [show s.countMinute.door d = (s.door d).minute from State.door_mapDoors s Door.minute d]
      exact ⟨rfl, rfl, rfl, id⟩
    · have hslot : s.countMinute.slot k = (s.slot k).map Sweep.minute := by simp [State.countMinute, State.slot]
      rw [hslot]
      exact congrArg (Option.map · (s.slot k)) (funext sweep_minute)
  unfold State.minuteBoundary
  refine trans (of_hands (.same hcount)) ?_
  unfold State.giveSchedule
  split
  · exact giveSet _ _
  · exact refl _

theorem advanceClock : KeepsSweeps s s.advanceClock := by
  have hclock : ∀ c, KeepsSweeps s { s with clock := c } := fun _ => of_tables rfl rfl rfl
  unfold State.advanceClock
  dsimp only
  split
  · split
    · exact (hclock _).trans minuteBoundary
    · exact hclock _
  · exact ((hclock _).trans (of_hands (.forEach _ fun z _ => .loadUnder _ z))).trans minuteBoundary

theorem endAllowance (d : DoorNo) : KeepsSweeps s (s.endAllowance d) := by
  unfold State.endAllowance
  split
  · exact of_hands (.updDoor d)
  · exact refl s

theorem endPassage (d : DoorNo) : KeepsSweeps s (s.endPassage d) := by
  unfold State.endPassage
  split
  · exact of_hands (.trans (.raiseDoor _ d) (.updDoor d))
  · exact refl s

theorem endReminder (d : DoorNo) : KeepsSweeps s (s.endReminder d) := by
  unfold State.endReminder
  split
  · exact of_hands (.trans (.raiseDoor _ d) (.setReminder d))
  · exact refl s

theorem takeEnds : KeepsSweeps s s.takeEnds := by
  unfold State.takeEnds
  exact ((((forEach _ fun d _ => endAllowance d).trans (forEach _ fun d _ => endPassage d)).trans
    (forEach _ fun d _ => endReminder d)).trans (forEach _ fun k _ => endWarning k)).trans
    (forEach _ fun id _ => endSpent id)

theorem completeSecond : KeepsSweeps s s.completeSecond := by
  unfold State.completeSecond
  split
  · exact of_hands .secondRuns
  · exact (takeEnds.trans (mapDoors (f := Door.second) fun _ => ⟨rfl, rfl, rfl, id⟩)).trans advanceClock

/-! ### The restarts -/

/-- Where no door is linked, no slot taken and no zone waits, the laws hold whatever stood before. -/
theorem of_empty (hd : ∀ d, (s'.door d).sweep = none) (hk : ∀ k, s'.slot k = none) (hz : ∀ z, (s'.zone z).marker = none) :
    KeepsSweeps s s' := by
  refine ⟨fun _ => ⟨⟨fun j _ v hv => ?_, fun k w hw => ?_⟩, fun d l hl => ?_, fun k w hw => ?_⟩,
    fun _ _ => ⟨fun k _ w hw => ?_, fun _ _ _ => hz⟩⟩
  · exact nomatch (hk j).symm.trans hv
  · exact nomatch (hk k).symm.trans hw
  · exact nomatch (hd d).symm.trans hl
  · exact nomatch (hk k).symm.trans hw
  · exact nomatch (hk k).symm.trans hw

theorem warmTables : KeepsSweeps s s.warmTables :=
  of_empty (fun d => by rw [show s.warmTables.door d = (s.door d).warm from State.door_mapDoors s Door.warm d]; rfl)
    (fun k => by simp [State.warmTables, State.slot]) (fun z => by simp [State.warmTables, State.zone])

theorem cold (r : LinkRate) (p : List Instr) : KeepsSweeps s { State.cold r with pending := p } :=
  of_empty (fun d => by simp [State.cold, State.door, Door.cold]) (fun k => by simp [State.cold, State.slot])
    (fun z => by simp [State.cold, State.zone, Zone.cold])

theorem takeRestart : KeepsSweeps s (takeRestart s).1 := by
  have hholds : ∀ q : State, KeepsSweeps q q.warmHolds := fun q => by
    unfold State.warmHolds
    exact trans (s' := { q with holds := [], inputs := q.inputs.map (fun x => { x with owned := none }) })
      (of_tables rfl rfl rfl) (forEach _ fun i _ => makeInputHold i)
  have hfire : ∀ q : State, KeepsSweeps q { q with doors := mapAll (Door.warmFire q.fire) q.doors } := fun q =>
    mapDoors fun x => by
      unfold Door.warmFire Door.underFire
      repeat' split
      all_goals exact ⟨rfl, rfl, rfl, id⟩
  have hnotice : ∀ (q : State) n, KeepsSweeps q { q with noticeSet := n } := fun _ _ => of_tables rfl rfl rfl
  exact ((((warmTables.trans (hholds _)).trans (hfire _)).trans (of_hands .rederiveAll))).trans (hnotice _ _)

end KeepsSweeps

end Sys2Proof.Machine



namespace Sys2Proof.Machine

/-! ### The commands that are requests -/

/-- What a command that is a request does and answers, whether it comes by itself or in a frame. -/
def takeOf : Instr → Option (State → State × Answer)
  | .status => some takeStatus
  | .fetch => some takeFetch
  | .doorRead d => some (takeDoorRead d)
  | .zoneRead z => some (takeZoneRead z)
  | .sweepRead k => some (takeSweepRead k)
  | .holdRead => some takeHoldRead
  | .planRead z => some (takePlanRead z)
  | .clockSet y m d n => some (takeClockSet y m d n)
  | .weekSet a b c d e f g => some (takeWeekSet a b c d e f g)
  | .dateAdd y m d t => some (takeDateAdd y m d t)
  | .dateRemove y m d => some (takeDateRemove y m d)
  | .classSet c l r n k => some (takeClassSet c l r n k)
  | .trunkSet t b l r g q => some (takeTrunkSet t b l r g q)
  | .doorSet d t a z r c f => some (takeDoorSet d t a z r c f)
  | .doorClear d => some (takeDoorClear d)
  | .zoneSet z r l c p a m u => some (takeZoneSet z r l c p a m u)
  | .planStage z t l r => some (takePlanStage z t l r)
  | .planLoad z => some (takePlanLoad z)
  | .inputSet i l f z k => some (takeInputSet i l f z k)
  | .noticeMask m => some (takeNoticeMask m)
  | .sweep z d => some (takeSweep z d)
  | .cancel z => some (takeCancel z)
  | .doorAct d a => some (takeDoorAct d a)
  | .holdAdd k f v m => some (takeHoldAdd k f v m)
  | .holdEnd i => some (takeHoldEnd i)
  | .fireRestore => some takeFireRestore
  | .restart => some takeRestart
  | _ => none

theorem exec_of_take {c : Instr} {take : State → State × Answer} (h : takeOf c = some take) (s : State) :
    exec c s = answered take s := by
  cases c <;> cases h <;> rfl

/-- A block's action on a payload is what one of the requests does (R177). -/
theorem take_of_requestAction {kind : Byte} {act : Action} (h : requestAction kind = some act) {payload : List Byte}
    {s : State} {r : State × Answer} (ha : act payload s = some r) : ∃ c take, takeOf c = some take ∧ take s = r := by
  unfold requestAction at h
  split at h
  case h_28 => cases h
  all_goals cases h
  all_goals
    simp only [with0.eq_def, with1.eq_def, with2.eq_def, with3.eq_def, with4.eq_def, with5.eq_def, with6.eq_def,
      with7.eq_def, with8.eq_def] at ha
    split at ha
    all_goals cases ha
  · exact ⟨.status, _, rfl, rfl⟩
  · exact ⟨.fetch, _, rfl, rfl⟩
  · exact ⟨.doorRead _, _, rfl, rfl⟩
  · exact ⟨.zoneRead _, _, rfl, rfl⟩
  · exact ⟨.sweepRead _, _, rfl, rfl⟩
  · exact ⟨.holdRead, _, rfl, rfl⟩
  · exact ⟨.planRead _, _, rfl, rfl⟩
  · exact ⟨.clockSet _ _ _ _, _, rfl, rfl⟩
  · exact ⟨.weekSet _ _ _ _ _ _ _, _, rfl, rfl⟩
  · exact ⟨.dateAdd _ _ _ _, _, rfl, rfl⟩
  · exact ⟨.dateRemove _ _ _, _, rfl, rfl⟩
  · exact ⟨.classSet _ _ _ _ _, _, rfl, rfl⟩
  · exact ⟨.trunkSet _ _ _ _ _ _, _, rfl, rfl⟩
  · exact ⟨.doorSet _ _ _ _ _ _ _, _, rfl, rfl⟩
  · exact ⟨.doorClear _, _, rfl, rfl⟩
  · exact ⟨.zoneSet _ _ _ _ _ _ _ _, _, rfl, rfl⟩
  · exact ⟨.planStage _ _ _ _, _, rfl, rfl⟩
  · exact ⟨.planLoad _, _, rfl, rfl⟩
  · exact ⟨.inputSet _ _ _ _ _, _, rfl, rfl⟩
  · exact ⟨.noticeMask _, _, rfl, rfl⟩
  · exact ⟨.sweep _ _, _, rfl, rfl⟩
  · exact ⟨.cancel _, _, rfl, rfl⟩
  · exact ⟨.doorAct _ _, _, rfl, rfl⟩
  · exact ⟨.holdAdd _ _ _ _, _, rfl, rfl⟩
  · exact ⟨.holdEnd _, _, rfl, rfl⟩
  · exact ⟨.fireRestore, _, rfl, rfl⟩
  · exact ⟨.restart, _, rfl, rfl⟩

namespace KeepsSweeps

variable {s s' t : State}

/-- A request that reads the state, or writes outside the three tables. -/
theorem of_guard {p : Prop} [Decidable p] {q : State} {a b : Answer} (hq : KeepsSweeps s q) :
    KeepsSweeps s (if p then (q, a) else (s, b)).1 := by
  split
  · exact hq
  · exact refl s

theorem takeDateAdd (y m d t : Byte) : KeepsSweeps s (takeDateAdd y m d t s).1 := by
  unfold Machine.takeDateAdd
  dsimp only
  split
  · exact refl s
  · split
    · split
      · exact refl s
      · exact of_tables rfl rfl rfl
    · exact refl s

theorem takeOf {c : Instr} {take : State → State × Answer} (h : takeOf c = some take) : KeepsSweeps s (take s).1 := by
  cases c <;> cases h
  case status | doorRead | holdRead => exact refl s
  case zoneRead => unfold Machine.takeZoneRead; split <;> exact refl s
  case sweepRead => unfold Machine.takeSweepRead; split <;> exact refl s
  case planRead => unfold Machine.takePlanRead; split <;> exact refl s
  case fetch => exact of_tables rfl rfl rfl
  case clockSet => exact of_guard (of_tables rfl rfl rfl)
  case weekSet => unfold Machine.takeWeekSet; split <;> exact of_tables rfl rfl rfl
  case dateAdd => exact takeDateAdd _ _ _ _
  case dateRemove => exact of_guard (of_tables rfl rfl rfl)
  case classSet => exact takeClassSet _ _ _ _ _
  case trunkSet => exact takeTrunkSet _ _ _ _ _ _
  case doorSet => exact takeDoorSet _ _ _ _ _ _ _
  case doorClear => exact takeDoorClear _
  case zoneSet => exact takeZoneSet _ _ _ _ _ _ _ _
  case planStage => exact takePlanStage _ _ _ _
  case planLoad => exact takePlanLoad _
  case inputSet => exact takeInputSet _ _ _ _ _
  case noticeMask => unfold Machine.takeNoticeMask; split <;> exact of_tables rfl rfl rfl
  case sweep => exact takeSweep _ _
  case cancel => exact takeCancel _
  case doorAct => exact takeDoorAct _ _
  case holdAdd => exact takeHoldAdd _ _ _ _
  case holdEnd => exact takeHoldEnd _
  case fireRestore => exact takeFireRestore
  case restart => exact takeRestart

theorem answered {c : Instr} {take : State → State × Answer} (h : Machine.takeOf c = some take)
    (ht : Machine.answered take s = .next t) : KeepsSweeps s t := by
  cases ht
  exact ((of_hands .secondRuns).trans (takeOf h)).trans (of_tables rfl rfl rfl)

/-! ### The link -/

theorem requestFrame : KeepsSweeps s s.requestFrame := by
  have hpass : ∀ (q : State) kind tag payload, KeepsSweeps q (q.passOn kind tag payload) := by
    intro q kind tag payload
    unfold State.passOn
    split
    · exact of_tables rfl rfl rfl
    · next act hact =>
      split
      · exact of_tables rfl rfl rfl
      · unfold State.takeRequest
        split
        · exact of_tables rfl rfl rfl
        · next r a ha =>
          obtain ⟨c, take, hc, hr⟩ := take_of_requestAction hact ha
          have h := takeOf (s := q) hc
          rw [hr] at h
          exact h.trans (of_tables rfl rfl rfl)
  unfold State.requestFrame
  split
  · split
    · exact ((of_hands .secondRuns).trans (hpass _ _ _ _)).trans (of_tables rfl rfl rfl)
    · exact of_tables rfl rfl rfl
  · exact refl s

theorem linkCharacter (b : Byte) (e : Bool) : KeepsSweeps s (s.linkCharacter b e) := by
  have hstore : KeepsSweeps s (s.storeCharacter b) := by
    unfold State.storeCharacter State.faultyFrame
    dsimp only
    repeat' split
    all_goals exact of_tables rfl rfl rfl
  unfold State.linkCharacter
  split
  · split
    · exact of_tables rfl rfl rfl
    · split
      · exact of_tables rfl rfl rfl
      · exact refl s
  · split
    · exact of_tables rfl rfl rfl
    · exact hstore
  · exact refl s

theorem gapPassed : KeepsSweeps s s.gapPassed := by
  unfold State.gapPassed
  split <;> exact of_tables rfl rfl rfl

theorem quietOver : KeepsSweeps s s.quietOver := by
  unfold State.quietOver
  split <;> exact of_tables rfl rfl rfl

theorem replySent : KeepsSweeps s s.replySent := by
  unfold State.replySent
  split <;> exact of_tables rfl rfl rfl

/-! ### Every step -/

theorem tick : KeepsSweeps s s.tick := by
  unfold State.tick
  exact (forEach _ fun t _ => of_hands (.waitTrunk t 1)).trans (of_tables rfl rfl rfl)

/-- What the world's events and the link do. -/
theorem event {c : Instr} (hc : Machine.takeOf c = none) (h : exec c s = .next t) : KeepsSweeps s t := by
  cases c <;> cases hc <;> cases h
  case coldReset => exact cold _ _
  case linkCharacter => exact (of_hands .secondRuns).trans (linkCharacter _ _)
  case requestFrame => exact requestFrame
  case receiveGap => exact gapPassed
  case quietWaitEnd => exact quietOver
  case replySent => exact replySent
  case linkReset => exact of_tables rfl rfl rfl
  case secondEvent => exact completeSecond
  case exitAllowanceEnd => exact endAllowance _
  case longPassage => exact endPassage _
  case ajarReminder => exact endReminder _
  case warningEnd => exact endWarning _
  case holdCountdownEnd => exact endCountedDown _
  case restEnd => exact endRest _
  case driveTimeout => exact timeOut _
  case sendFrame => exact sendFrame _ _
  case frameOutcome => exact frameOutcome _ _
  case windowEnd => exact endWindow _ _
  case inputLevelChange => exact of_hands (.updInput _ _)
  case levelAccepted => exact acceptLevel _

theorem exec {c : Instr} (h : exec c s = .next t) : KeepsSweeps s t := by
  cases hc : Machine.takeOf c with
  | some take => exact answered hc ((exec_of_take hc s).symm.trans h)
  | none => exact event hc h

theorem step (h : step s = .next t) : KeepsSweeps s t := by
  unfold Machine.step at h
  split at h
  · cases h
    exact tick
  · next c rest _ => exact (of_tables (s := s) (s' := { s with pending := rest }) rfl rfl rfl).trans (exec h)

end KeepsSweeps

/-- Settles O58: work on doors hands linked doors from count to count, and the starts, ends and cancels of sweeps set and
clear the links of a zone with the counts of its walk. -/
theorem sweepLawKept : Obligations.SweepLawKept := fun _ _ hs hc h => (KeepsSweeps.step h).laws ⟨hs, hc⟩

/-- Settles O59: every operation that can take a door out of pending ends in the test of its sweep, and every slot that
becomes free is offered before the command ends. -/
theorem noSweepIdles : Obligations.NoSweepIdles := fun s t hs h =>
  (State.busyLaw_iff t).mpr ((KeepsSweeps.step h).busy _ ((State.busyLaw_iff s).mp hs))

end Sys2Proof.Machine



namespace Sys2Proof.Machine

/-! ### A change of state and its count (R68, R69) -/

/-- The count of a linked door moved, in its link and in its sweep. -/
theorem State.countedAs_linked {s : State} {d : DoorNo} {l : SweepLink} {w : Sweep} (hl : (s.door d).sweep = some l)
    (hw : s.slot l.slot = some w) (st : DoorState) :
    ((s.countedAs d st).door d).sweep = some ⟨l.slot, countTable w.direction l.count st⟩ ∧
    (s.countedAs d st).slot l.slot =
      some { w with counts := w.counts.move l.count (countTable w.direction l.count st) } := by
  simp [State.countedAs, hl, hw]

/-- Settles O28: the Sweep Table and the door's link follow the change, and a move takes one from the old count and gives
one to the new. -/
theorem stateChangeMovesCount : Obligations.StateChangeMovesCount := by
  intro s d st l w hl hw hst
  obtain ⟨hslots, hsweep⟩ := State.changeState_follows hst
  obtain ⟨hlink, hcounts⟩ := State.countedAs_linked hl hw st
  exact ⟨hsweep.trans hlink, State.state_changeState d st s, _, (congrArg (·[l.slot.val]) hslots).trans hcounts, rfl,
    Counts.get_move _ _ _⟩

end Sys2Proof.Machine



namespace Sys2Proof.Machine

/-! ### Milliseconds of one trunk, seen from its work -/

section
variable (s : State) (u : Trunk) (n : Nat)

theorem State.door_waitTrunk (d : DoorNo) :
    ∃ m, (s.waitTrunk u n).door d = { s.door d with sinceFrame := m } := by
  have h : (s.waitTrunk u n).door d = if (s.door d).trunk = u then (s.door d).wait n else s.door d :=
    State.door_mapDoors s _ d
  rw [h]
  split
  · exact ⟨_, rfl⟩
  · exact ⟨(s.door d).sinceFrame, rfl⟩

theorem State.trunk_waitTrunk (t : Trunk) :
    (s.waitTrunk u n).trunk t = if t = u then (s.trunk u).wait n else s.trunk t := State.trunk_updTrunk s u t _

theorem State.slot_waitTrunk (k : SlotNo) : (s.waitTrunk u n).slot k = s.slot k := rfl

theorem State.stamp_waitTrunk : (s.waitTrunk u n).clock.stamp = s.clock.stamp := rfl

theorem TrunkState.wait_supply (x : TrunkState) : (x.wait n).supply = x.supply := by
  have hunits : ∀ r : Record, (r.wait n).units = r.units := fun r => by unfold Record.wait; split <;> rfl
  show x.freeUnits + unitsHeld (x.inFlight.map (Record.wait n)) = _
  rw [unitsHeld, List.map_map, Function.comp_def]
  simp only [hunits]
  rfl

theorem State.queue_waitTrunk (t : Trunk) : ((s.waitTrunk u n).trunk t).queue = (s.trunk t).queue := by
  rw [State.trunk_waitTrunk]
  split
  · next h => rw [h]; rfl
  · rfl

theorem State.mode_waitTrunk (t : Trunk) : ((s.waitTrunk u n).trunk t).mode = (s.trunk t).mode := by
  rw [State.trunk_waitTrunk]
  split
  · next h => rw [h]; rfl
  · rfl

theorem State.supply_waitTrunk (t : Trunk) : ((s.waitTrunk u n).trunk t).supply = (s.trunk t).supply := by
  rw [State.trunk_waitTrunk]
  split
  · next h => rw [h, TrunkState.wait_supply]
  · rfl

theorem State.recordsOf_waitTrunk (t : Trunk) (d : DoorNo) : (s.waitTrunk u n).recordsOf t d = s.recordsOf t d := by
  have hdoor : ∀ r : Record, (r.wait n).door = r.door := fun r => by unfold Record.wait; split <;> rfl
  have hlist : ∀ l : List Record, recordsIn d (l.map (Record.wait n)) = recordsIn d l := fun l => by
    rw [recordsIn, List.filter_map, List.length_map, Function.comp_def]
    simp only [hdoor]
    rfl
  rw [State.recordsOf_eq, State.recordsOf_eq, State.trunk_waitTrunk]
  split
  · next h => rw [h]; exact hlist _
  · rfl

/-- The clock alone is told, as a restarted second is past. -/
theorem State.sameAround_waitTrunk : State.SameAround
    { s with clock := { s.clock with restarted := s.clock.restarted && decide (n = 0) } } (s.waitTrunk u n) :=
  ⟨rfl, rfl, rfl, rfl, rfl, rfl, rfl, rfl, rfl, rfl⟩

end

/-- Milliseconds pass by the law of work. -/
theorem State.WorkAt.waitTrunk {s : State} {d : DoorNo} (h : s.WorkAt d) (u : Trunk) (n : Nat) : (s.waitTrunk u n).WorkAt d := by
  obtain ⟨m, hm⟩ := s.door_waitTrunk u n d
  exact h.congr (by rw [hm]) (by rw [hm]) (fun t => by rw [State.entriesOf_eq, State.queue_waitTrunk]; rfl)
    fun t => s.recordsOf_waitTrunk u n t d

theorem State.SameAround.trans {s t r : State} (h : s.SameAround t) (g : t.SameAround r) : s.SameAround r := by
  obtain ⟨h1, h2, h3, h4, h5, h6, h7, h8, h9, h10⟩ := h
  obtain ⟨g1, g2, g3, g4, g5, g6, g7, g8, g9, g10⟩ := g
  exact ⟨g1.trans h1, g2.trans h2, g3.trans h3, g4.trans h4, g5.trans h5, g6.trans h6, g7.trans h7, g8.trans h8,
    g9.trans h9, g10.trans h10⟩

/-! ### What a run of grants keeps (R89) -/

section
variable {s : State} {t u : Trunk} {d : DoorNo}

/-- Grants take entries from the head of the queue. -/
theorem State.queue_grantLoop_suffix (n : Nat) : ((State.grantLoop n t s).trunk u).queue <:+ (s.trunk u).queue := by
  induction n generalizing s with
  | zero => exact List.suffix_rfl
  | succ n ih =>
    unfold State.grantLoop
    split
    · exact List.suffix_rfl
    · split
      · refine ih.trans ?_
        rw [State.queue_grant]
        split
        · next h => rw [h]; exact List.tail_suffix _
        · exact List.suffix_rfl
      · exact List.suffix_rfl

/-- A record that is there stays through grants. -/
theorem State.mem_inFlight_grantLoop (n : Nat) {r : Record} (h : r ∈ (s.trunk u).inFlight) :
    r ∈ ((State.grantLoop n t s).trunk u).inFlight := by
  induction n generalizing s with
  | zero => exact h
  | succ n ih =>
    unfold State.grantLoop
    split
    · exact h
    · split
      · refine ih ?_
        rw [State.inFlight_grant]
        split
        · next hu => exact List.mem_append_left _ (hu ▸ h)
        · exact h
      · exact h

/-- A door that is ACTING stays so through grants. -/
theorem State.acting_grantLoop (n : Nat) (h : (s.door d).state = .acting) :
    ((State.grantLoop n t s).door d).state = .acting := by
  induction n generalizing s with
  | zero => exact h
  | succ n ih =>
    unfold State.grantLoop
    split
    · exact h
    · split
      · refine ih ?_
        rw [State.door_grant]
        split
        · rfl
        · exact h
      · exact h

/-- A head that cannot be granted, or an empty queue, ends the arbiter's work at once (R89). -/
theorem State.consider_idle (h : ∀ e l, (s.trunk t).queue = e :: l → s.grantable t e = false) : s.consider t = s := by
  unfold State.consider
  cases hq : (s.trunk t).queue with
  | nil => rfl
  | cons e l =>
    rw [List.length_cons, State.grantLoop, hq]
    exact if_neg (by rw [h e l hq]; decide)

theorem State.not_grantable_of_mode (h : (s.trunk t).mode ≠ .running) (e : Entry) : s.grantable t e = false := by
  have : ((s.trunk t).mode == .running) = false := beq_eq_false_iff_ne.mpr h
  simp [State.grantable, this]

theorem State.consider_of_mode (h : (s.trunk t).mode ≠ .running) : s.consider t = s :=
  State.consider_idle fun e _ _ => State.not_grantable_of_mode h e

/-- The head of the queue is granted, and stands so whatever is granted after it. -/
theorem State.consider_granted {e : Entry} {l : List Entry} (hq : (s.trunk t).queue = e :: l) (hg : s.grantable t e = true) :
    ((s.consider t).door e.door).state = .acting ∧
    ⟨e.door, e.direction, e.cls, s.charge t e, .granted⟩ ∈ ((s.consider t).trunk t).inFlight := by
  have hloop : s.consider t = State.grantLoop l.length t (s.grant t e) := by
    rw [State.consider, hq, List.length_cons, State.grantLoop, hq]
    exact if_pos hg
  rw [hloop]
  refine ⟨State.acting_grantLoop _ ?_, State.mem_inFlight_grantLoop _ ?_⟩
  · rw [State.door_grant]
    split
    · rfl
    · next h => exact not_not.mp fun hn => h ⟨rfl, hn⟩
  · rw [State.inFlight_grant, if_pos rfl]
    exact List.mem_append_right _ (List.mem_singleton_self _)

end

/-! ### REST_END (R90) -/

/-- A trunk whose rest has run out. -/
def State.restOver (s : State) (u : Trunk) (n : Nat) : State :=
  (s.waitTrunk u n).updTrunk u (fun x => { x with restRemaining := none })

section
variable {s : State} {u : Trunk} {n : Nat}

theorem State.endRest_eq (h : (s.trunk u).restRemaining = some n) : s.endRest u = (s.restOver u n).consider u := by
  rw [State.endRest, h]
  rfl

theorem State.trunk_restOver (s : State) (u : Trunk) (n : Nat) :
    (s.restOver u n).trunk u = { (s.trunk u).wait n with restRemaining := none } := by
  rw [State.restOver, State.trunk_updTrunk, if_pos rfl, State.trunk_waitTrunk, if_pos rfl]

theorem State.charge_restOver (s : State) (u : Trunk) (n : Nat) (e : Entry) : (s.restOver u n).charge u e = s.charge u e := by
  obtain ⟨m, hm⟩ := s.door_waitTrunk u n e.door
  have hdoor : (s.restOver u n).door e.door = { s.door e.door with sinceFrame := m } := hm
  rw [State.charge, State.charge, hdoor, State.trunk_restOver]
  rfl

/-- After the rest, the head of a RUNNING trunk is granted when its charge is free (R89, R90). -/
theorem State.grantable_restOver (hm : (s.trunk u).mode = .running) (e : Entry) :
    (s.restOver u n).grantable u e = decide (s.charge u e ≤ (s.trunk u).freeUnits) := by
  have hmode : ((s.restOver u n).trunk u).mode = .running := by rw [State.trunk_restOver]; exact hm
  have hrest : ((s.restOver u n).trunk u).resting = false := by rw [State.trunk_restOver]; rfl
  have hfree : ((s.restOver u n).trunk u).freeUnits = (s.trunk u).freeUnits := by rw [State.trunk_restOver]; rfl
  rw [State.grantable, State.charge_restOver, hmode, hrest, hfree]
  simp

theorem State.work_consider (s : State) (u : Trunk) : Work s (s.consider u) := Moves.work (A := Touch.all) (.consider u)

end

end Sys2Proof.Machine



namespace Sys2Proof.Machine

/-! ### A drive that ends without its goal (R88, R94, R95) -/

section
variable {s p q t : State} {d : DoorNo} {st : DoorState}

/-- What follows a door's count reads the Sweep Table and the door's link alone. -/
theorem State.SweepFollows.congr (hs : p.slots = s.slots) (hl : (p.door d).sweep = (s.door d).sweep)
    (h : p.SweepFollows t d st) : s.SweepFollows t d st := by
  have hslot : ∀ k, p.slot k = s.slot k := fun k => congrArg (·[k.val]) hs
  obtain ⟨h1, h2⟩ := h
  have hboth : (p.countedAs d st).slots = (s.countedAs d st).slots ∧
      ((p.countedAs d st).door d).sweep = ((s.countedAs d st).door d).sweep := by
    unfold State.countedAs
    rw [hl]
    cases hls : (s.door d).sweep with
    | none => exact ⟨hs, hl⟩
    | some l =>
      dsimp only
      rw [hslot]
      cases s.slot l.slot with
      | none => exact ⟨hs, hl⟩
      | some w => exact ⟨congrArg (Vector.set · l.slot.val _) hs, by simp⟩
  exact ⟨h1.trans hboth.1, h2.trans hboth.2⟩

/-- A sweep with another pending door does not finish when this one's count has moved (R73). -/
theorem State.SweepGoesOn.finishOf (hg : s.SweepGoesOn d) (h : s.SweepFollows q d st) : q.finishOf d = q := by
  obtain ⟨hslots, hsweep⟩ := h
  unfold State.finishOf
  cases hl : (s.door d).sweep with
  | none =>
    rw [hsweep, State.countedAs_unlinked hl, hl]
  | some l =>
    obtain ⟨w, hw, hp⟩ := hg l hl
    obtain ⟨hlink, hslot⟩ := State.countedAs_linked hl hw st
    have hq : q.slot l.slot = some { w with counts := w.counts.move l.count (countTable w.direction l.count st) } :=
      (congrArg (·[l.slot.val]) hslots).trans hslot
    have hpos : 0 < (w.counts.move l.count (countTable w.direction l.count st)).pending := by
      have := Counts.get_move w.counts l.count (countTable w.direction l.count st) .pending
      simp only [Counts.get] at this
      rw [this]
      split at hp <;> grind
    have hfin : q.isFinished l.slot = false := by
      unfold State.isFinished
      rw [hq]
      simp only [Bool.and_eq_false_iff, beq_eq_false_iff_ne]
      exact .inr (Nat.ne_of_gt hpos)
    rw [hsweep, hlink]
    exact if_neg (by rw [hfin]; decide)

/-- A door's drive is over: its record is gone, and it stands in another state, its count having followed. -/
structure State.DriveLeft (s q : State) (d : DoorNo) (st : DoorState) : Prop where
  moves : Moves Touch.all s q
  state : (q.door d).state = st
  follows : s.SweepFollows q d st

/-- What the arbiter makes of a door whose drive is over. -/
structure State.DriveLeft.Considered (s q t : State) (d : DoorNo) (st : DoorState) : Prop where
  workAt : t.WorkAt d
  spared : q.Spared t d
  follows : s.SweepFollows t d st
  notices : t.noticeSet = q.noticeSet

theorem State.DriveLeft.considered (h : s.DriveLeft q d st) (hw : s.WorkAt d) (u : Trunk) :
    State.DriveLeft.Considered s q (q.consider u) d st := by
  have hm : Moves Touch.nothing q (q.consider u) := .consider u
  have hh : q.HandsTo (fun _ => False) (q.consider u) := .consider u
  obtain ⟨-, -, hsweep, -⟩ := hm.marks_outside (d := d) id
  exact ⟨hm.workAt (h.moves.workAt hw), hm.spared id (h.moves.workAt hw),
    ⟨(State.slots_congr fun j => hh.slots j id).trans h.follows.1, hsweep.trans h.follows.2⟩, hh.notices⟩

namespace State.DriveLeft.Considered

variable (h : State.DriveLeft.Considered s q t d st)
include h

/-- A door that does not wait stands where its drive left it. -/
theorem door_of_ne (hst : (q.door d).state ≠ .waiting) : t.door d = q.door d := by
  cases h.spared with
  | stands hd => exact hd
  | granted hs => exact absurd hs hst

/-- A door that stands without work has neither an entry nor a record. -/
theorem idle_of_plain (hq : (q.door d).state = st) (hst : st.plain = true) (u : Trunk) :
    (t.door d).state = st ∧ t.entriesOf u d = 0 ∧ t.recordsOf u d = 0 := by
  have hne : (q.door d).state ≠ .waiting := by
    rw [hq]
    rintro rfl
    cases hst
  have hstate : (t.door d).state = st := by rw [h.door_of_ne hne, hq]
  obtain ⟨he, hr⟩ := h.workAt.idle (hstate ▸ DoorState.busy_of_plain hst) u
  exact ⟨hstate, he, hr⟩

end State.DriveLeft.Considered

theorem State.attempts_changeState (s : State) (d : DoorNo) (st : DoorState) :
    ((s.changeState d st).door d).attempts = (s.door d).attempts := by
  obtain ⟨o, ho⟩ := State.door_changeState_self d s st
  rw [ho]
  split <;> rfl

/-- The record is dropped and the door's attempts are written: what the drive's end changes before the door's state. -/
def State.undriven (s : State) (d : DoorNo) (f : Door → Door) : State := (s.dropRecord d).updDoor d f

theorem State.door_undriven (s : State) (d : DoorNo) (f : Door → Door) : (s.undriven d f).door d = f (s.door d) := by
  rw [State.undriven, State.door_updDoor, if_pos rfl, State.door_dropRecord]

theorem State.queue_undriven (s : State) (d : DoorNo) (f : Door → Door) (u : Trunk) :
    ((s.undriven d f).trunk u).queue = (s.trunk u).queue := State.queue_dropRecord s d u

variable {f : Door → Door} (hf : ∀ x, (f x).core = x.core) (hsw : ∀ x, (f x).sweep = x.sweep)
  (ha : (s.door d).state = .acting)
include hf hsw ha

omit hsw in
theorem State.acting_undriven : ((s.undriven d f).door d).state = .acting := by
  have := congrArg Door.state (hf (s.door d))
  rw [State.door_undriven]
  exact Eq.trans this ha

/-- A change of state after the record is dropped is followed by the door's count. -/
theorem State.follows_undriven (hs : p.slots = s.slots) (hp : p.door d = (s.undriven d f).door d) (hst : st ≠ .acting) :
    s.SweepFollows (p.changeState d st) d st := by
  have hne : (p.door d).state ≠ st := by
    rw [hp, State.acting_undriven hf ha]
    exact hst.symm
  refine State.SweepFollows.congr hs ?_ (State.changeState_follows hne)
  rw [hp, State.door_undriven, hsw]

/-- The door takes a state without work. -/
theorem State.DriveLeft.stands (hst : st.plain = true) : s.DriveLeft ((s.undriven d f).changeState d st) d st :=
  ⟨.driveOver trivial hf (.inl ha) hst, State.state_changeState _ _ _,
    State.follows_undriven hf hsw ha rfl rfl (by rintro rfl; cases hst)⟩

/-- The door is re-stated (R6). -/
theorem State.DriveLeft.restated : s.DriveLeft ((s.undriven d f).restate d) d
    (restatedState ((s.undriven d f).door d).bolt ((s.undriven d f).door d).position) := by
  obtain ⟨hm, hstate, hfol⟩ := State.DriveLeft.stands hf hsw ha (restatedState_plain
    ((s.undriven d f).door d).bolt ((s.undriven d f).door d).position)
  refine ⟨hm.trans (.clearRestated trivial _ _ (restatedState_plain _ _)), ?_, hfol.1, ?_⟩
  · rw [State.restate, State.door_updDoor, if_pos rfl]
    exact hstate
  · rw [State.restate, State.door_updDoor, if_pos rfl]
    exact hfol.2

/-- The door's entry is back in the queue, and the door waits (R88). -/
def State.backInQueue (s : State) (d : DoorNo) (f : Door → Door) (dir : Direction) (c : QueueClass)
    (b : Option (List (DoorNo × QueueClass))) : State :=
  ((s.undriven d f).updTrunk (s.door d).trunk fun x => { x with queue := rejoined b ⟨d, dir, c⟩ x.queue }).changeState d
    .waiting

theorem State.DriveLeft.back {dir : Direction} (hb : dir = .lock → s.fireLockedOut d = false) (c : QueueClass)
    (b : Option (List (DoorNo × QueueClass))) : s.DriveLeft (s.backInQueue d f dir c b) d .waiting := by
  refine ⟨(Moves.one (.back trivial hf c b (.inl ha) hb)).trans (.follow trivial .waiting), State.state_changeState _ _ _,
    State.follows_undriven hf hsw ha rfl rfl (by decide)⟩

end

end Sys2Proof.Machine



namespace Sys2Proof.Machine

/-! ### A failed attempt and a return (R94, R95) -/

theorem State.placementBlocked_iff {s : State} {d : DoorNo} {dir : Direction} : s.placementBlocked d dir = true ↔
    dir = .lock ∧ (s.held d = true ∨ ((s.door d).fire = true ∧ s.fire ≠ .normal)) := by
  simp [State.placementBlocked, State.lockBlocked, State.fireLockedOut]

/-- Work that has kept the holds and the fire state blocks the same placements. -/
theorem Work.placementBlocked_eq {s s' : State} (h : Work s s') (d : DoorNo) (dir : Direction) :
    s'.placementBlocked d dir = s.placementBlocked d dir := by
  rw [Bool.eq_iff_iff, State.placementBlocked_iff, State.placementBlocked_iff, h.held_eq, h.doorFire_eq, h.fire_eq]

theorem urgentPart_eq (q : List Entry) : urgentPart q = q.filter fun x => decide (x.cls = .urgent) := rfl

theorem routinePart_eq (q : List Entry) : routinePart q = q.filter fun x => decide (x.cls = .routine) :=
  List.filter_congr fun x _ => by cases h : x.cls <;> simp [Entry.isUrgent, h]

/-- An entry that joins at the tail is the last of its class (R86). -/
theorem filter_joinTail (e : Entry) (q : List Entry) : (joinTail e q).filter (fun x => decide (x.cls = e.cls)) =
    q.filter (fun x => decide (x.cls = e.cls)) ++ [e] := by
  have hnone : ∀ c c' : QueueClass, c ≠ c' → (q.filter fun x => decide (x.cls = c')).filter (fun x => decide (x.cls = c)) = [] :=
    fun c c' hc => List.filter_eq_nil_iff.mpr fun x hx h =>
      hc ((of_decide_eq_true h).symm.trans (of_decide_eq_true (List.mem_filter.mp hx).2))
  have hself : ∀ c : QueueClass, (q.filter fun x => decide (x.cls = c)).filter (fun x => decide (x.cls = c)) =
      q.filter fun x => decide (x.cls = c) := fun c => by simp [List.filter_filter]
  unfold joinTail
  rw [urgentPart_eq, routinePart_eq]
  cases hc : e.cls with
  | urgent =>
    rw [if_pos (by rw [Entry.isUrgent, hc]; rfl), List.filter_append, hself, List.filter_cons_of_pos (by simp [hc]),
      hnone _ _ (by decide)]
  | routine =>
    rw [if_neg (by rw [Entry.isUrgent, hc]; decide), List.filter_append, hnone _ _ (by decide), List.filter_append, hself,
      List.filter_cons_of_pos (by simp [hc]), List.nil_append, List.filter_nil]

/-- An entry that joins at the head of its class, with none returned before it (R95). -/
theorem joinHead_nil (e : Entry) (q : List Entry) : joinHead [] e q =
    if e.isUrgent then e :: (urgentPart q ++ routinePart q) else urgentPart q ++ e :: routinePart q := by
  have hafter : ∀ l, joinAfter [] e l = e :: l := fun l => by
    have hno : Entry.isAmong [] = fun _ => false := rfl
    cases l <;> simp [joinAfter, hno]
  rw [joinHead, hafter, hafter, List.cons_append]

/-- What is left of a queue keeps its last entry of a class while that entry is there. -/
theorem getLast?_filter_of_suffix {l l' : List Entry} {p : Entry → Bool} {e : Entry} (h : l' <:+ l) (he : e ∈ l')
    (hlast : (l.filter p).getLast? = some e) : (l'.filter p).getLast? = some e := by
  obtain ⟨m, rfl⟩ := h
  have hp : p e = true := (List.mem_filter.mp (List.mem_of_getLast? hlast)).2
  have hne : l'.filter p ≠ [] := List.ne_nil_of_mem (List.mem_filter.mpr ⟨he, hp⟩)
  rwa [List.filter_append, List.getLast?_append_of_ne_nil _ hne] at hlast

theorem mem_of_entryOf {d : DoorNo} {q : List Entry} {e : Entry} (h : entryOf d q = some e) : e ∈ q :=
  List.mem_of_find?_eq_some h

section
variable {s : State} {d : DoorNo} {f : Door → Door} {dir : Direction} {c : QueueClass}
  {b : Option (List (DoorNo × QueueClass))}

theorem State.queue_backInQueue : ((s.backInQueue d f dir c b).trunk (s.door d).trunk).queue =
    rejoined b ⟨d, dir, c⟩ (s.trunk (s.door d).trunk).queue := by
  rw [State.backInQueue, State.trunk_changeState, State.trunk_updTrunk, if_pos rfl, State.queue_undriven]

theorem State.noticeSet_changeState (s : State) (d : DoorNo) (st : DoorState) :
    (s.changeState d st).noticeSet = s.noticeSet :=
  (State.HandsTo.changeState (K := fun _ => True) (s := s) (d := d) (fun _ _ => trivial) st).notices

theorem State.attempts_restate (s : State) (d : DoorNo) : ((s.restate d).door d).attempts = (s.door d).attempts := by
  rw [State.restate, State.door_updDoor, if_pos rfl]
  exact State.attempts_changeState s d _

theorem State.noticeSet_restate (s : State) (d : DoorNo) : (s.restate d).noticeSet = s.noticeSet :=
  State.noticeSet_changeState s d _

theorem State.attempts_backInQueue : ((s.backInQueue d f dir c b).door d).attempts = (f (s.door d)).attempts := by
  rw [State.backInQueue, State.attempts_changeState, State.door_updTrunk, State.door_undriven]

theorem State.noticeSet_backInQueue : (s.backInQueue d f dir c b).noticeSet = s.noticeSet :=
  State.noticeSet_changeState _ d _

/-- The entry that has rejoined is the door's. -/
theorem State.entry_backInQueue (hw : s.WorkAt d) (ha : (s.door d).state = .acting)
    (ht : ((s.backInQueue d f dir c b).door d).trunk = (s.door d).trunk) :
    (s.backInQueue d f dir c b).entry d = some ⟨d, dir, c⟩ := by
  have hz : entriesIn d (s.trunk (s.door d).trunk).queue = 0 := (hw.acting ha _).1
  rw [State.entry, ht, State.queue_backInQueue]
  refine (entryOf_perm (rejoined_perm b ⟨d, dir, c⟩ _) ?_).trans (entryOf_cons_self rfl _)
  rw [entriesIn_cons, if_pos rfl, hz]

end

section
variable {s : State} {r : Record} {q : State} {st : DoorState}

/-- The end of a drive toward the door's intent whose sweep goes on (R27, R73). -/
theorem State.endDrive_left {e : DriveEnd} (hi : r.direction.intent = (s.door r.door).intent) (hg : s.SweepGoesOn r.door)
    (hq : State.takeOutcome r e (s.dropRecord r.door) = q) (h : s.DriveLeft q r.door st) :
    s.endDrive r e = q.consider (s.door r.door).trunk := by
  unfold State.endDrive
  dsimp only
  rw [if_pos (show r.direction.intent = ((s.dropRecord r.door).door r.door).intent from hi), hq, hg.finishOf h.follows]
  exact congrArg (q.consider ·) (h.moves.work.doorTrunk_eq r.door)

/-- One attempt more is counted (R94). -/
def Door.oneMore (x : Door) : Door := { x with attempts := x.attempts + 1 }

theorem State.takeOutcome_failed : State.takeOutcome r .failed (s.dropRecord r.door) =
    if (s.door r.door).attempts + 1 ≤ (s.lockClass (s.door r.door).cls).retries then
      State.rejoin r none (s.undriven r.door Door.oneMore) else State.jam r (s.undriven r.door Door.oneMore) := by
  have hdoor := s.door_undriven r.door Door.oneMore
  show (if ((s.undriven r.door Door.oneMore).door r.door).attempts ≤
    ((s.undriven r.door Door.oneMore).lockClass ((s.undriven r.door Door.oneMore).door r.door).cls).retries then _ else _) = _
  rw [hdoor]
  rfl

theorem State.rejoin_blocked {p : State} {b : Option (List (DoorNo × QueueClass))}
    (h : p.placementBlocked r.door r.direction = true) : p.rejoin r b = p.restate r.door := if_pos h

theorem State.rejoin_undriven {f : Door → Door} (hd : (f (s.door r.door)).trunk = (s.door r.door).trunk)
    {b : Option (List (DoorNo × QueueClass))} (h : (s.undriven r.door f).placementBlocked r.door r.direction = false) :
    (s.undriven r.door f).rejoin r b = s.backInQueue r.door f r.direction r.cls b := by
  have ht : ((s.undriven r.door f).door r.door).trunk = (s.door r.door).trunk := by rw [State.door_undriven, hd]
  unfold State.rejoin
  rw [if_neg (by rw [h]; decide), ht]
  cases b <;> rfl

variable {f : Door → Door} (hf : ∀ x, (f x).core = x.core)
include hf

theorem State.work_undriven (s : State) (d : DoorNo) : Work s (s.undriven d f) :=
  (Work.dropRecord d).trans (.updDoor d (Door.fixed_of_core hf))

end

section
variable {s : State} {r : Record}

/-- A door whose entry has rejoined at the tail of its class waits there, or has been granted (R88, R94). -/
theorem State.DriveLeft.Considered.rejoined {f : Door → Door} (hf : ∀ x, (f x).core = x.core) {t : State} {d : DoorNo}
    {dir : Direction} {c : QueueClass} {b : Option (List (DoorNo × QueueClass))} {st : DoorState}
    (h : State.DriveLeft.Considered s (s.backInQueue d f dir c b) t d st) (hw : s.WorkAt d)
    (ha : (s.door d).state = .acting) : t.hasWork d dir c ∧
      ((t.door d).state = .waiting → t.entry d = some ⟨d, dir, c⟩) := by
  have ht : ((s.backInQueue d f dir c b).door d).trunk = (s.door d).trunk := by
    obtain ⟨o, ho⟩ := State.door_changeState_self d ((s.undriven d f).updTrunk (s.door d).trunk fun x =>
      { x with queue := Machine.rejoined b ⟨d, dir, c⟩ x.queue }) .waiting
    have htrunk := congrArg Door.trunk (hf (s.door d))
    have hdoor := s.door_undriven d f
    rw [State.backInQueue, ho, State.door_updTrunk, hdoor]
    split <;> exact htrunk
  have he := State.entry_backInQueue (f := f) (dir := dir) (c := c) (b := b) hw ha ht
  refine ⟨h.spared.butLink.hasWork (State.state_changeState _ _ _) he, fun hs => ?_⟩
  cases h.spared with
  | stands hd he' => rw [he', he]
  | granted _ _ hd =>
    rw [hd] at hs
    cases hs

/-- A drive toward the door's intent has ended as a failed attempt, and the sweep of the door goes on (R94). -/
theorem State.attemptFailed_endDrive (hw : s.WorkAt r.door) (ha : (s.door r.door).state = .acting)
    (hg : s.SweepGoesOn r.door) (hi : r.direction.intent = (s.door r.door).intent) :
    s.AttemptFailed (s.endDrive r .failed) r (s.door r.door).position (s.door r.door).bolt := by
  have hcore : ∀ x, (Door.oneMore x).core = x.core := fun _ => rfl
  have hsw : ∀ x, (Door.oneMore x).sweep = x.sweep := fun _ => rfl
  have hdoor := s.door_undriven r.door Door.oneMore
  have hout := State.takeOutcome_failed (s := s) (r := r)
  have hblock := (State.work_undriven hcore s r.door).placementBlocked_eq r.door r.direction
  have hiff := State.placementBlocked_iff (s := s) (d := r.door) (dir := r.direction)
  unfold State.AttemptFailed
  dsimp only
  by_cases hn : (s.door r.door).attempts + 1 ≤ (s.lockClass (s.door r.door).cls).retries
  · rw [if_pos hn] at hout
    rw [if_neg (Nat.not_lt.mpr hn)]
    cases hb : s.placementBlocked r.door r.direction with
    | true =>
      rw [if_pos (hiff.mp hb)]
      rw [State.rejoin_blocked (hblock.trans hb)] at hout
      have hleft := State.DriveLeft.restated hcore hsw ha
      rw [State.endDrive_left hi hg hout hleft]
      have hcons := hleft.considered hw (s.door r.door).trunk
      have hstate := hleft.state
      rw [hdoor] at hcons hstate
      obtain ⟨hst, he, hr⟩ := hcons.idle_of_plain hstate (restatedState_plain _ _) (s.door r.door).trunk
      exact ⟨hcons.spared.butLink.attempts.trans ((State.attempts_restate _ _).trans (congrArg Door.attempts hdoor)),
        hcons.notices.trans (State.noticeSet_restate _ _), hst, he, hr, hcons.follows⟩
    | false =>
      rw [if_neg fun h => by rw [hiff.mpr h] at hb; cases hb]
      rw [State.rejoin_undriven rfl (hblock.trans hb)] at hout
      have hleft := State.DriveLeft.back hcore hsw ha (State.fireLockedOut_of_unblocked hb) r.cls none
      rw [State.endDrive_left hi hg hout hleft]
      have hcons := hleft.considered hw (s.door r.door).trunk
      obtain ⟨hwork, hwait⟩ := hcons.rejoined hcore hw ha
      refine ⟨hcons.spared.butLink.attempts.trans State.attempts_backInQueue,
        hcons.notices.trans State.noticeSet_backInQueue, hwork, hcons.follows, fun hs => ?_⟩
      have ht := (hleft.moves.work.trans (State.work_consider _ (s.door r.door).trunk)).doorTrunk_eq r.door
      have hmem := mem_of_entryOf (hwait hs)
      rw [ht] at hmem
      refine getLast?_filter_of_suffix (State.queue_grantLoop_suffix _) hmem ?_
      rw [State.queue_backInQueue]
      exact (congrArg List.getLast? (filter_joinTail ⟨r.door, r.direction, r.cls⟩ _)).trans List.getLast?_concat
  · rw [if_neg hn] at hout
    rw [if_pos (Nat.lt_of_not_le hn)]
    have hstands := State.DriveLeft.stands hcore hsw ha (st := .jammed) rfl
    have hleft : s.DriveLeft (State.jam r (s.undriven r.door Door.oneMore)) r.door .jammed :=
      ⟨hstands.moves.trans (.raise _ _ _), hstands.state, hstands.follows⟩
    rw [State.endDrive_left hi hg hout hleft]
    have hcons := hleft.considered hw (s.door r.door).trunk
    obtain ⟨hst, he, hr⟩ := hcons.idle_of_plain hleft.state rfl (s.door r.door).trunk
    have hatt : (((s.undriven r.door Door.oneMore).changeState r.door .jammed).door r.door).attempts =
        (s.door r.door).attempts + 1 := (State.attempts_changeState _ _ _).trans (congrArg Door.attempts hdoor)
    refine ⟨hcons.spared.butLink.attempts.trans hatt, hst, he, hr, hcons.follows, hcons.notices.trans ?_⟩
    have hwork := hstands.moves.work
    have hnotices := (State.noticeSet_changeState (s.undriven r.door Door.oneMore) r.door .jammed)
    show NoticeSet.raise _ _ _ _ _ = _
    rw [hnotices, hwork.clock_eq, hstands.state, hatt, hwork.position_eq, hwork.bolt_eq]
    rfl

/-- A drive toward the door's intent on a DOWN trunk has ended as a return, and the sweep of the door goes on (R95). -/
theorem State.returned_endDrive (hw : s.WorkAt r.door) (ha : (s.door r.door).state = .acting)
    (hg : s.SweepGoesOn r.door) (hi : r.direction.intent = (s.door r.door).intent)
    (hdown : (s.trunk (s.door r.door).trunk).mode = .down) : s.Returned (s.endDrive r (.returned [])) r := by
  have hcore : ∀ x, (id x : Door).core = x.core := fun _ => rfl
  have hsw : ∀ x, (id x : Door).sweep = x.sweep := fun _ => rfl
  have hid : s.dropRecord r.door = s.undriven r.door id := (State.updDoor_self rfl).symm
  have hdoor := s.door_undriven r.door id
  have hblock := (State.work_undriven hcore s r.door).placementBlocked_eq r.door r.direction
  have hiff := State.placementBlocked_iff (s := s) (d := r.door) (dir := r.direction)
  have hidle : ∀ q : State, Work s q → q.consider (s.door r.door).trunk = q := fun q hq =>
    State.consider_of_mode (by rw [hq.mode_eq, hdown]; decide)
  have hout : State.takeOutcome r (.returned []) (s.dropRecord r.door) =
      State.rejoin r (some []) (s.undriven r.door id) := by rw [← hid]; rfl
  unfold State.Returned
  dsimp only
  cases hb : s.placementBlocked r.door r.direction with
  | true =>
    rw [if_pos (hiff.mp hb)]
    rw [State.rejoin_blocked (hblock.trans hb)] at hout
    have hleft := State.DriveLeft.restated hcore hsw ha
    have hcons := hleft.considered hw (s.door r.door).trunk
    have hstate := hleft.state
    rw [State.endDrive_left hi hg hout hleft]
    rw [hidle _ hleft.moves.work] at hcons ⊢
    rw [hdoor] at hcons hstate
    obtain ⟨hst, -, hr⟩ := hcons.idle_of_plain hstate (restatedState_plain _ _) (s.door r.door).trunk
    refine ⟨(State.attempts_restate _ _).trans (congrArg Door.attempts hdoor), hr, State.noticeSet_restate _ _, hst, ?_,
      hcons.follows⟩
    rw [State.restate, State.trunk_updDoor, State.trunk_changeState, State.queue_undriven]
  | false =>
    rw [if_neg fun h => by rw [hiff.mpr h] at hb; cases hb]
    rw [State.rejoin_undriven rfl (hblock.trans hb)] at hout
    have hleft := State.DriveLeft.back hcore hsw ha (State.fireLockedOut_of_unblocked hb) r.cls (some [])
    have hcons := hleft.considered hw (s.door r.door).trunk
    rw [State.endDrive_left hi hg hout hleft]
    rw [hidle _ hleft.moves.work] at hcons ⊢
    refine ⟨State.attempts_backInQueue, (hcons.workAt.waiting hleft.state _).2, State.noticeSet_backInQueue, hleft.state,
      hcons.follows, ?_⟩
    rw [State.queue_backInQueue]
    show joinHead [] _ _ = _
    rw [joinHead_nil, urgentPart_eq, routinePart_eq]
    cases hc : r.cls <;> rfl

end

/-! ### DRIVE_TIMEOUT (R92) -/

section
variable {s t : State} {u : Trunk} {n : Nat} {r : Record}

theorem State.sweepFollows_waitTrunk {d : DoorNo} {st : DoorState} :
    (s.waitTrunk u n).SweepFollows t d st ↔ s.SweepFollows t d st := by
  obtain ⟨m, hm⟩ := s.door_waitTrunk u n d
  have hl : ((s.waitTrunk u n).door d).sweep = (s.door d).sweep := by rw [hm]
  exact ⟨fun h => h.congr (s := s) (p := s.waitTrunk u n) rfl hl,
    fun h => h.congr (s := s.waitTrunk u n) (p := s) rfl hl.symm⟩

theorem State.held_waitTrunk (s : State) (u : Trunk) (n : Nat) (d : DoorNo) : (s.waitTrunk u n).held d = s.held d := by
  obtain ⟨m, hm⟩ := s.door_waitTrunk u n d
  unfold State.held
  rw [hm]
  rfl

/-- A failed attempt after milliseconds is one of the state before them. -/
theorem State.AttemptFailed.of_waitTrunk {pos : Position} {bolt : Bolt}
    (h : (s.waitTrunk u n).AttemptFailed t r pos bolt) : s.AttemptFailed t r pos bolt := by
  obtain ⟨m, hm⟩ := s.door_waitTrunk u n r.door
  have hclass : ∀ c, (s.waitTrunk u n).lockClass c = s.lockClass c := fun _ => rfl
  have hnotices : (s.waitTrunk u n).noticeSet = s.noticeSet := rfl
  have hfire : (s.waitTrunk u n).fire = s.fire := rfl
  simpa only [State.AttemptFailed, hm, hclass, hnotices, hfire, State.held_waitTrunk, State.stamp_waitTrunk,
    State.sweepFollows_waitTrunk] using h

/-- A return after milliseconds is one of the state before them. -/
theorem State.Returned.of_waitTrunk (h : (s.waitTrunk u n).Returned t r) : s.Returned t r := by
  obtain ⟨m, hm⟩ := s.door_waitTrunk u n r.door
  have hnotices : (s.waitTrunk u n).noticeSet = s.noticeSet := rfl
  have hfire : (s.waitTrunk u n).fire = s.fire := rfl
  simpa only [State.Returned, hm, hnotices, hfire, State.held_waitTrunk, State.queue_waitTrunk,
    State.sweepFollows_waitTrunk] using h

theorem State.timeOut_eq {d : DoorNo} (hr : s.record d = some r) (hp : r.phase = .driving n) :
    s.timeOut d = State.driveFailed r (s.waitTrunk (s.door d).trunk n) := by
  rw [State.timeOut, hr]
  show (match r.phase with | .granted => _ | .driving n => _) = _
  rw [hp]

theorem State.timeOut_idle {d : DoorNo} (h : ∀ r, s.record d = some r → r.phase = .granted) : s.timeOut d = s := by
  unfold State.timeOut
  split
  · rfl
  · next r hr =>
    rw [h r hr]

/-- A drive whose limit has run out has failed, or has been returned on a DOWN trunk (R92, R94, R95). -/
theorem State.driveFailed_waited (hw : s.WorkAt r.door) (ha : (s.door r.door).state = .acting)
    (ht : (s.door r.door).trunk = u) (hg : s.SweepGoesOn r.door) (hi : r.direction.intent = (s.door r.door).intent) :
    if (s.trunk u).mode = .down then s.Returned (State.driveFailed r (s.waitTrunk u n)) r
    else s.AttemptFailed (State.driveFailed r (s.waitTrunk u n)) r (s.door r.door).position (s.door r.door).bolt := by
  obtain ⟨m, hm⟩ := s.door_waitTrunk u n r.door
  have hmode : ((s.waitTrunk u n).trunk ((s.waitTrunk u n).door r.door).trunk).mode = (s.trunk u).mode := by
    rw [hm, State.mode_waitTrunk, ← ht]
  have hw := hw.waitTrunk u n
  have ha : ((s.waitTrunk u n).door r.door).state = .acting := by rw [hm]; exact ha
  have hi : r.direction.intent = ((s.waitTrunk u n).door r.door).intent := by rw [hm]; exact hi
  have hg : (s.waitTrunk u n).SweepGoesOn r.door := fun l hl => by
    rw [hm] at hl
    exact hg l hl
  unfold State.driveFailed
  rw [hmode]
  split
  · next hd => exact (State.returned_endDrive hw ha hg hi (hmode.trans hd)).of_waitTrunk
  · have := (State.attemptFailed_endDrive hw ha hg hi).of_waitTrunk
    rwa [hm] at this

theorem State.record_spec {d : DoorNo} (h : s.record d = some r) : r.door = d := by
  have := List.find?_some (p := fun r : Record => r.door == d) h
  exact eq_of_beq this

end

/-- Settles O50: after its rest a trunk is RUNNING with its units, so that its head is granted when its charge is free; a
drive whose limit has run out takes the end of R94 or R95, and a sweep with another pending door does not finish. -/
theorem restEndAndDriveTimeout : Obligations.RestEndAndDriveTimeout := by
  intro s u d
  refine ⟨fun h => ?_, fun n hn => ⟨fun hidle => ?_, fun e l hq hm => ?_⟩, fun h => ?_, fun r hr n hp hw ht hg hi => ?_⟩
  · show Host.Outcome.next (s.endRest u) = _
    rw [State.endRest, h]
  · show Host.Outcome.next (s.endRest u) = _
    rw [State.endRest_eq hn]
    refine congrArg _ (State.consider_idle fun e l hq => ?_)
    rcases hidle with hempty | hm
    · rw [State.trunk_restOver] at hq
      cases hempty.symm.trans hq
    · exact State.not_grantable_of_mode (by rw [State.trunk_restOver]; exact hm) e
  · have hq' : ((s.restOver u n).trunk u).queue = e :: l := by rw [State.trunk_restOver]; exact hq
    have hwork := State.work_consider (s.restOver u n) u
    refine ⟨_, congrArg Host.Outcome.next (State.endRest_eq hn), ?_, ?_,
      (State.HandsTo.consider (K := fun _ => False) (s := s.restOver u n) u).notices, ?_⟩
    · rw [hwork.supply, State.trunk_restOver]
      exact (TrunkState.wait_supply n (s.trunk u) :)
    · exact (s.sameAround_waitTrunk u n).trans hwork.sameAround
    · split
      · next hc =>
        have := State.consider_granted hq' ((State.grantable_restOver hm e).trans (decide_eq_true hc))
        rwa [State.charge_restOver] at this
      · next hc =>
        refine State.consider_idle fun e' l' he => ?_
        cases hq'.symm.trans he
        exact (State.grantable_restOver hm e).trans (decide_eq_false hc)
  · show Host.Outcome.next (s.timeOut d) = _
    rw [State.timeOut_idle h]
  · have hd := State.record_spec hr
    subst hd ht
    have hat : s.WorkAt r.door := hw r.door
    have ha : (s.door r.door).state = .acting := hat.acting_of_record (.inr (by rw [hr]; exact nofun))
    have hwork : Work (s.waitTrunk (s.door r.door).trunk n)
        (State.driveFailed r (s.waitTrunk (s.door r.door).trunk n)) := by
      unfold State.driveFailed
      split <;> exact Work.endDrive _ _
    refine ⟨_, congrArg Host.Outcome.next (State.timeOut_eq hr hp), (hwork.supply _).trans (s.supply_waitTrunk _ n _),
      (s.sameAround_waitTrunk _ n).trans hwork.sameAround, ?_⟩
    exact State.driveFailed_waited hat ha rfl hg hi

end Sys2Proof.Machine



namespace Sys2Proof.Machine

/-! ### A giving neither reads nor writes the answer of a request -/

/-- Another block result. -/
def State.withResult (a : Option Answer) (s : State) : State := { s with blockResult := a }

/-- An operation that neither reads nor writes the block result. -/
def Unanswering (f : State → State) : Prop := ∀ (a : Option Answer) (s : State), f (s.withResult a) = (f s).withResult a

namespace Unanswering

theorem comp {f g : State → State} (hg : Unanswering g) (hf : Unanswering f) : Unanswering fun s => g (f s) := fun a s => by
  show g (f (s.withResult a)) = _
  rw [hf, hg]

theorem id : Unanswering fun s => s := fun _ _ => rfl

theorem ite {c : State → Prop} [∀ s, Decidable (c s)] {f g : State → State} (hc : ∀ a s, c (s.withResult a) ↔ c s)
    (hf : Unanswering f) (hg : Unanswering g) : Unanswering fun s => if c s then f s else g s := fun a s => by
  show (if c (s.withResult a) then f (s.withResult a) else g (s.withResult a)) = State.withResult a (if c s then f s else g s)
  rw [apply_ite (State.withResult a), hf, hg]
  exact if_congr (hc a s) rfl rfl

/-- An operation chosen by what is read of the state. -/
theorem pick {β : Type} (v : State → β) {f : β → State → State} (hv : ∀ a s, v (s.withResult a) = v s)
    (hf : ∀ b, Unanswering (f b)) : Unanswering fun s => f (v s) s := fun a s => by
  show f (v (s.withResult a)) (s.withResult a) = _
  rw [hv, hf]

theorem forEach {α : Type} {f : α → State → State} (l : List α) (hf : ∀ a, Unanswering (f a)) :
    Unanswering (Machine.forEach l f) := by
  induction l with
  | nil => exact id
  | cons a l ih => exact comp (g := Machine.forEach l f) (f := f a) ih (hf a)

/-- By the cases of what is read of the state: in each the operation is one that does not answer. -/
theorem cases {β : Type} {f : State → State} (v : State → β) (hv : ∀ a s, v (s.withResult a) = v s)
    (h : ∀ b, ∃ g, Unanswering g ∧ ∀ s, v s = b → f s = g s) : Unanswering f := fun a s => by
  obtain ⟨g, hg, heq⟩ := h (v s)
  rw [heq _ (hv a s), heq s rfl, hg]

/-! The writes. -/

theorem updDoor (d : DoorNo) (f : Door → Door) : Unanswering fun s => s.updDoor d f := fun _ _ => rfl

theorem updZone (z : ZoneNo) (f : Zone → Zone) : Unanswering fun s => s.updZone z f := fun _ _ => rfl

theorem updSlot (k : SlotNo) (f : Sweep → Sweep) : Unanswering fun s => s.updSlot k f := fun _ _ => rfl

theorem setSlot (k : SlotNo) (w : Option Sweep) : Unanswering fun s => s.setSlot k w := fun _ _ => rfl

theorem updTrunk (u : Trunk) (f : TrunkState → TrunkState) : Unanswering fun s => s.updTrunk u f := fun _ _ => rfl

theorem raise (k : NoticeKind) (u : Subject) (v : Detail) : Unanswering (State.raise k u v) := fun _ _ => rfl

theorem rederive (z : ZoneNo) : Unanswering (State.rederive z) := fun _ _ => rfl

theorem unlinkAll (k : SlotNo) : Unanswering (State.unlinkAll k) := fun _ _ => rfl

theorem leaveDoors (k : SlotNo) : Unanswering (State.leaveDoors k) := fun _ _ => rfl

theorem moveCount (d : DoorNo) (new : Count) : Unanswering (State.moveCount d new) :=
  cases (fun s => (s.door d).sweep) (fun _ _ => rfl) fun
    | none => ⟨_, id, fun s h => by unfold State.moveCount; rw [h]⟩
    | some l => ⟨_, (updDoor d _).comp (updSlot l.slot _), fun s h => by unfold State.moveCount; rw [h]⟩

theorem handOffCount (d : DoorNo) (f : Direction → Count → Option Count) : Unanswering (State.handOffCount d f) :=
  cases (fun s => s.linkedSweep d) (fun _ _ => rfl) fun
    | none => ⟨_, id, fun s h => by unfold State.handOffCount; rw [h]⟩
    | some (l, w) => by
      cases hf : f w.direction l.count with
      | none => exact ⟨_, id, fun s h => by unfold State.handOffCount; simp only [h, hf]⟩
      | some new => exact ⟨_, moveCount d new, fun s h => by unfold State.handOffCount; simp only [h, hf]⟩

/-! The drives. -/

theorem changeState (d : DoorNo) (st : DoorState) : Unanswering (State.changeState d st) :=
  ite (fun _ _ => Iff.rfl) id <| pick (fun s => (s.door d).zone) (fun _ _ => rfl) fun z =>
    (rederive z).comp ((handOffCount d _).comp (updDoor d _))

theorem grant (u : Trunk) (e : Entry) : Unanswering (State.grant u e) :=
  cases (fun s => s.charge u e) (fun _ _ => rfl) fun n =>
    ⟨_, (updTrunk u _).comp ((changeState e.door .acting).comp (updTrunk u (TrunkState.toFlight e n))), fun s h => by
      unfold State.grant; rw [h]⟩

theorem grantLoop (n : Nat) (u : Trunk) : Unanswering (State.grantLoop n u) := by
  induction n with
  | zero => exact id
  | succ n ih =>
    refine cases (fun s => (s.trunk u).queue) (fun _ _ => rfl) fun
      | [] => ⟨_, id, fun s h => by unfold State.grantLoop; rw [h]⟩
      | e :: _ => ⟨_, ite (c := fun s => s.grantable u e = true) (fun _ _ => Iff.rfl) (ih.comp (grant u e)) id, fun s h => by
          rw [State.grantLoop, h]⟩

theorem consider (u : Trunk) : Unanswering (State.consider u) :=
  pick (fun s => (s.trunk u).queue.length) (fun _ _ => rfl) fun n => grantLoop n u

theorem considerUnless (walking : Bool) (u : Trunk) : Unanswering (State.considerUnless walking u) :=
  ite (c := fun _ => walking = true) (fun _ _ => Iff.rfl) id (consider u)

theorem addEntry (d : DoorNo) (dir : Direction) (cls : QueueClass) : Unanswering (State.addEntry d dir cls) :=
  (changeState d .waiting).comp ((updDoor d _).comp fun _ _ => rfl)

theorem raiseRecord (d : DoorNo) (dir : Direction) (cls : QueueClass) : Unanswering (State.raiseRecord d dir cls) :=
  fun _ _ => rfl

theorem place (walking : Bool) (d : DoorNo) (dir : Direction) (cls : QueueClass) :
    Unanswering (State.place walking d dir cls) := by
  have hadd : Unanswering fun s => (s.addEntry d dir cls).considerUnless walking (s.door d).trunk :=
    pick (fun s => (s.door d).trunk) (fun _ _ => rfl) fun u => (considerUnless walking u).comp (addEntry d dir cls)
  have hreplace : Unanswering fun s => (s.replacePlacement d dir cls).considerUnless walking (s.door d).trunk :=
    pick (fun s => (s.door d).trunk) (fun _ _ => rfl) fun u => (considerUnless walking u).comp fun _ _ => rfl
  refine ite (c := fun s => s.placementBlocked d dir = true) (fun _ _ => Iff.rfl) id ?_
  refine cases (fun s => (s.door d).state) (fun _ _ => rfl) fun st => ?_
  cases st with
  | waiting => exact ⟨_, hreplace, fun s h => by rw [h]⟩
  | acting => exact ⟨_, raiseRecord d dir cls, fun s h => by rw [h]⟩
  | _ => exact ⟨_, hadd, fun s h => by rw [h]⟩

/-! The sweeps. -/

theorem restate (d : DoorNo) : Unanswering (State.restate d) :=
  (updDoor d _).comp <| pick (fun s => restatedState (s.door d).bolt (s.door d).position) (fun _ _ => rfl) (changeState d)

theorem withdrawEntry (d : DoorNo) : Unanswering (State.withdrawEntry d) :=
  (pick (fun s => (s.door d).trunk) (fun _ _ => rfl) consider).comp
    ((updDoor d _).comp ((restate d).comp fun _ _ => rfl))

theorem cancelDoor (e : DoorNo × Count) : Unanswering (State.cancelDoor e) := by
  refine ite (c := fun s => (s.door e.1).keepOpen = true ∨ e.2 = .held) (fun _ _ => Iff.rfl) id ?_
  refine cases (fun s => (s.door e.1).state) (fun _ _ => rfl) fun st => ?_
  cases st with
  | waiting => exact ⟨_, withdrawEntry e.1, fun s h => by rw [h]⟩
  | ajar => exact ⟨_, (updDoor e.1 _).comp (changeState e.1 .released), fun s h => by rw [h]⟩
  | _ => exact ⟨_, updDoor e.1 _, fun s h => by rw [h]⟩

theorem sweepIntent (dir : Direction) (d : DoorNo) : Unanswering (State.sweepIntent dir d) :=
  match dir with
  | .lock => ite (c := fun s => s.held d = true) (fun _ _ => Iff.rfl) id (updDoor d Door.wantLock)
  | .release => fun _ _ => rfl

theorem sweepAct (walking : Bool) (dir : Direction) (d : DoorNo) (act : SweepAction) :
    Unanswering (State.sweepAct walking dir d act) := by
  cases act with
  | leave => exact id
  | place cls => exact place walking d dir cls
  | becomeReleased => exact changeState d .released

theorem linkDoor (k : SlotNo) (d : DoorNo) (c : Count) : Unanswering (State.linkDoor k d c) := fun _ _ => rfl

theorem classified (dir : Direction) (d : DoorNo) (a : Option Answer) (s : State) :
    (s.withResult a).classify dir d = s.classify dir d := by
  cases dir <;> rfl

theorem walkDoor (k : SlotNo) (dir : Direction) (d : DoorNo) : Unanswering (State.walkDoor k dir d) :=
  (pick (fun s => s.classify dir d) (classified dir d)
    (f := fun c s => (s.linkDoor k d c.1).sweepAct true dir d c.2)
    fun c => (sweepAct true dir d c.2).comp (linkDoor k d c.1)).comp (sweepIntent dir d)

theorem considerAll : Unanswering State.considerAll := forEach allTrunks consider

theorem enterActive (k : SlotNo) : Unanswering (State.enterActive k) :=
  cases (fun s => (s.slot k, fun z => s.zoneWalk z)) (fun _ _ => rfl) fun
    | (none, _) => ⟨_, id, fun s h => by
        obtain ⟨hk, -⟩ := Prod.mk.inj h
        unfold State.enterActive
        rw [hk]⟩
    | (some w, walk) => ⟨_, considerAll.comp ((rederive w.zone).comp
        ((updSlot k fun v => { v with total := (walk w.zone).length }).comp ((forEach (walk w.zone) (walkDoor k w.direction)).comp
          (setSlot k (some { w with phase := .active, total := 0, counts := Counts.zero }))))), fun s h => by
        obtain ⟨hk, rfl⟩ := Prod.mk.inj h
        unfold State.enterActive
        rw [hk]⟩

theorem placeWarns (z : ZoneNo) (minutes : Nat) : Unanswering (State.placeWarns z minutes) :=
  pick (fun s => s.chimeDoors z) (fun _ _ => rfl) fun l => forEach l fun _ _ _ => rfl

theorem startIn (k : SlotNo) (z : ZoneNo) (dir : Direction) (o : Origin) : Unanswering (State.startIn k z dir o) := by
  have hwarned : Unanswering fun s => ((s.setSlot k (some ⟨z, dir, o, .warning (.start (s.zone z).lead), 0, Counts.zero⟩)).placeWarns z
      (s.zone z).lead).rederive z :=
    pick (fun s => (s.zone z).lead) (fun _ _ => rfl) fun n => (rederive z).comp
      ((placeWarns z n).comp (setSlot k (some ⟨z, dir, o, .warning (.start n), 0, Counts.zero⟩)))
  have hactive : Unanswering fun s => State.enterActive k ((s.setSlot k (some ⟨z, dir, o, .active, 0, Counts.zero⟩)).rederive z) :=
    (enterActive k).comp ((rederive z).comp (setSlot k _))
  have hstart := ite (c := fun s => s.isWarned z dir o = true) (fun _ _ => Iff.rfl) hwarned hactive
  exact hstart.comp (updZone z fun x => { x with marker := none })

theorem closeSweep (k : SlotNo) (w : Sweep) (c : Bool) : Unanswering (State.closeSweep k w c) := fun _ _ => rfl

theorem loadUnder (r : LoadRule) (z : ZoneNo) : Unanswering (State.loadUnder r z) :=
  ite (fun _ _ => Iff.rfl) (forEach _ fun y => ite (fun _ _ => Iff.rfl) (updZone y Zone.load) id) id

end Unanswering

/-- The zone that takes an offered slot is found by the markers, and dropping a marker leaves the answer. -/
theorem State.takeWaiting_withResult (a : Option Answer) (l : List ZoneNo) (s : State) :
    State.takeWaiting l (s.withResult a) = ((State.takeWaiting l s).1.withResult a, (State.takeWaiting l s).2) := by
  induction l generalizing s with
  | nil => rfl
  | cons z l ih =>
    have hz : (s.withResult a).zone z = s.zone z := rfl
    have hb : (s.withResult a).fireBarred z = s.fireBarred z := rfl
    unfold State.takeWaiting
    rw [hz, hb]
    cases (s.zone z).marker with
    | none => exact ih s
    | some m =>
      dsimp only
      split
      · exact ih (s.updZone z fun x => { x with marker := none })
      · rfl

namespace Unanswering

theorem offerLoop (n : Nat) (k : SlotNo) : Unanswering (State.offerLoop n k) := by
  induction n with
  | zero => exact id
  | succ n ih =>
    intro a s
    have hlist : State.zonesInRankOrder (s.withResult a) (State.waitingZones (s.withResult a)) = s.zonesInRankOrder s.waitingZones := rfl
    unfold State.offerLoop
    rw [hlist, State.takeWaiting_withResult]
    obtain ⟨q, _ | ⟨z, m⟩⟩ := State.takeWaiting (s.zonesInRankOrder s.waitingZones) s
    · rfl
    · refine Unanswering.comp (g := fun s => if s.isFinished k then
        match s.slot k with
        | none => s
        | some w => State.loadUnder .afterSweep w.zone (State.offerLoop n k ((s.leaveDoors k).closeSweep k w false))
        else s) ?_ (startIn k z m.direction m.origin) a q
      refine ite (c := fun s => s.isFinished k = true) (fun _ _ => Iff.rfl) (cases (fun s => s.slot k) (fun _ _ => rfl) fun
        | none => ⟨_, id, fun s h => by rw [h]⟩
        | some w => ⟨_, (loadUnder .afterSweep w.zone).comp (ih.comp ((closeSweep k w false).comp (leaveDoors k))),
            fun s h => by rw [h]⟩) id

theorem offer (k : SlotNo) : Unanswering (State.offer k) :=
  ite (c := fun s => (s.slot k).isSome = true) (fun _ _ => Iff.rfl) id (offerLoop 33 k)

theorem finish (k : SlotNo) : Unanswering (State.finish k) :=
  cases (fun s => s.slot k) (fun _ _ => rfl) fun
    | none => ⟨_, id, fun s h => by unfold State.finish; rw [h]⟩
    | some w => ⟨_, (loadUnder .afterSweep w.zone).comp ((offer k).comp ((closeSweep k w false).comp (leaveDoors k))),
        fun s h => by unfold State.finish; rw [h]⟩

theorem startSweep (k : SlotNo) (z : ZoneNo) (dir : Direction) (o : Origin) : Unanswering (State.startSweep k z dir o) :=
  comp (g := State.finishIfDone k) (ite (c := fun s => s.isFinished k = true) (fun _ _ => Iff.rfl) (finish k) id)
    (startIn k z dir o)

theorem cancelSweep (k : SlotNo) : Unanswering (State.cancelSweep k) :=
  cases (fun s => (s.slot k, s.linkedDoors k)) (fun _ _ => rfl) fun
    | (none, _) => ⟨_, id, fun s h => by
        obtain ⟨hk, -⟩ := Prod.mk.inj h
        unfold State.cancelSweep
        rw [hk]⟩
    | (some w, l) => by
      have hend := fun g (hg : Unanswering g) => (loadUnder .afterSweep w.zone).comp ((closeSweep k w true).comp hg)
      cases hp : w.phase with
      | warning t => exact ⟨_, hend _ (placeWarns w.zone 0), fun s h => by
          obtain ⟨hk, -⟩ := Prod.mk.inj h
          unfold State.cancelSweep
          simp only [hk, hp]⟩
      | active => exact ⟨_, hend _ ((forEach l cancelDoor).comp (unlinkAll k)), fun s h => by
          obtain ⟨hk, rfl⟩ := Prod.mk.inj h
          unfold State.cancelSweep
          simp only [hk, hp]⟩

theorem recordMarker (z : ZoneNo) (dir : Direction) (o : Origin) : Unanswering (State.recordMarker z dir o) :=
  fun _ _ => rfl

end Unanswering

/-- A giving is taken the same whatever the last answer was, and leaves that answer. -/
theorem State.give_withResult (z : ZoneNo) (dir : Direction) (o : Origin) (a : Option Answer) (s : State) :
    (s.withResult a).give z dir o = ((s.give z dir o).1.withResult a, (s.give z dir o).2) := by
  have hb : (s.withResult a).fireBarred z = s.fireBarred z := rfl
  have hs : (s.withResult a).sweepOf z = s.sweepOf z := rfl
  have hf : (s.withResult a).freeSlot = s.freeSlot := rfl
  unfold State.give
  rw [hb, hs, hf]
  split
  · rfl
  · cases s.sweepOf z with
    | some e =>
      dsimp only
      split
      · rfl
      · rw [Unanswering.cancelSweep, Unanswering.startSweep]
    | none =>
      cases s.freeSlot with
      | some k =>
        dsimp only
        rw [Unanswering.startSweep]
      | none => rfl

theorem State.giveList_withResult (o : Origin) (a : Option Answer) (l : List (ZoneNo × Direction)) (s : State) :
    (s.withResult a).giveList o l = ((s.giveList o l).1.withResult a, (s.giveList o l).2) := by
  induction l generalizing s with
  | nil => rfl
  | cons g l ih =>
    unfold State.giveList
    rw [State.give_withResult]
    dsimp only
    rw [ih]

end Sys2Proof.Machine




namespace Sys2Proof.Machine

/-! ### Zone sets as bytes and as lists -/

theorem getLsbD_oneZone (y z : ZoneNo) : (oneZone y).getLsbD z.val = decide (z = y) := by
  revert y z
  decide

/-- The zone set of a list holds its zones. -/
theorem mem_zoneSetOf {l : List ZoneNo} {z : ZoneNo} : (zoneSetOf l).getLsbD z.val = true ↔ z ∈ l := by
  have key : ∀ (l : List ZoneNo) (m : ZoneSet),
      (l.foldl (fun m z => m ||| (1#32 <<< z.val)) m).getLsbD z.val = true ↔ m.getLsbD z.val = true ∨ z ∈ l := by
    intro l
    induction l with
    | nil => simp
    | cons y l ih =>
      intro m
      have hy : (1#32 <<< y.val).getLsbD z.val = decide (z = y) := getLsbD_oneZone y z
      rw [List.foldl_cons, ih, BitVec.getLsbD_or, hy, List.mem_cons, Bool.or_eq_true, decide_eq_true_iff, or_assoc]
  rw [zoneSetOf, key]
  simp

theorem zoneSet_ext {a b : ZoneSet} (h : ∀ z : ZoneNo, a.getLsbD z.val = true ↔ b.getLsbD z.val = true) : a = b :=
  BitVec.eq_of_getLsbD_eq fun i hi => Bool.eq_iff_iff.mpr (h ⟨i, hi⟩)

theorem zoneSetOf_congr {l m : List ZoneNo} (h : ∀ z, z ∈ l ↔ z ∈ m) : zoneSetOf l = zoneSetOf m :=
  zoneSet_ext fun z => by rw [mem_zoneSetOf, mem_zoneSetOf, h]

theorem zoneSetOf_cons (z : ZoneNo) (l : List ZoneNo) : zoneSetOf (z :: l) = oneZone z ||| zoneSetOf l :=
  zoneSet_ext fun y => by
    rw [mem_zoneSetOf, BitVec.getLsbD_or, getLsbD_oneZone, Bool.or_eq_true, mem_zoneSetOf, decide_eq_true_iff, List.mem_cons]

theorem zoneSetOf_append (l m : List ZoneNo) : zoneSetOf (l ++ m) = zoneSetOf l ||| zoneSetOf m :=
  zoneSet_ext fun y => by
    rw [mem_zoneSetOf, BitVec.getLsbD_or, Bool.or_eq_true, mem_zoneSetOf, mem_zoneSetOf, List.mem_append]

theorem zoneSetOf_disjoint {l m : List ZoneNo} (h : ∀ z ∈ l, z ∉ m) : zoneSetOf l &&& zoneSetOf m = 0 :=
  zoneSet_ext fun y => by
    rw [BitVec.getLsbD_and, Bool.and_eq_true, mem_zoneSetOf, mem_zoneSetOf]
    exact ⟨fun g => absurd g.2 (h y g.1), fun g => absurd g (by simp)⟩

theorem exists_zone_of_ne_zero {zones : ZoneSet} (h : zones ≠ 0) : ∃ z : ZoneNo, zones.getLsbD z.val = true := by
  by_contra hno
  exact h (zoneSet_ext fun z => ⟨fun g => absurd ⟨z, g⟩ hno, fun g => absurd g (by simp)⟩)

theorem zoneSetBytes_zero : zoneSetBytes 0#32 = [0, 0, 0, 0] := rfl

/-! ### The reply of a SWEEP (R80) -/

/-- A zone is in the set of the zones taken in one way when it was taken so. -/
theorem mem_zonesTaken {how : Giving} {l : List (ZoneNo × Giving)} {z : ZoneNo} :
    (zonesTaken how l).getLsbD z.val = true ↔ (z, how) ∈ l := by
  rw [zonesTaken, mem_zoneSetOf, List.mem_map]
  constructor
  · rintro ⟨⟨y, g⟩, hm, rfl⟩
    obtain ⟨hm, hg⟩ := List.mem_filter.mp hm
    have hg : g = how := by simpa using hg
    exact hg ▸ hm
  · exact fun h => ⟨(z, how), List.mem_filter.mpr ⟨h, by simp⟩, rfl⟩

theorem zonesTaken_cons (how : Giving) (e : ZoneNo × Giving) (l : List (ZoneNo × Giving)) :
    zonesTaken how (e :: l) = zonesTaken how [e] ||| zonesTaken how l := by
  rw [zonesTaken, zonesTaken, zonesTaken, ← zoneSetOf_append, ← List.map_append, ← List.filter_append]
  rfl

theorem zonesTaken_one (how : Giving) (z : ZoneNo) (g : Giving) :
    zonesTaken how [(z, g)] = if g = how then oneZone z else 0 := by
  refine zoneSet_ext fun y => ?_
  rw [mem_zonesTaken, List.mem_singleton, Prod.mk.injEq]
  split
  · next h => rw [getLsbD_oneZone, decide_eq_true_iff, and_iff_left h.symm]
  · next h => exact ⟨fun e => absurd e.2.symm h, fun e => absurd e (by simp)⟩

/-! ### The order of a set of givings (R57) -/

/-- A sort by what a function gives sorts the values of the function. -/
theorem map_sortByKey {α β : Type} (f : α → β) (key : β → Nat) (l : List α) :
    (sortByKey (fun a => key (f a)) l).map f = sortByKey key (l.map f) := by
  have hinsert : ∀ (a : α) (l : List α), (insertByKey (fun a => key (f a)) a l).map f = insertByKey key (f a) (l.map f) := by
    intro a l
    induction l with
    | nil => rfl
    | cons b l ih =>
      simp only [List.map_cons, insertByKey]
      split
      · rfl
      · rw [List.map_cons, ih]
  induction l with
  | nil => rfl
  | cons a l ih =>
    have hcons : ∀ {γ : Type} (k : γ → Nat) (c : γ) (m : List γ), sortByKey k (c :: m) = insertByKey k c (sortByKey k m) :=
      fun _ _ _ => rfl
    rw [hcons, hinsert, ih, List.map_cons, hcons]

/-- The givings in the order they are taken in. -/
def State.givingOrder (s : State) (l : List (ZoneNo × Direction)) : List (ZoneNo × Direction) :=
  sortByKey (fun e => (s.zone e.1).rank) l

theorem State.giveSet_eq (s : State) (o : Origin) (l : List (ZoneNo × Direction)) :
    s.giveSet o l = s.giveList o (s.givingOrder l) := rfl

theorem State.givingOrder_perm (s : State) (l : List (ZoneNo × Direction)) : (s.givingOrder l).Perm l := sortByKey_perm _ _

/-- The zones of a set of givings are taken by rank, then by number. -/
theorem State.givingOrder_pairwise {s : State} {l : List (ZoneNo × Direction)} (hl : (l.map Prod.fst).Pairwise (· < ·)) :
    (s.givingOrder l).Pairwise (fun e g => s.zoneBefore e.1 g.1) := by
  have hmap : (s.givingOrder l).map Prod.fst = sortByKey (fun z => (s.zone z).rank) (l.map Prod.fst) := 
    map_sortByKey Prod.fst (fun z => (s.zone z).rank) l
  have h := pairwise_sortByKey (fun z => (s.zone z).rank) hl
  rw [← hmap] at h
  exact List.pairwise_map.mp h

theorem State.zoneBefore_irrefl (s : State) (z y : ZoneNo) (h : s.zoneBefore z y) (g : s.zoneBefore y z) : False := by
  obtain rfl : z = y := Before.asymm (key := fun z => (s.zone z).rank) h g
  rcases h with h | ⟨-, h⟩
  · exact lt_irrefl _ h
  · exact lt_irrefl _ h

/-- The lowest zone is taken first, and then the others in their order. -/
theorem State.givingOrder_lowest {s : State} {l : List (ZoneNo × Direction)} {z : ZoneNo} {dir : Direction} (hm : (z, dir) ∈ l)
    (hl : (l.map Prod.fst).Pairwise (· < ·)) (hlow : ∀ g ∈ l, g.1 ≠ z → s.zoneBefore z g.1) :
    s.givingOrder l = (z, dir) :: s.givingOrder (l.filter (fun g => decide (g.1 ≠ z))) := by
  have hnodup : (l.map Prod.fst).Nodup := hl.imp fun h => ne_of_lt h
  have honly : ∀ g ∈ l, g.1 = z → g = (z, dir) := fun g hg hz => List.inj_on_of_nodup_map hnodup hg hm hz
  have hrest : ((l.filter (fun g => decide (g.1 ≠ z))).map Prod.fst).Pairwise (· < ·) :=
    hl.sublist ((List.filter_sublist (l := l)).map Prod.fst)
  have hperm : l.Perm ((z, dir) :: l.filter (fun g => decide (g.1 ≠ z))) := by
    refine (List.perm_ext_iff_of_nodup hnodup.of_map ?_).mpr fun g => ?_
    · exact List.nodup_cons.mpr ⟨fun h => by simpa using (List.mem_filter.mp h).2, hnodup.of_map.filter _⟩
    · rw [List.mem_cons, List.mem_filter, decide_eq_true_iff]
      by_cases hz : g.1 = z
      · exact ⟨fun h => .inl (honly g h hz), fun h => h.elim (· ▸ hm) And.left⟩
      · exact ⟨fun h => .inr ⟨h, hz⟩, fun h => h.elim (fun e => absurd (congrArg Prod.fst e) hz) And.left⟩
  refine List.Perm.eq_of_pairwise (fun a b _ _ h g => (s.zoneBefore_irrefl _ _ h g).elim) (State.givingOrder_pairwise hl)
    (List.pairwise_cons.mpr ⟨fun g hg => ?_, State.givingOrder_pairwise hrest⟩)
    ((s.givingOrder_perm l).trans (hperm.trans ((s.givingOrder_perm _).symm.cons _)))
  obtain ⟨hg, hz⟩ := List.mem_filter.mp ((s.givingOrder_perm _).mem_iff.mp hg)
  exact hlow g hg (by simpa using hz)

/-- The ranks of the zones give the order. -/
theorem Work.givingOrder_eq {s t : State} (h : Work s t) (l : List (ZoneNo × Direction)) : t.givingOrder l = s.givingOrder l :=
  congrArg (sortByKey · l) (funext fun e => h.zoneRank_eq e.1)

/-- A set of givings is the giving to its lowest zone and then the set of the others (R57). -/
theorem State.giveSet_lowest {s : State} {l : List (ZoneNo × Direction)} {z : ZoneNo} {dir : Direction} (hm : (z, dir) ∈ l)
    (hl : (l.map Prod.fst).Pairwise (· < ·)) (hlow : ∀ g ∈ l, g.1 ≠ z → s.zoneBefore z g.1) (o : Origin) :
    let r := s.give z dir o
    let q := r.1.giveSet o (l.filter (fun g => decide (g.1 ≠ z)))
    s.giveSet o l = (q.1, (z, r.2) :: q.2) := by
  dsimp only
  rw [State.giveSet_eq, State.giveSet_eq, State.givingOrder_lowest hm hl hlow, (Work.give z dir o).givingOrder_eq]
  rfl

end Sys2Proof.Machine




namespace Sys2Proof.Machine

/-! ### SWEEP as a set of givings (R80) -/

section
variable {s : State} {zones : ZoneSet} {b : Byte} {dir : Direction}

theorem directionOfByte_of_eq (dir : Direction) :
    directionOfByte (match dir with | .lock => 1 | .release => 2) = some dir := by
  cases dir <;> rfl

theorem directionOfByte_one (h : b.toNat = 1) : directionOfByte b = some .lock := by
  unfold directionOfByte
  rw [h]
  rfl

theorem directionOfByte_two (h : b.toNat = 2) : directionOfByte b = some .release := by
  unfold directionOfByte
  rw [h]
  rfl

theorem directionOfByte_none (h1 : b.toNat ≠ 1) (h2 : b.toNat ≠ 2) : directionOfByte b = none := by
  unfold directionOfByte
  split
  · next h => exact absurd h h1
  · next h => exact absurd h h2
  · rfl

/-- The givings of a SWEEP. -/
def sweepGivings (zones : ZoneSet) (dir : Direction) : List (ZoneNo × Direction) := (zonesOf zones).map (fun z => (z, dir))

/-- What a SWEEP gives, and how each zone took it. -/
def State.swept (s : State) (zones : ZoneSet) (dir : Direction) : State × List (ZoneNo × Giving) :=
  s.giveSet .link (sweepGivings zones dir)

theorem sweepGivings_zones (zones : ZoneSet) (dir : Direction) : (sweepGivings zones dir).map Prod.fst = zonesOf zones := by
  rw [sweepGivings, List.map_map]
  exact List.map_id _

theorem sweepGivings_ascend (zones : ZoneSet) (dir : Direction) :
    ((sweepGivings zones dir).map Prod.fst).Pairwise (· < ·) := by
  rw [sweepGivings_zones]
  exact (finRange_pairwise 32).filter _

theorem mem_sweepGivings {g : ZoneNo × Direction} :
    g ∈ sweepGivings zones dir ↔ zones.getLsbD g.1.val = true ∧ g.2 = dir := by
  obtain ⟨z, e⟩ := g
  rw [sweepGivings, List.mem_map]
  constructor
  · rintro ⟨y, hy, h⟩
    obtain ⟨rfl, rfl⟩ := Prod.mk.inj h
    exact ⟨mem_zonesOf.mp hy, rfl⟩
  · rintro ⟨hz, rfl⟩
    exact ⟨z, mem_zonesOf.mpr hz, rfl⟩

theorem exec_sweep (zones : ZoneSet) (b : Byte) (s : State) : exec (.sweep zones b) s = answered (takeSweep zones b) s := rfl

/-- The answer of a SWEEP that is taken. -/
def sweepAnswer (l : List (ZoneNo × Giving)) : Answer := okWith (sweepReply l)

theorem exec_sweep_taken (hd : directionOfByte b = some dir) (hz : zones ≠ 0)
    (hb : dir = .lock → ∀ y : ZoneNo, zones.getLsbD y.val = true → ¬ s.Barred y) : exec (.sweep zones b) s =
      .next ((s.later.swept zones dir).1.withResult (some (sweepAnswer (s.later.swept zones dir).2))) := by
  have hfree : ¬ (dir = .lock ∧ (zonesOf zones).any s.later.fireBarred = true) := fun ⟨hl, hany⟩ => by
    obtain ⟨y, hy, hyb⟩ := List.any_eq_true.mp hany
    exact hb hl y (mem_zonesOf.mp hy) (State.fireBarred_iff.mp hyb)
  refine (exec_sweep zones b s).trans (answered_taken ?_)
  unfold takeSweep
  rw [hd]
  dsimp only
  rw [if_neg hz, if_neg hfree]
  rfl

theorem exec_sweep_range (h : zones = 0 ∨ b.toNat ≠ 1 ∧ b.toNat ≠ 2) : exec (.sweep zones b) s = .next (s.refusedAs .range) := by
  refine (exec_sweep zones b s).trans (answered_taken (a := refusal .range) ?_)
  unfold takeSweep
  cases hd : directionOfByte b with
  | none => rfl
  | some dir =>
    rcases h with hz | ⟨h1, h2⟩
    · exact if_pos hz
    · rw [directionOfByte_none h1 h2] at hd
      cases hd

theorem exec_sweep_fire (hd : b.toNat = 1) (hz : zones ≠ 0) {y : ZoneNo} (hy : zones.getLsbD y.val = true) (hb : s.Barred y) :
    exec (.sweep zones b) s = .next (s.refusedAs .fire) := by
  refine (exec_sweep zones b s).trans (answered_taken (a := refusal .fire) ?_)
  have hany : (zonesOf zones).any s.later.fireBarred = true :=
    List.any_eq_true.mpr ⟨y, mem_zonesOf.mpr hy, State.fireBarred_iff.mpr hb⟩
  unfold takeSweep
  rw [directionOfByte_one hd]
  dsimp only
  rw [if_neg hz, if_pos ⟨rfl, hany⟩]

/-! ### Each named zone is taken in one way -/

/-- A giving is declined to a fire-barred zone alone (R55). -/
theorem State.give_not_declined {z : ZoneNo} (hb : dir = .lock → ¬ s.Barred z) (o : Origin) : (s.give z dir o).2 ≠ .declined := by
  rw [State.give_eq hb]
  cases s.sweepOf z with
  | some e =>
    dsimp only
    split <;> nofun
  | none =>
    cases s.freeSlot <;> nofun

/-- The zones of the outcomes are the zones given, in their order, and none that is not barred declines. -/
theorem State.giveList_outcomes (o : Origin) (l : List (ZoneNo × Direction)) (s : State) :
    (s.giveList o l).2.map Prod.fst = l.map Prod.fst ∧
    ((∀ g ∈ l, g.2 = .lock → ¬ s.Barred g.1) → ∀ e ∈ (s.giveList o l).2, e.2 ≠ .declined) := by
  induction l generalizing s with
  | nil => exact ⟨rfl, fun _ _ h => absurd h List.not_mem_nil⟩
  | cons g l ih =>
    obtain ⟨z, dir⟩ := g
    have hw : Work s (s.give z dir o).1 := .give z dir o
    obtain ⟨hzones, hnot⟩ := ih (s.give z dir o).1
    refine ⟨congrArg (z :: ·) hzones, fun hb e he => ?_⟩
    rcases List.mem_cons.mp he with rfl | he
    · exact State.give_not_declined (hb _ List.mem_cons_self) o
    · exact hnot (fun g hg hl h => hb g (List.mem_cons_of_mem _ hg) hl ((hw.barred g.1).mp h)) e he

/-- Each named zone of a SWEEP has one outcome, and it is not declined. -/
theorem State.swept_outcomes (hb : dir = .lock → ∀ y : ZoneNo, zones.getLsbD y.val = true → ¬ s.Barred y) :
    ((s.swept zones dir).2.map Prod.fst).Nodup ∧
    (∀ z : ZoneNo, (∃ how, (z, how) ∈ (s.swept zones dir).2) ↔ zones.getLsbD z.val = true) ∧
    ∀ e ∈ (s.swept zones dir).2, e.2 ≠ .declined := by
  obtain ⟨hzones, hnot⟩ := s.giveList_outcomes .link (s.givingOrder (sweepGivings zones dir))
  have hperm : ((s.swept zones dir).2.map Prod.fst).Perm (zonesOf zones) := by
    rw [← sweepGivings_zones zones dir]
    exact (hzones ▸ (s.givingOrder_perm _).map Prod.fst :)
  refine ⟨hperm.nodup_iff.mpr (zonesOf_nodup zones), fun z => ?_, hnot fun g hg hl => ?_⟩
  · rw [← mem_zonesOf, ← hperm.mem_iff, List.mem_map]
    exact ⟨fun ⟨how, h⟩ => ⟨_, h, rfl⟩, fun ⟨⟨_, how⟩, h, he⟩ => ⟨how, he ▸ h⟩⟩
  · obtain ⟨hz, rfl⟩ := mem_sweepGivings.mp ((s.givingOrder_perm _).mem_iff.mp hg)
    exact hb hl g.1 hz

theorem work_swept (s : State) (zones : ZoneSet) (dir : Direction) : Work s (s.swept zones dir).1 := .giveSet _ _

end

/-- Two of the sets of a reply have no zone in common. -/
theorem zonesTaken_disjoint {l : List (ZoneNo × Giving)} (hl : (l.map Prod.fst).Nodup) {g h : Giving} (hne : g ≠ h) :
    zonesTaken g l &&& zonesTaken h l = 0 :=
  zoneSet_ext fun y => by
    rw [BitVec.getLsbD_and, Bool.and_eq_true, mem_zonesTaken, mem_zonesTaken]
    exact ⟨fun ⟨hg, hh⟩ => absurd (congrArg Prod.snd (List.inj_on_of_nodup_map hl hg hh rfl)) hne,
      fun e => absurd e (by simp)⟩

/-- SWEEP is refused, or takes each named zone in one of the four ways of its reply (R80). -/
theorem sweep_taken (s : State) (zones : ZoneSet) (direction : Byte) : ∃ t, exec (.sweep zones direction) s = .next t ∧
    if zones = 0 ∨ (direction.toNat ≠ 1 ∧ direction.toNat ≠ 2) then t = s.refusedAs .range
    else if direction.toNat = 1 ∧ ∃ z : ZoneNo, zones.getLsbD z.val = true ∧ s.Barred z then t = s.refusedAs .fire
    else ∃ a b c e : ZoneSet,
      t.blockResult = some ⟨.ok, zoneSetBytes a ++ zoneSetBytes b ++ zoneSetBytes c ++ zoneSetBytes e⟩ ∧
      a ||| b ||| c ||| e = zones ∧ a &&& b = 0 ∧ a &&& c = 0 ∧ a &&& e = 0 ∧ b &&& c = 0 ∧ b &&& e = 0 ∧ c &&& e = 0 ∧
      s.later.SameAround t := by
  by_cases hr : zones = 0 ∨ (direction.toNat ≠ 1 ∧ direction.toNat ≠ 2)
  · exact ⟨_, exec_sweep_range hr, if_pos hr ▸ rfl⟩
  obtain ⟨hz, hdir⟩ := not_or.mp hr
  by_cases hf : direction.toNat = 1 ∧ ∃ z : ZoneNo, zones.getLsbD z.val = true ∧ s.Barred z
  · obtain ⟨h1, y, hy, hyb⟩ := hf
    exact ⟨_, exec_sweep_fire h1 hz hy hyb, by rw [if_neg hr, if_pos ⟨h1, y, hy, hyb⟩]⟩
  obtain ⟨dir, hd, hb⟩ : ∃ dir, directionOfByte direction = some dir ∧
      (dir = .lock → ∀ y : ZoneNo, zones.getLsbD y.val = true → ¬ s.Barred y) := by
    by_cases h1 : direction.toNat = 1
    · exact ⟨.lock, directionOfByte_one h1, fun _ y hy hyb => hf ⟨h1, y, hy, hyb⟩⟩
    · exact ⟨.release, directionOfByte_two (by_contra fun h2 => hdir ⟨h1, h2⟩), nofun⟩
  refine ⟨_, exec_sweep_taken hd hz hb, ?_⟩
  rw [if_neg hr, if_neg hf]
  obtain ⟨hnodup, hnamed, hnot⟩ := State.swept_outcomes (s := s.later) hb
  have hwork := work_swept s.later zones dir
  generalize s.later.swept zones dir = r at *
  refine ⟨zonesTaken .started r.2, zonesTaken .reversed r.2, zonesTaken .waiting r.2, zonesTaken .ignored r.2, rfl,
    zoneSet_ext fun z => ?_, zonesTaken_disjoint hnodup (by decide), zonesTaken_disjoint hnodup (by decide),
    zonesTaken_disjoint hnodup (by decide), zonesTaken_disjoint hnodup (by decide), zonesTaken_disjoint hnodup (by decide),
    zonesTaken_disjoint hnodup (by decide), hwork.sameAround⟩
  simp only [BitVec.getLsbD_or, Bool.or_eq_true, mem_zonesTaken]
  rw [← hnamed z]
  constructor
  · rintro (((h | h) | h) | h) <;> exact ⟨_, h⟩
  · rintro ⟨how, h⟩
    cases how with
    | declined => exact absurd rfl (hnot _ h)
    | ignored => exact .inr h
    | reversed => exact .inl (.inl (.inr h))
    | started => exact .inl (.inl (.inl h))
    | waiting => exact .inl (.inr h)

section
variable {s : State} {zones : ZoneSet} {b : Byte} {dir : Direction} {z : ZoneNo}

theorem getLsbD_without {y : ZoneNo} : (zones &&& ~~~oneZone z).getLsbD y.val = true ↔ zones.getLsbD y.val = true ∧ y ≠ z := by
  rw [BitVec.getLsbD_and, BitVec.getLsbD_not, getLsbD_oneZone]
  simp [y.isLt]

theorem State.swept_one (s : State) (z : ZoneNo) (dir : Direction) :
    s.swept (oneZone z) dir = ((s.give z dir .link).1, [(z, (s.give z dir .link).2)]) := by
  rw [State.swept, sweepGivings, zonesOf_oneZone]
  rfl

theorem sweepGivings_without (zones : ZoneSet) (dir : Direction) (z : ZoneNo) :
    (sweepGivings zones dir).filter (fun g => decide (g.1 ≠ z)) = sweepGivings (zones &&& ~~~oneZone z) dir := by
  rw [sweepGivings, List.filter_map, sweepGivings, zonesOf, zonesOf, List.filter_filter]
  refine congrArg (List.map _) (List.filter_congr fun y _ => Bool.eq_iff_iff.mpr ?_)
  rw [getLsbD_without]
  simp [and_comm]

/-- A SWEEP takes the lowest of its zones first (R57). -/
theorem State.swept_lowest (hz : zones.getLsbD z.val = true)
    (hlow : ∀ y : ZoneNo, zones.getLsbD y.val = true → y ≠ z → s.zoneBefore z y) (dir : Direction) :
    let r := s.give z dir .link
    let q := r.1.swept (zones &&& ~~~oneZone z) dir
    s.swept zones dir = (q.1, (z, r.2) :: q.2) := by
  have h := State.giveSet_lowest (s := s) (mem_sweepGivings.mpr ⟨hz, rfl⟩) (sweepGivings_ascend zones dir)
    (fun g hg => hlow g.1 (mem_sweepGivings.mp hg).1) .link
  rw [sweepGivings_without] at h
  exact h

/-- A request after another finds no restarted second. -/
theorem Work.later_withResult {t : State} (h : Work s.later t) (a : Option Answer) :
    (t.withResult a).later = t.withResult a := by
  have hc : ({ t.clock with restarted := false } : Clock) = t.clock := by rw [h.clock_eq]; rfl
  have heq : (t.withResult a).later = { t.withResult a with clock := { t.clock with restarted := false } } := rfl
  rw [heq, hc]
  rfl

theorem State.swept_withResult (s : State) (a : Option Answer) (zones : ZoneSet) (dir : Direction) :
    (s.withResult a).swept zones dir = ((s.swept zones dir).1.withResult a, (s.swept zones dir).2) :=
  State.giveList_withResult _ _ _ _

theorem State.withResult_withResult (s : State) (a b : Option Answer) : (s.withResult a).withResult b = s.withResult b := rfl

/-- A SWEEP of several zones is that of the lowest and then that of the rest (R56, R57). -/
theorem sweep_lowest (hz : zones.getLsbD z.val = true)
    (hlow : ∀ y : ZoneNo, zones.getLsbD y.val = true → y ≠ z → s.zoneBefore z y)
    (hb : dir = .lock → ∀ y : ZoneNo, zones.getLsbD y.val = true → ¬ s.Barred y) (hrest : zones &&& ~~~oneZone z ≠ 0)
    (hd : directionOfByte b = some dir) :
    ∃ (t₁ t₂ : State) (how : Giving) (m : List (ZoneNo × Giving)), exec (.sweep (oneZone z) b) s = .next t₁ ∧
      t₁.blockResult = some (sweepAnswer [(z, how)]) ∧ exec (.sweep (zones &&& ~~~oneZone z) b) t₁ = .next t₂ ∧
      t₂.blockResult = some (sweepAnswer m) ∧
      exec (.sweep zones b) s = .next (t₂.withResult (some (sweepAnswer ((z, how) :: m)))) := by
  have hne : zones ≠ 0 := fun h => by rw [h] at hz; simp at hz
  have hfirst := exec_sweep_taken (s := s) hd (oneZone_ne_zero z) fun hl y hy => by
    rw [getLsbD_oneZone, decide_eq_true_iff] at hy
    exact hb hl y (hy ▸ hz)
  rw [State.swept_one] at hfirst
  have hall := State.swept_lowest (s := s.later) hz hlow dir
  have hthird := exec_sweep_taken (s := s) hd hne hb
  have hwork : Work s.later (s.later.give z dir .link).1 := .give z dir .link
  rw [hall] at hthird
  generalize s.later.give z dir .link = r at *
  obtain ⟨t, how⟩ := r
  let a := some (sweepAnswer [(z, how)])
  have hsecond := exec_sweep_taken (s := t.withResult a) hd hrest fun hl y hy hyb =>
    hb hl y (getLsbD_without.mp hy).1 ((hwork.barred y).mp hyb)
  rw [hwork.later_withResult, State.swept_withResult] at hsecond
  dsimp only at hfirst hsecond hthird
  generalize t.swept (zones &&& ~~~oneZone z) dir = q at *
  exact ⟨_, _, how, q.2, hfirst, rfl, hsecond, rfl, hthird⟩

end

end Sys2Proof.Machine




namespace Sys2Proof.Machine

/-! ### The warn entries of a warned start (R63) -/

section
variable {s : State} {z : ZoneNo} {m : Nat}

/-- The entries of a walk over doors of one zone tell of that zone's doors. -/
theorem State.warned_forEach {l : List DoorNo} (hl : ∀ d ∈ l, (s.door d).zone = z) {u : Trunk} {e : WarnEntry}
    (he : e ∈ ((forEach l (State.placeWarn m) s).trunk u).warnList) :
    e ∈ (s.trunk u).warnList ∨ (e.pattern = (s.zone z).chime ∧ e.minutes = m ∧ (s.door e.door).zone = z) := by
  induction l generalizing s with
  | nil => exact .inl he
  | cons d l ih =>
    rcases ih (s := s.placeWarn m d) (fun d hd => hl d (List.mem_cons_of_mem _ hd)) he with h | h
    · rw [State.placeWarn, State.trunk_updTrunk] at h
      split at h
      · next hu =>
          have hd := hl d List.mem_cons_self
          rcases mem_putWarn h with rfl | h
          · exact .inr ⟨by rw [hd], rfl, hd⟩
          · exact .inl (hu ▸ h)
      · exact .inl h
    · exact .inr h

theorem State.warned_placeWarns {u : Trunk} {e : WarnEntry} (he : e ∈ ((s.placeWarns z m).trunk u).warnList) :
    e ∈ (s.trunk u).warnList ∨ (e.pattern = (s.zone z).chime ∧ e.minutes = m ∧ (s.door e.door).zone = z) :=
  State.warned_forEach (fun d hd => by
    have := (State.mem_doorsWhere.mp hd).2
    simp only [Bool.and_eq_true, beq_iff_eq] at this
    exact this.1.1) he

end

section
variable {s : State} {z : ZoneNo} {k : SlotNo} {o : Origin}

theorem State.isWarned_link (h : (s.zone z).lead ≠ 0) : s.isWarned z .lock .link = true :=
  (State.isWarned_iff s z .lock .link).mpr ⟨rfl, h, by decide, by decide⟩

theorem State.startIn_warned_only {dir : Direction} (h : s.isWarned z dir o = true) {u : Trunk} {e : WarnEntry}
    (he : e ∈ ((s.startIn k z dir o).trunk u).warnList) : e ∈ (s.trunk u).warnList ∨
      (e.pattern = (s.zone z).chime ∧ e.minutes = (s.zone z).lead ∧ (s.door e.door).zone = z) := by
  let w : Sweep := ⟨z, dir, o, .warning ⟨(s.zone z).lead, false⟩, 0, Counts.zero⟩
  have hw := s.work_taken k w
  rw [State.startIn_warned h, State.trunk_rederive] at he
  have := State.warned_placeWarns (s := s.taken k w) he
  rw [hw.zoneChime_eq, hw.doorZone_eq] at this
  exact this

/-- What a LOCK sweep that begins with its warning writes besides the warn lists (R62, R63). -/
theorem State.startSweep_warned_rest (hw : s.isWarned z .lock o = true) (hb : ¬ s.Barred z) (hs : ¬ s.HasSweep z) :
    s.startSweep k z .lock o = { s with
      slots := s.slots.set k.val (some ⟨z, .lock, o, .warning ⟨(s.zone z).lead, false⟩, 0, Counts.zero⟩)
      zones := s.zones.set z.val { s.zone z with marker := none, state := .warning }
      trunks := (s.startSweep k z .lock o).trunks } := by
  rw [State.startSweep_warned hw]
  exact State.startIn_warned_rest hw (fun j v _ hv hz => hs ⟨j, by rw [hv, ← hz]; rfl⟩) hb

end

/-! ### SWEEP of one zone (R55, R56, R58, R63) -/

section
variable {s : State} {z : ZoneNo} {dir : Direction} {b : Byte}

theorem exec_sweep_oneZone (hd : directionOfByte b = some dir) (hb : dir = .lock → ¬ s.Barred z) :
    exec (.sweep (oneZone z) b) s = .next ((s.later.give z dir .link).1.withResult
      (some (sweepAnswer [(z, (s.later.give z dir .link).2)]))) := by
  rw [exec_sweep_taken hd (oneZone_ne_zero z) fun hl y hy => ?_, State.swept_one]
  rw [getLsbD_oneZone, decide_eq_true_iff] at hy
  exact hy ▸ hb hl

theorem sweepAnswer_started (z : ZoneNo) :
    sweepAnswer [(z, .started)] = ⟨.ok, zoneSetBytes (oneZone z) ++ List.replicate 12 0⟩ := by
  simp [sweepAnswer, sweepReply, zonesTaken_one, zoneSetBytes_zero, okWith]

theorem sweepAnswer_reversed (z : ZoneNo) : sweepAnswer [(z, .reversed)] =
    ⟨.ok, List.replicate 4 0 ++ zoneSetBytes (oneZone z) ++ List.replicate 8 0⟩ := by
  simp [sweepAnswer, sweepReply, zonesTaken_one, zoneSetBytes_zero, okWith]

theorem sweepAnswer_waiting (z : ZoneNo) : sweepAnswer [(z, .waiting)] =
    ⟨.ok, List.replicate 8 0 ++ zoneSetBytes (oneZone z) ++ List.replicate 4 0⟩ := by
  simp [sweepAnswer, sweepReply, zonesTaken_one, zoneSetBytes_zero, okWith]

theorem sweepAnswer_ignored (z : ZoneNo) : sweepAnswer [(z, .ignored)] =
    ⟨.ok, List.replicate 12 0 ++ zoneSetBytes (oneZone z)⟩ := by
  simp [sweepAnswer, sweepReply, zonesTaken_one, zoneSetBytes_zero, okWith]

/-- The zone's sweep of that direction runs on. -/
theorem sweep_ignored (hd : directionOfByte b = some dir) (hs : s.SweepLaw) (hb : dir = .lock → ¬ s.Barred z) {k : SlotNo}
    {w : Sweep} (hw : s.slot k = some w) (hz : w.zone = z) (hdir : w.direction = dir) :
    exec (.sweep (oneZone z) b) s = .next (s.answeredOk (List.replicate 12 0 ++ zoneSetBytes (oneZone z))) := by
  have hsweep : s.later.sweepOf z = some (k, w) := hz ▸ State.sweepOf_eq_some (s := s.later) hs hw
  rw [exec_sweep_oneZone hd hb, State.give_ignored (s := s.later) hb hsweep hdir]
  dsimp only
  rw [sweepAnswer_ignored]
  rfl

/-- The zone waits while every slot is another's. -/
theorem sweep_waiting (hd : directionOfByte b = some dir) (hb : dir = .lock → ¬ s.Barred z) (hs : ¬ s.HasSweep z)
    (hk : ∀ k, s.slot k ≠ none) : exec (.sweep (oneZone z) b) s = .next { s.later with
      zones := s.zones.set z.val { s.zone z with marker := some ⟨dir, .link⟩ }
      noticeSet := s.noticeSet.raise s.clock.stamp .sweepWaiting (.zone z) (.sweepWaiting dir .link
        ((List.finRange 32).filter (fun y => decide (y = z) || (s.zone y).marker.isSome)).length)
      blockResult := some ⟨.ok, List.replicate 8 0 ++ zoneSetBytes (oneZone z) ++ List.replicate 4 0⟩ } := by
  rw [exec_sweep_oneZone hd hb, State.give_waiting (s := s.later) hb hs hk]
  dsimp only
  rw [sweepAnswer_waiting, State.recordMarker_eq]
  rfl

/-- The zone's LOCK sweep begins with its warning. -/
theorem sweep_warned {k : SlotNo} (hb : ¬ s.Barred z) (hs : ¬ s.HasSweep z) (hk : s.slot k = none)
    (hlow : ∀ j, j < k → s.slot j ≠ none) (hl : (s.zone z).lead ≠ 0) :
    ∃ t, exec (.sweep (oneZone z) 1) s = .next t ∧
      t.blockResult = some ⟨.ok, zoneSetBytes (oneZone z) ++ List.replicate 12 0⟩ ∧
      t.slots = s.slots.set k.val (some ⟨z, .lock, .link, .warning ⟨(s.zone z).lead, false⟩, 0, ⟨0, 0, 0, 0, 0, 0⟩⟩) ∧
      t.zones = s.zones.set z.val { s.zone z with marker := none, state := .warning } ∧
      t.doors = s.doors ∧ t.noticeSet = s.noticeSet ∧ s.later.SameAround t ∧
      (∀ u, t.trunk u = { s.trunk u with warnList := (t.trunk u).warnList }) ∧
      (∀ d, (s.door d).configured = true → (s.door d).zone = z → (s.door d).chime = true → s.held d = false →
        ⟨d, (s.zone z).chime, (s.zone z).lead⟩ ∈ (t.trunk (s.door d).trunk).warnList) ∧
      (∀ u, ∀ e ∈ (t.trunk u).warnList, e ∈ (s.trunk u).warnList ∨
        (e.pattern = (s.zone z).chime ∧ e.minutes = (s.zone z).lead ∧ (s.door e.door).zone = z)) := by
  have hw : s.later.isWarned z .lock .link = true := State.isWarned_link (s := s.later) hl
  have hexec := exec_sweep_oneZone (s := s) (b := 1) rfl fun _ => hb
  rw [State.give_started (s := s.later) (fun _ => hb) hs hk hlow] at hexec
  dsimp only at hexec
  rw [sweepAnswer_started] at hexec
  have hrest := State.startSweep_warned_rest (s := s.later) (k := k) hw hb hs
  have htrunk := fun u => State.startIn_warned_trunk (k := k) hw u
  have hmem := fun d (hd : s.later.IsDoorOf z d) => State.startIn_warned_mem (k := k) hw hd
  have honly := fun u e => State.startIn_warned_only (k := k) hw (u := u) (e := e)
  rw [← State.startSweep_warned hw] at htrunk hmem honly
  have hwork : Work s.later (s.later.startSweep k z .lock .link) := .startSweep k z .lock .link
  generalize s.later.startSweep k z .lock .link = t at *
  refine ⟨_, hexec, rfl, ?_, ?_, ?_, ?_, hwork.sameAround, htrunk, fun d hc hz => hmem d ⟨hc, hz⟩, honly⟩
  all_goals
    rw [hrest]
    rfl

end

end Sys2Proof.Machine




namespace Sys2Proof.Machine

/-! ### Several zones that start with a warning (R56, R57, R62) -/

/-- The free slots, lowest first. -/
def State.freeSlots (s : State) : List SlotNo := (List.finRange 8).filter (fun k => decide (s.slot k = none))

section
variable {s t : State} {k : SlotNo} {F : List SlotNo}

theorem State.mem_freeSlots : k ∈ s.freeSlots ↔ s.slot k = none := by
  simp [State.freeSlots]

theorem State.freeSlots_pairwise (s : State) : s.freeSlots.Pairwise (· < ·) := (finRange_pairwise 8).filter _

/-- The first free slot is the lowest. -/
theorem State.lowest_freeSlot (h : s.freeSlots = k :: F) : s.slot k = none ∧ ∀ j, j < k → s.slot j ≠ none := by
  refine ⟨State.mem_freeSlots.mp (h ▸ List.mem_cons_self), fun j hj hn => ?_⟩
  have hp := h ▸ s.freeSlots_pairwise
  have hm := h ▸ State.mem_freeSlots.mpr hn
  rcases List.mem_cons.mp hm with rfl | hm
  · exact lt_irrefl _ hj
  · exact lt_asymm hj ((List.pairwise_cons.mp hp).1 j hm)

theorem State.freeSlots_nil (h : s.freeSlots = []) (k : SlotNo) : s.slot k ≠ none := fun hn =>
  List.not_mem_nil (h ▸ State.mem_freeSlots.mpr hn)

/-- Taking the lowest free slot leaves the others. -/
theorem State.freeSlots_taken (h : s.freeSlots = k :: F) (hk : t.slot k ≠ none) (ht : ∀ j, j ≠ k → t.slot j = s.slot j) :
    t.freeSlots = F := by
  have hp := List.pairwise_cons.mp (h ▸ s.freeSlots_pairwise)
  have hsub : t.freeSlots = s.freeSlots.filter (fun j => decide (j ≠ k)) := by
    rw [State.freeSlots, State.freeSlots, List.filter_filter]
    refine List.filter_congr fun j _ => Bool.eq_iff_iff.mpr ?_
    by_cases hj : j = k
    · simp [hj, hk]
    · simp [hj, ht j hj]
  rw [hsub, h, List.filter_cons_of_neg (by simp), List.filter_eq_self.mpr]
  exact fun j hj => by simpa using (hp.1 j hj).ne'

end

/-- A zone whose LOCK starts with a warning, or waits. -/
def State.Warnable (s : State) (z : ZoneNo) : Prop := (s.zone z).lead ≠ 0 ∧ ¬ s.Barred z ∧ ¬ s.HasSweep z

/-- A zone given LOCK is in WARNING in the slot it found, or waits when it found none. -/
def State.WarnedOrWaits (s t : State) (z : ZoneNo) (found : Option SlotNo) : Prop :=
  match found with
  | some k => (t.zone z).marker = none ∧
      t.slot k = some ⟨z, .lock, .link, .warning ⟨(s.zone z).lead, false⟩, 0, ⟨0, 0, 0, 0, 0, 0⟩⟩
  | none => (t.zone z).marker = some ⟨.lock, .link⟩ ∧ ¬ t.HasSweep z

/-- How a zone took its LOCK, by the slot it found. -/
def givingBy (found : Option SlotNo) : Giving := if found.isSome = true then .started else .waiting

section
variable {s t : State} {z : ZoneNo}

theorem State.WarnedOrWaits.mono {u : State} {x : Option SlotNo} (h : s.WarnedOrWaits t z x) (hl : (s.zone z).lead = (u.zone z).lead)
    {v : State} (hm : (v.zone z).marker = (t.zone z).marker) (hs : ∀ k, t.slot k ≠ none → v.slot k = t.slot k)
    (hsweep : v.HasSweep z ↔ t.HasSweep z) : u.WarnedOrWaits v z x := by
  cases x with
  | some k =>
    obtain ⟨hmark, hslot⟩ := h
    exact ⟨hm.trans hmark, by rw [hs k (by rw [hslot]; nofun), hslot, hl]⟩
  | none =>
    obtain ⟨hmark, hno⟩ := h
    exact ⟨hm.trans hmark, hsweep.not.mpr hno⟩

/-- One giving of LOCK to a zone with a warning lead: it takes the lowest free slot, or waits. -/
theorem State.give_warnable (h : s.Warnable z) : (s.give z .lock .link).2 = givingBy s.freeSlots[0]? ∧
    s.WarnedOrWaits (s.give z .lock .link).1 z s.freeSlots[0]? ∧ (s.give z .lock .link).1.freeSlots = s.freeSlots.tail ∧
    (∀ k, s.slot k ≠ none → (s.give z .lock .link).1.slot k = s.slot k) ∧
    ∀ y, y ≠ z → (s.give z .lock .link).1.zone y = s.zone y ∧ ((s.give z .lock .link).1.HasSweep y ↔ s.HasSweep y) := by
  obtain ⟨hlead, hb, hs⟩ := h
  cases hF : s.freeSlots with
  | nil =>
    rw [State.give_waiting (fun _ => hb) hs (State.freeSlots_nil hF)]
    have hslot : ∀ k, (s.recordMarker z .lock .link).slot k = s.slot k := fun _ => rfl
    have hzone : ∀ y, (s.recordMarker z .lock .link).zone y =
        if y = z then { s.zone z with marker := some ⟨.lock, .link⟩ } else s.zone y := fun y =>
      State.zone_updZone s z y (fun x => { x with marker := some ⟨.lock, .link⟩ })
    generalize s.recordMarker z .lock .link = t at *
    refine ⟨rfl, ⟨by rw [hzone, if_pos rfl], fun ⟨k, hk⟩ => hs ⟨k, by rw [← hslot]; exact hk⟩⟩, ?_, fun k _ => hslot k,
      fun y hy => ⟨by rw [hzone, if_neg hy], by simp only [State.HasSweep, hslot]⟩⟩
    have hfree : t.freeSlots = s.freeSlots :=
      congrArg (List.filter · (List.finRange 8)) (funext fun k => by rw [hslot])
    exact hfree.trans hF
  | cons k F =>
    obtain ⟨hk, hlow⟩ := State.lowest_freeSlot hF
    rw [State.give_started (fun _ => hb) hs hk hlow]
    have hrest := State.startSweep_warned_rest (k := k) (State.isWarned_link hlead) hb hs
    dsimp only
    generalize s.startSweep k z .lock .link = t at *
    have hslot : ∀ j, t.slot j = if j = k then some ⟨z, .lock, .link, .warning ⟨(s.zone z).lead, false⟩, 0, Counts.zero⟩
        else s.slot j := fun j => by
      rw [hrest]
      exact State.slot_setSlot ..
    have hzone : ∀ y, t.zone y = if y = z then { s.zone z with marker := none, state := .warning } else s.zone y := fun y => by
      rw [hrest]
      exact State.zone_updZone s z y (fun x => { x with marker := none, state := .warning })
    have hother : ∀ j, s.slot j ≠ none → t.slot j = s.slot j := fun j hj =>
      (hslot j).trans (if_neg fun e : j = k => hj (e ▸ hk))
    refine ⟨rfl, ⟨by rw [hzone, if_pos rfl], by rw [hslot, if_pos rfl]; rfl⟩,
      State.freeSlots_taken hF (by rw [hslot, if_pos rfl]; nofun) fun j hj => by rw [hslot, if_neg hj], hother,
      fun y hy => ⟨by rw [hzone, if_neg hy], ⟨?_, ?_⟩⟩⟩
    · rintro ⟨j, hj⟩
      rw [hslot] at hj
      split at hj
      · exact absurd (Option.some.inj hj).symm hy
      · exact ⟨j, hj⟩
    · rintro ⟨j, hj⟩
      exact ⟨j, by rw [hother j fun e => by rw [e] at hj; cases hj]; exact hj⟩

/-- LOCK given to zones with a warning lead, one after another: each takes the slot of its place, or waits. -/
theorem State.giveList_warnable {l : List ZoneNo} (hl : l.Nodup) (h : ∀ z ∈ l, s.Warnable z) :
    let r := s.giveList .link (l.map (fun z => (z, Direction.lock)))
    r.2 = l.mapIdx (fun i z => (z, givingBy s.freeSlots[i]?)) ∧ (∀ k, s.slot k ≠ none → r.1.slot k = s.slot k) ∧
    (∀ y, y ∉ l → (r.1.zone y).marker = (s.zone y).marker ∧ (r.1.HasSweep y ↔ s.HasSweep y)) ∧
    ∀ (i : Nat) (z : ZoneNo), l[i]? = some z → s.WarnedOrWaits r.1 z s.freeSlots[i]? := by
  induction l generalizing s with
  | nil => exact ⟨rfl, fun _ _ => rfl, fun _ _ => ⟨rfl, .rfl⟩, fun _ _ h => nomatch h⟩
  | cons z l ih =>
    obtain ⟨hz, hl⟩ := List.nodup_cons.mp hl
    obtain ⟨hhow, hout, hfree, hslots, hzones⟩ := State.give_warnable (h z List.mem_cons_self)
    have hw : Work s (s.give z .lock .link).1 := .give z .lock .link
    have hne : ∀ y ∈ l, y ≠ z := fun y hy e => hz (e ▸ hy)
    have ih := ih (s := (s.give z .lock .link).1) hl fun y hy => by
      obtain ⟨hlead, hb, hs⟩ := h y (List.mem_cons_of_mem _ hy)
      obtain ⟨hzone, hsweep⟩ := hzones y (hne y hy)
      exact ⟨by rw [hzone]; exact hlead, fun g => hb ((hw.barred y).mp g), hsweep.not.mpr hs⟩
    have hcons : s.giveList .link ((z :: l).map (fun z => (z, Direction.lock))) =
        (((s.give z .lock .link).1.giveList .link (l.map (fun z => (z, Direction.lock)))).1,
          (z, (s.give z .lock .link).2) :: ((s.give z .lock .link).1.giveList .link (l.map (fun z => (z, Direction.lock)))).2) := rfl
    obtain ⟨ihow, islots, iother, iout⟩ := ih
    dsimp only at ihow islots iother iout ⊢
    rw [hcons]
    rw [hfree] at ihow
    simp only [hfree, List.getElem?_tail] at ihow iout
    generalize s.give z .lock .link = p at *
    generalize p.1.giveList .link (l.map (fun z => (z, Direction.lock))) = r at *
    refine ⟨?_, fun k hk => ?_, fun y hy => ?_, fun i y hi => ?_⟩
    · rw [hhow, ihow, List.mapIdx_cons]
    · rw [islots k (by rw [hslots k hk]; exact hk), hslots k hk]
    · have hyz : y ≠ z := fun e => hy (e ▸ List.mem_cons_self)
      have hyl : y ∉ l := fun h => hy (List.mem_cons_of_mem _ h)
      obtain ⟨hm, hs⟩ := iother y hyl
      obtain ⟨hzone, hsweep⟩ := hzones y hyz
      exact ⟨by rw [hm, hzone], hs.trans hsweep⟩
    · cases i with
      | zero =>
        obtain rfl : z = y := Option.some.inj hi
        obtain ⟨hm, hs⟩ := iother z hz
        exact hout.mono rfl hm islots hs
      | succ i =>
        have hi : l[i]? = some y := hi
        exact (iout i y hi).mono (hw.lead_eq y) rfl (fun _ _ => rfl) .rfl

end

/-! ### The place of a zone in the order (R57) -/

/-- In an order by rank and number an element stands after as many as are before it. -/
theorem index_of_before {n : Nat} {key : Fin n → Nat} {l : List (Fin n)} (hl : l.Pairwise (Before key)) {i : Nat} {z : Fin n}
    (hi : l[i]? = some z) : (l.filter (fun y => decide (Before key y z))).length = i := by
  induction l generalizing i with
  | nil => cases hi
  | cons a l ih =>
    obtain ⟨ha, hl⟩ := List.pairwise_cons.mp hl
    have hirr : ∀ {a : Fin n}, ¬ Before key a a := fun {a} h => h.elim (lt_irrefl _) fun h => lt_irrefl _ h.2
    cases i with
    | zero =>
      obtain rfl : a = z := Option.some.inj hi
      rw [List.filter_cons_of_neg (by simp), List.filter_eq_nil_iff.mpr]
      · rfl
      · intro y hy
        rw [decide_eq_true_iff]
        exact fun h => hirr (Before.asymm h (ha y hy) ▸ h)
    | succ i =>
      have hi : l[i]? = some z := hi
      rw [List.filter_cons_of_pos (by simpa using ha z (List.mem_of_getElem? hi)), List.length_cons, ih hl hi]

end Sys2Proof.Machine




namespace Sys2Proof.Machine

section
variable {s : State} {zones : ZoneSet}

/-- The named zones in the order of their givings. -/
def State.sweepOrder (s : State) (zones : ZoneSet) : List ZoneNo := s.zonesInRankOrder (zonesOf zones)

theorem State.givingOrder_sweep (s : State) (zones : ZoneSet) (dir : Direction) :
    s.givingOrder (sweepGivings zones dir) = (s.sweepOrder zones).map (fun z => (z, dir)) :=
  (map_sortByKey (fun z => (z, dir)) (fun e : ZoneNo × Direction => (s.zone e.1).rank) (zonesOf zones)).symm

theorem State.sweepOrder_perm (s : State) (zones : ZoneSet) : (s.sweepOrder zones).Perm (zonesOf zones) := sortByKey_perm _ _

/-- A zone stands in the order after as many named zones as are before it. -/
theorem State.sweepOrder_index {i : Nat} {z : ZoneNo} (hi : (s.sweepOrder zones)[i]? = some z) :
    ((zonesOf zones).filter (fun y => decide (s.zoneBefore y z))).length = i := by
  rw [← ((s.sweepOrder_perm zones).filter _).length_eq]
  exact index_of_before (key := fun z => (s.zone z).rank) (pairwise_sortByKey _ ((finRange_pairwise 32).filter _)) hi

/-- The free slot that a named zone finds. -/
def State.slotFor (s : State) (zones : ZoneSet) (z : ZoneNo) : Option SlotNo :=
  s.freeSlots[((zonesOf zones).filter (fun y => decide (s.zoneBefore y z))).length]?

/-- LOCK of several zones with a warning lead: each has the slot of its place, or waits (R56, R57, R62). -/
theorem State.swept_warnable (h : ∀ z : ZoneNo, zones.getLsbD z.val = true → s.Warnable z) :
    (∀ (z : ZoneNo) (how : Giving), (z, how) ∈ (s.swept zones .lock).2 ↔
      zones.getLsbD z.val = true ∧ how = givingBy (s.slotFor zones z)) ∧
    (∀ k, s.slot k ≠ none → (s.swept zones .lock).1.slot k = s.slot k) ∧
    ∀ z : ZoneNo, zones.getLsbD z.val = true → s.WarnedOrWaits (s.swept zones .lock).1 z (s.slotFor zones z) := by
  have hmem : ∀ z, z ∈ s.sweepOrder zones ↔ zones.getLsbD z.val = true := fun z =>
    (s.sweepOrder_perm zones).mem_iff.trans mem_zonesOf
  obtain ⟨hhow, hslots, -, hout⟩ := State.giveList_warnable ((s.sweepOrder_perm zones).nodup_iff.mpr (zonesOf_nodup zones))
    fun z hz => h z ((hmem z).mp hz)
  rw [← State.givingOrder_sweep] at hhow hslots hout
  have hswept : s.swept zones .lock = s.giveList .link (s.givingOrder (sweepGivings zones .lock)) := rfl
  rw [hswept]
  have hfound : ∀ {i : Nat} {z : ZoneNo}, (s.sweepOrder zones)[i]? = some z → s.freeSlots[i]? = s.slotFor zones z :=
    fun {i z} hi => by rw [State.slotFor, State.sweepOrder_index hi]
  refine ⟨fun z how => ?_, hslots, fun z hz => ?_⟩
  · rw [hhow, List.mem_mapIdx, ← hmem z]
    constructor
    · rintro ⟨i, hi, he⟩
      obtain ⟨rfl, rfl⟩ := Prod.mk.inj he
      exact ⟨List.getElem_mem hi, by rw [hfound (List.getElem?_eq_getElem hi)]⟩
    · rintro ⟨hz, rfl⟩
      obtain ⟨i, hi, rfl⟩ := List.mem_iff_getElem.mp hz
      exact ⟨i, hi, by rw [hfound (List.getElem?_eq_getElem hi)]⟩
  · obtain ⟨i, hi, rfl⟩ := List.mem_iff_getElem.mp ((hmem z).mpr hz)
    have := hout i _ (List.getElem?_eq_getElem hi)
    rwa [hfound (List.getElem?_eq_getElem hi)] at this

end

theorem zonesTaken_eq {l : List (ZoneNo × Giving)} {named : List ZoneNo} {p : ZoneNo → Bool} {how : Giving}
    (h : ∀ z, (z, how) ∈ l ↔ z ∈ named ∧ p z = true) : zonesTaken how l = zoneSetOf (named.filter p) :=
  zoneSet_ext fun z => by rw [mem_zonesTaken, mem_zoneSetOf, List.mem_filter, h]

/-- The reply when every zone starts or waits. -/
theorem sweepAnswer_warnable {l : List (ZoneNo × Giving)} {named : List ZoneNo} {found : ZoneNo → Option SlotNo}
    (h : ∀ z how, (z, how) ∈ l ↔ z ∈ named ∧ how = givingBy (found z)) :
    sweepAnswer l = ⟨.ok, zoneSetBytes (zoneSetOf (named.filter (fun z => (found z).isSome))) ++ List.replicate 4 0 ++
      zoneSetBytes (zoneSetOf (named.filter (fun z => (found z).isNone))) ++ List.replicate 4 0⟩ := by
  have hstarted : zonesTaken .started l = zoneSetOf (named.filter (fun z => (found z).isSome)) := zonesTaken_eq fun z => by
    rw [h, givingBy]
    cases found z <;> simp
  have hwaiting : zonesTaken .waiting l = zoneSetOf (named.filter (fun z => (found z).isNone)) := zonesTaken_eq fun z => by
    rw [h, givingBy]
    cases found z <;> simp
  have hnone : ∀ how, how ≠ .started → how ≠ .waiting → zonesTaken how l = 0#32 := fun how hs hw => by
    refine (zonesTaken_eq (named := []) (p := fun _ => true) fun z => ?_).trans rfl
    rw [h, givingBy]
    cases found z <;> simp [hs, hw]
  rw [sweepAnswer, sweepReply, hstarted, hwaiting, hnone .reversed nofun nofun, hnone .ignored nofun nofun, zoneSetBytes_zero]
  rfl

/-- Settles O25: the refusals and the four sets of the reply, the one-zone cases of a giving, a set of givings by its
lowest zone, and the slots that several warned zones take in their order. -/
theorem sweepRequestTakesEachZone : Obligations.SweepRequestTakesEachZone := by
  refine ⟨sweep_taken, fun s z dir hs hb => ?one, fun s zones dir z hz hlow hb hrest => ?lowest, fun s o l z dir hm hl hlow => ?set,
    fun s zones hz h => ?several⟩
  case one =>
    have hd := directionOfByte_of_eq dir
    refine ⟨fun k w hw hwz hdir => sweep_ignored hd hs hb hw hwz hdir, fun hno hk => sweep_waiting hd hb hno hk,
      fun k hno hk hlow hl hlead => ?_⟩
    subst hl
    exact sweep_warned (hb rfl) hno hk hlow hlead
  case lowest =>
    obtain ⟨t₁, t₂, how, m, h₁, hr₁, h₂, hr₂, h⟩ := sweep_lowest hz hlow hb hrest (directionOfByte_of_eq dir)
    refine ⟨t₁, t₂, zonesTaken .started [(z, how)], zonesTaken .reversed [(z, how)], zonesTaken .waiting [(z, how)],
      zonesTaken .ignored [(z, how)], zonesTaken .started m, zonesTaken .reversed m, zonesTaken .waiting m,
      zonesTaken .ignored m, h₁, hr₁, h₂, hr₂, ?_⟩
    refine h.trans ?_
    simp only [← zonesTaken_cons]
    rfl
  case set => rw [State.giveSet_lowest hm hl hlow]
  case several =>
    obtain ⟨hhow, hslots, hout⟩ := State.swept_warnable (s := s.later) h
    have hexec := exec_sweep_taken (s := s) (b := 1) rfl hz fun _ y hy => (h y hy).2.1
    rw [sweepAnswer_warnable (named := zonesOf zones) fun z how => by rw [hhow, mem_zonesOf]] at hexec
    generalize s.later.swept zones .lock = r at *
    refine ⟨_, hexec, rfl, hslots, fun z hz => ?_⟩
    have := hout z hz
    exact this

end Sys2Proof.Machine




namespace Sys2Proof.Machine

/-! ### A reversal: the cancel of a sweep and the start of the opposite one in its slot (R56, R60) -/

/-- A door stands but for a grant of its entry. -/
def State.GrantedAt (d : DoorNo) (s t : State) : Prop :=
  t.door d = s.door d ∨ t.door d = Door.enter .acting (s.door d)

section
variable {s t u : State} {d : DoorNo}

theorem State.GrantedAt.of_door (h : t.door d = s.door d) : s.GrantedAt d t := .inl h

theorem State.GrantedAt.trans (h : s.GrantedAt d t) (g : t.GrantedAt d u) : s.GrantedAt d u := by
  have htwice : ∀ x : Door, Door.enter .acting (Door.enter .acting x) = Door.enter .acting x := fun _ => rfl
  rcases h with h | h <;> rcases g with g | g <;> rw [h] at g
  · exact .inl g
  · exact .inr g
  · exact .inr g
  · exact .inr (g.trans (htwice _))

theorem State.GrantedAt.grantLoop (n : Nat) (v : Trunk) (s : State) : s.GrantedAt d (State.grantLoop n v s) := by
  induction n generalizing s with
  | zero => exact .of_door rfl
  | succ n ih =>
    unfold State.grantLoop
    split
    · exact .of_door rfl
    · next e q _ =>
        split
        · refine .trans ?_ (ih _)
          unfold State.GrantedAt
          rw [State.door_grant]
          split
          · exact .inr rfl
          · exact .inl rfl
        · exact .of_door rfl

/-- The cancel of another door leaves a door, but for a grant from a queue that has become shorter (R78). -/
theorem State.GrantedAt.cancelDoor {e : DoorNo × Count} (h : d ≠ e.1) (s : State) : s.GrantedAt d (s.cancelDoor e) := by
  have hintent : ∀ q : State, (q.updDoor e.1 Door.noIntent).door d = q.door d := fun q => by
    rw [State.door_updDoor, if_neg h]
  unfold State.cancelDoor
  dsimp only
  split
  · exact .of_door rfl
  · split
    · refine .trans (.of_door ?_) (.grantLoop _ _ _)
      rw [hintent, State.restate, State.door_updDoor, if_neg h, State.door_changeState_ne _ _ _ h]
      rfl
    · exact .of_door (by rw [hintent, State.door_changeState_ne _ _ _ h])
    all_goals exact .of_door (hintent s)

theorem State.GrantedAt.forEach {α : Type} {f : α → State → State} {l : List α} (hf : ∀ a ∈ l, ∀ s : State, s.GrantedAt d (f a s))
    (s : State) : s.GrantedAt d (forEach l f s) := by
  induction l generalizing s with
  | nil => exact .of_door rfl
  | cons a l ih => exact (hf a List.mem_cons_self s).trans (ih (fun b hb => hf b (List.mem_cons_of_mem _ hb)) _)

end

section
variable {s : State} {k : SlotNo} {w : Sweep}

/-- A door that the cancelled sweep did not link stands, but for a grant. -/
theorem State.grantedAt_cancelSweep (hw : s.slot k = some w) {d : DoorNo} (hd : s.linkSlot d ≠ some k) :
    s.GrantedAt d (s.cancelSweep k) := by
  have hstop : s.GrantedAt d (s.stopSweep k w) := by
    cases hp : w.phase with
    | warning c =>
      rw [State.stopSweep_warning hp]
      exact .of_door (by rw [State.placeWarns_rest]; rfl)
    | active =>
      rw [State.stopSweep_active hp]
      refine .trans (.of_door ((State.Unlinked.unlinkAll s k).others d hd)) (.forEach (fun e he q => .cancelDoor (fun hde => ?_) q) _)
      have := (State.mem_linkedDoors (e := e)).mp he
      exact hd (hde ▸ State.linkSlot_of this.2)
  unfold State.GrantedAt at hstop ⊢
  rwa [State.door_cancelSweep hw]

/-- The cancel of a sweep in ACTIVE unlinks its doors (R78). -/
theorem State.unlinked_cancelSweep (hw : s.slot k = some w) (hp : w.phase = .active) (d : DoorNo) :
    (s.cancelSweep k).linkSlot d = if s.linkSlot d = some k then none else s.linkSlot d := by
  have hu := State.Unlinked.unlinkAll s k
  have hwalk : Hands (fun _ => True) (s.unlinkAll k) (s.stopSweep k w) := by
    rw [State.stopSweep_active hp]
    exact .forEach _ fun _ _ => .cancelDoor trivial
  rw [State.linkSlot, State.door_cancelSweep hw]
  refine (hwalk.linkSlot d).trans ?_
  split
  · next h => exact State.linkSlot_none.mpr (hu.linked d h)
  · next h => exact congrArg (fun x : Door => x.sweep.map SweepLink.slot) (hu.others d h)

end

/-! ### The end of an offer (R59) -/

section
variable {s : State} {k : SlotNo}

/-- An offered slot that stays free leaves no zone waiting. -/
theorem State.offerLoop_idle {n : Nat} (hn : s.waitingZones.length < n) (hfree : (State.offerLoop n k s).slot k = none) (y : ZoneNo) :
    ((State.offerLoop n k s).zone y).marker = none := by
  induction n generalizing s with
  | zero => exact absurd hn (Nat.not_lt_zero _)
  | succ n ih =>
    obtain ⟨htake, -, hspec⟩ := State.takeWaiting_spec (s.zonesInRankOrder s.waitingZones) s
    unfold State.offerLoop at hfree ⊢
    split at hfree
    · next q hq =>
        rw [hq] at hspec
        exact hspec (fun z hz => mem_sortByKey.mpr (State.mem_waitingZones.mpr (Option.isSome_iff_ne_none.mpr hz))) y
    · next q z m hq =>
        rw [hq] at htake hspec
        obtain ⟨hmark, hb⟩ := hspec
        obtain ⟨v, hv, -⟩ := State.slot_startIn hb k m.origin
        have hmarks := q.marker_startIn k z m.direction m.origin
        have hno : q.NoNewWaits (q.startIn k z m.direction m.origin) := fun y hy => by rw [hmarks, hy, ite_self]
        have hclosed : (q.startIn k z m.direction m.origin).NoNewWaits
            (((q.startIn k z m.direction m.origin).leaveDoors k).closeSweep k v false) := fun y hy => by
          rw [State.marker_closeSweep]
          exact hy
        have h1 : q.waitingZones.length ≤ s.waitingZones.length := htake.noNewWaits.sublist.length_le
        have h2 := hno.length_lt (z := z) (by rw [hmark]; exact fun g => nomatch g) (by rw [hmarks, if_pos rfl])
        have h3 := hclosed.sublist.length_le
        dsimp only at hfree ⊢
        rw [hv] at hfree ⊢
        split at hfree
        · next hfin =>
          rw [if_pos hfin]
          dsimp only at hfree ⊢
          rw [State.slot_loadUnder] at hfree
          rw [(State.marker_loadUnder _ _ _ _).1]
          exact ih (by omega) hfree
        · rw [hv] at hfree
          cases hfree

theorem State.offer_idle (hfree : (s.offer k).slot k = none) (y : ZoneNo) : ((s.offer k).zone y).marker = none := by
  unfold State.offer at hfree ⊢
  split at hfree
  · next h => rw [hfree] at h; cases h
  · next h =>
    rw [if_neg h]
    refine State.offerLoop_idle ?_ hfree y
    have : s.waitingZones.length ≤ (List.finRange 32).length := List.length_filter_le _ _
    rw [List.length_finRange] at this
    omega

/-- A sweep that finishes at its start, and leaves its slot free, leaves no zone waiting. -/
theorem State.startSweep_idle {z : ZoneNo} {dir : Direction} {o : Origin} (hb : dir = .lock → ¬ s.Barred z)
    (hfree : (s.startSweep k z dir o).slot k = none) (y : ZoneNo) : ((s.startSweep k z dir o).zone y).marker = none := by
  obtain ⟨v, hv, -⟩ := State.slot_startIn hb k o
  have hstart : s.startSweep k z dir o = (s.startIn k z dir o).finishIfDone k := rfl
  rw [hstart] at hfree ⊢
  unfold State.finishIfDone at hfree ⊢
  split at hfree
  · next hfin =>
    rw [State.finish_eq hv, State.slot_loadUnder] at hfree
    rw [if_pos hfin, State.finish_eq hv, (State.marker_loadUnder _ _ _ _).1]
    exact State.offer_idle hfree y
  · rw [hv] at hfree
    cases hfree

end

end Sys2Proof.Machine




namespace Sys2Proof.Machine

section
variable {s : State} {k : SlotNo} {z : ZoneNo} {dir : Direction} {o : Origin}

/-- A start does not write the last direction of a zone. -/
theorem State.last_startIn (s : State) (k : SlotNo) (z : ZoneNo) (dir : Direction) (o : Origin) (y : ZoneNo) :
    ((s.startIn k z dir o).zone y).last = (s.zone y).last := by
  have hlast : ∀ {K : SlotNo → Prop} {p q : State}, p.HandsTo K q → (q.zone y).last = (p.zone y).last := fun h => by
    have := congrArg Zone.last (h.zones y)
    exact this
  have htaken : ∀ w : Sweep, w.zone = z → ((s.taken k w).zone y).last = (s.zone y).last := by
    rintro w rfl
    rw [State.zone_taken]
    split
    · next h => rw [h]
    · rfl
  cases hw : s.isWarned z dir o with
  | true =>
    rw [State.startIn_warned hw]
    exact (hlast ((State.HandsTo.placeWarns (K := (· = k)) z _).trans (.rederive z))).trans (htaken _ rfl)
  | false =>
    rw [State.startIn_active hw]
    exact (hlast ((State.HandsTo.rederive (K := (· = k)) z).trans (.enterActive rfl))).trans (htaken _ rfl)

/-- A sweep that starts with a pending door does not finish at once (R73). -/
theorem State.startSweep_eq_startIn (hw : s.isWarned z dir o = false) (ho : ∀ j v, j ≠ k → s.slot j = some v → v.zone ≠ z)
    (hb : dir = .lock → ¬ s.Barred z) (hp : (s.walkCounts z dir).pending ≠ 0) :
    s.startSweep k z dir o = s.startIn k z dir o := by
  have hr : s.Ready ((s.taken k ⟨z, dir, o, .active, 0, Counts.zero⟩).rederive z) k ⟨z, dir, o, .active, 0, Counts.zero⟩ :=
    State.ready_taken ho hb
  refine State.finishIfDone_going ?_
  rw [State.startIn_active hw]
  exact hr.isFinished.trans (decide_eq_false hp)

end

/-! ### What a reversal leaves (R56, R60) -/

section
variable {s : State} {k : SlotNo} {w : Sweep} {dir : Direction} (hw : s.slot k = some w)
include hw

/-- The cancel leaves no sweep of the zone. -/
theorem State.SweepLaw.gone (hs : s.SweepLaw) : ¬ (s.cancelSweep k).HasSweep w.zone := by
  rintro ⟨j, hj⟩
  by_cases hjk : j = k
  · rw [hjk, State.slot_cancelSweep] at hj
    cases hj
  · rw [State.slot_cancelSweep_ne s hjk] at hj
    obtain ⟨v, hv, hvz⟩ := Option.map_eq_some_iff.mp hj
    exact hjk (hs.1 j k v hv w hw hvz)

theorem State.SweepLaw.others_gone (hs : s.SweepLaw) (j : SlotNo) (v : Sweep) (_ : j ≠ k) (hv : (s.cancelSweep k).slot j = some v) :
    v.zone ≠ w.zone := fun h => hs.gone hw ⟨j, by rw [hv, ← h]; rfl⟩

theorem State.cancelled_tells : (s.cancelSweep k).noticeSet.Tells s.clock.stamp .sweepDone (.zone w.zone)
    (.sweepDone w.direction w.origin true w.total w.counts) := by
  rw [(State.cancelled hw).notices]
  exact .raised _ _ _ _ _

/-- A giving of the opposite direction is a reversal (R56). -/
theorem State.give_reversed (hs : s.SweepLaw) (hb : dir = .lock → ¬ s.Barred w.zone) (hd : w.direction ≠ dir) (o : Origin) :
    s.give w.zone dir o = ((s.cancelSweep k).startSweep k w.zone dir o, .reversed) := by
  rw [State.give_eq hb, State.sweepOf_eq_some hs hw]
  exact if_neg hd

/-- A reversal that walks at once (R60, R65). -/
theorem State.reversal_walked (hs : s.SweepLaw) (hl : s.later = s) (hb : dir = .lock → ¬ s.Barred w.zone)
    (hlead : dir = .release ∨ (s.zone w.zone).lead = 0) (a b : Option Answer) :
    let t := (s.cancelSweep k).startSweep k w.zone dir .link
    ∃ c, exec (.cancel (oneZone w.zone)) (s.unmarked a) = .next c ∧ (c.zone w.zone).last = some w.direction ∧
      c.noticeSet.Tells s.clock.stamp .sweepDone (.zone w.zone) (.sweepDone w.direction w.origin true w.total w.counts) ∧
      (w.phase = .active → ∀ d, (c.door d).sweep.map SweepLink.slot ≠ some k) ∧
      c.WalkedTo (t.withResult b) w.zone dir .link k ∧
      if (c.walkCounts w.zone dir).pending = 0 then t.slot k = none → ∀ y, (t.zone y).marker = none
      else t.noticeSet = c.noticeSet ∧ (t.zone w.zone).last = some w.direction ∧ ∀ y, (t.zone y).marker = (s.zone y).marker := by
  obtain ⟨r, hexec⟩ := State.exec_cancel_unmarked hs hl hw a
  have hc := State.cancelled hw
  have hwork : Work s (s.cancelSweep k) := hc.work
  have hother := hs.others_gone hw
  have htells := State.cancelled_tells hw
  have hunlinked := State.unlinked_cancelSweep hw
  have hmarks := hc.markers
  have hlast := hc.last
  have hbar : dir = .lock → ¬ (s.cancelSweep k).Barred w.zone := fun h g => hb h ((hwork.barred _).mp g)
  have hwarn : (s.cancelSweep k).isWarned w.zone dir .link = false :=
    State.not_isWarned (hlead.imp id fun h => (hwork.lead_eq _).trans h) _
  have hnone := hs.2 k w hw
  generalize s.cancelSweep k = c at *
  refine ⟨_, hexec, by rw [State.zone_unmarked]; exact hlast, htells, fun hp d hd => ?_, ?_, ?_⟩
  · have hlink : c.linkSlot d = some k := hd
    rw [hunlinked hp d] at hlink
    split at hlink
    · cases hlink
    · next h => exact h hlink
  · exact (State.walkedTo_startSweep hwarn hother hbar).withZones fun y => by
      rw [Vector.getElem_map]
      exact ⟨rfl, rfl, rfl, rfl, rfl⟩
  · have hcounts : (c.unmarked (some r)).walkCounts w.zone dir = c.walkCounts w.zone dir := rfl
    rw [hcounts]
    split
    · exact fun hfree => State.startSweep_idle hbar hfree
    · next hp =>
      refine ⟨(State.startSweep_going hwarn hother hbar hp).1, ?_, fun y => ?_⟩
      · rw [State.startSweep_eq_startIn hwarn hother hbar hp, State.last_startIn]
        exact hlast
      · rw [State.startSweep_eq_startIn hwarn hother hbar hp, State.marker_startIn, hmarks]
        split
        · next h => rw [h, hnone]
        · rfl

/-- A reversal that stands in WARNING (R60, R62). -/
theorem State.reversal_warned (hs : s.SweepLaw) (hb : ¬ s.Barred w.zone) (hlead : (s.zone w.zone).lead ≠ 0) :
    let t := (s.cancelSweep k).startSweep k w.zone .lock .link
    t.slots = s.slots.set k.val (some ⟨w.zone, .lock, .link, .warning ⟨(s.zone w.zone).lead, false⟩, 0, Counts.zero⟩) ∧
    (t.zone w.zone).last = some w.direction ∧ (t.zone w.zone).state = .warning ∧
    (∀ y, (t.zone y).marker = (s.zone y).marker) ∧ (∀ d, t.door d = (s.cancelSweep k).door d) ∧
    t.noticeSet = (s.cancelSweep k).noticeSet := by
  have hc := State.cancelled hw
  have hwork : Work s (s.cancelSweep k) := hc.work
  have hslots : ∀ j, j ≠ k → (s.cancelSweep k).slot j = s.slot j := fun j hj => State.slot_cancelSweep_ne s hj
  have hleads := hwork.lead_eq w.zone
  have hrest := State.startSweep_warned_rest (k := k) (State.isWarned_link (hleads ▸ hlead))
    (fun h => hb ((hwork.barred _).mp h)) (hs.gone hw)
  have hmarks := hc.markers
  have hlast := hc.last
  have hnone := hs.2 k w hw
  rw [hleads] at hrest
  generalize s.cancelSweep k = c at *
  dsimp only
  generalize c.startSweep k w.zone .lock .link = t at *
  have hzone : ∀ y, t.zone y = if y = w.zone then { c.zone w.zone with marker := none, state := .warning } else c.zone y :=
    fun y => by
      rw [hrest]
      exact State.zone_updZone c w.zone y (fun x => { x with marker := none, state := .warning })
  have hslot : ∀ j, t.slot j = if j = k then some ⟨w.zone, .lock, .link, .warning ⟨(s.zone w.zone).lead, false⟩, 0, Counts.zero⟩
      else c.slot j := fun j => by
    rw [hrest]
    exact State.slot_setSlot ..
  refine ⟨State.slots_eq_set (by rw [hslot, if_pos rfl]) fun j hj => by rw [hslot, if_neg hj, hslots j hj],
    by rw [hzone, if_pos rfl]; exact hlast, by rw [hzone, if_pos rfl], fun y => ?_, fun d => by rw [hrest]; rfl,
    by rw [hrest]⟩
  rw [hzone]
  split
  · next h => rw [h, hnone]
  · exact hmarks y

/-- With no zone waiting and no lower slot free, a reversal is a CANCEL and a SWEEP (R60). -/
theorem State.reversal_in_two {b : Byte} (hs : s.SweepLaw) (hb : dir = .lock → ¬ s.Barred w.zone) (hd : directionOfByte b = some dir)
    (hm : ∀ y, (s.zone y).marker = none) (hlow : ∀ j, j < k → s.slot j ≠ none) :
    ∃ c, exec (.cancel (oneZone w.zone)) s = .next c ∧ exec (.sweep (oneZone w.zone) b) c =
      .next (((s.later.cancelSweep k).startSweep k w.zone dir .link).withResult (some (sweepAnswer [(w.zone, .started)]))) := by
  obtain ⟨a, ha⟩ := exec_cancel_oneZone hs hw hm
  have hw' : s.later.slot k = some w := hw
  have hwork : Work s.later (s.later.cancelSweep k) := (State.cancelled hw').work
  have hlater := hwork.later_withResult (some a)
  have hgone : ¬ (s.later.cancelSweep k).HasSweep w.zone := State.SweepLaw.gone hw' hs
  have hfree := s.later.slot_cancelSweep k
  have hslots : ∀ j, j < k → (s.later.cancelSweep k).slot j ≠ none := fun j hj => by
    rw [State.slot_cancelSweep_ne _ hj.ne]
    exact hlow j hj
  have hbar : dir = .lock → ¬ (s.later.cancelSweep k).Barred w.zone := fun h g => hb h ((hwork.barred _).mp g)
  generalize s.later.cancelSweep k = c at *
  refine ⟨_, ha, ?_⟩
  have hsweep := exec_sweep_oneZone (s := c.withResult (some a)) hd hbar
  rw [hlater, State.give_withResult, State.give_started hbar hgone hfree hslots] at hsweep
  exact hsweep

end

/-- A giving of the direction that a zone's sweep does not have. -/
theorem opposite_giving {s : State} {k : SlotNo} {w : Sweep} {dir : Direction} {way : Byte} (hw : s.slot k = some w) (hs : s.SweepLaw)
    (hdir : w.direction ≠ dir) (hway : directionOfByte way = some dir) (hb : dir = .lock → ¬ s.Barred w.zone) :
    ∃ t, exec (.sweep (oneZone w.zone) way) s = .next t ∧
      t.blockResult = some ⟨.ok, List.replicate 4 0 ++ zoneSetBytes (oneZone w.zone) ++ List.replicate 8 0⟩ ∧
      (∀ j, j ≠ k → t.slot j = s.slot j) ∧
      (dir = .release ∨ (s.zone w.zone).lead = 0 → ∃ c,
        exec (.cancel (oneZone w.zone)) { s with zones := s.zones.map (fun x => { x with marker := none }) } = .next c ∧
        (c.zone w.zone).last = some w.direction ∧
        c.noticeSet.Tells s.clock.stamp .sweepDone (.zone w.zone) (.sweepDone w.direction w.origin true w.total w.counts) ∧
        (w.phase = .active → ∀ d, (c.door d).sweep.map SweepLink.slot ≠ some k) ∧
        c.WalkedTo t w.zone dir .link k ∧
        if (c.walkCounts w.zone dir).pending = 0 then t.slot k = none → ∀ y, (t.zone y).marker = none
        else t.noticeSet = c.noticeSet ∧ (t.zone w.zone).last = some w.direction ∧
          ∀ y, (t.zone y).marker = (s.zone y).marker) ∧
      (dir = .lock → (s.zone w.zone).lead ≠ 0 →
        t.slots = s.slots.set k.val (some ⟨w.zone, .lock, .link, .warning ⟨(s.zone w.zone).lead, false⟩, 0,
          ⟨0, 0, 0, 0, 0, 0⟩⟩) ∧
        (t.zone w.zone).last = some w.direction ∧ (t.zone w.zone).state = .warning ∧
        (∀ y, (t.zone y).marker = (s.zone y).marker) ∧
        (∀ d, t.door d = s.door d ∨ (s.door d).sweep.map SweepLink.slot = some k ∨ t.door d = { s.door d with
          state := .acting, passage := none, allowance := none, reminder := none }) ∧
        (∀ d, w.phase = .active → (s.door d).configured = true → (s.door d).sweep.map SweepLink.slot = some k →
          (t.door d).sweep = none) ∧
        t.noticeSet.Tells s.clock.stamp .sweepDone (.zone w.zone) (.sweepDone w.direction w.origin true w.total w.counts)) ∧
      ((∀ y, (s.zone y).marker = none) → (∀ j, j < k → s.slot j ≠ none) →
        ∃ c, exec (.cancel (oneZone w.zone)) s = .next c ∧ exec (.sweep (oneZone w.zone) way) c = .next { t with
          blockResult := some ⟨.ok, zoneSetBytes (oneZone w.zone) ++ List.replicate 12 0⟩ }) := by
  have hw' : s.later.slot k = some w := hw
  have hexec := exec_sweep_oneZone (s := s) hway hb
  rw [State.give_reversed hw' hs hb hdir] at hexec
  dsimp only at hexec
  rw [sweepAnswer_reversed] at hexec
  have hwalked := State.reversal_walked hw' hs rfl hb
  have hwarned := State.reversal_warned hw' hs
  have htwo := State.reversal_in_two hw hs hb hway
  have hslots : ∀ j, j ≠ k → ((s.later.cancelSweep k).startSweep k w.zone dir .link).slot j = s.slot j := fun j hj =>
    (State.slot_startSweep_ne _ hj).trans (State.slot_cancelSweep_ne _ hj)
  have hgranted := fun d (hd : s.later.linkSlot d ≠ some k) => State.grantedAt_cancelSweep hw' hd
  have hunlinked := State.unlinked_cancelSweep hw'
  have htells := State.cancelled_tells hw'
  refine ⟨_, hexec, rfl, hslots, fun hlead => ?walked, fun hlock hlead => ?warned, fun hm hlow => ?two⟩
  case walked => exact hwalked hlead s.blockResult _
  case warned =>
    subst hlock
    obtain ⟨h1, h2, h3, h4, h5, h6⟩ := hwarned (hb rfl) hlead
    generalize (s.later.cancelSweep k).startSweep k w.zone .lock .link = t at *
    generalize s.later.cancelSweep k = c at *
    refine ⟨h1, h2, h3, h4, fun d => ?_, fun d hp _ hl => ?_, h6 ▸ htells⟩
    · by_cases hd : s.later.linkSlot d = some k
      · exact .inr (.inl hd)
      · rcases hgranted d hd with h | h
        · exact .inl ((h5 d).trans h)
        · exact .inr (.inr ((h5 d).trans h))
    · refine State.linkSlot_none.mp ?_
      exact (congrArg (fun x : Door => x.sweep.map SweepLink.slot) (h5 d)).trans ((hunlinked hp d).trans (if_pos hl))
  case two =>
    obtain ⟨c, hc, ht⟩ := htwo hm hlow
    rw [sweepAnswer_started] at ht
    exact ⟨c, hc, ht⟩

/-- Settles O26: the reply and the other slots, the walk from what a CANCEL leaves, the warned start, and the reversal as
a CANCEL and a SWEEP. -/
theorem oppositeGivingReversesTheZone : Obligations.OppositeGivingReversesTheZone := by
  intro s k w hw hs
  obtain ⟨z, dir, o, p, n, c⟩ := w
  cases dir with
  | lock => exact opposite_giving hw hs nofun rfl
  | release => exact opposite_giving hw hs nofun rfl

end Sys2Proof.Machine




namespace Sys2Proof.Machine

/-! ### What the work on one door makes of its sweep (R68, R69) -/

/-- The Sweep Table and the door's link stand, or have followed one change of the door's state. -/
def State.Followed (s q : State) (d : DoorNo) : Prop :=
  (q.slots = s.slots ∧ (q.door d).sweep = (s.door d).sweep) ∨ ∃ st, s.SweepFollows q d st

section
variable {s p q t : State} {d : DoorNo} {st : DoorState}

theorem State.Followed.of_same (hs : q.slots = s.slots) (hl : (q.door d).sweep = (s.door d).sweep) : s.Followed q d :=
  .inl ⟨hs, hl⟩

theorem State.Followed.before (h : p.Followed q d) (hs : p.slots = s.slots) (hl : (p.door d).sweep = (s.door d).sweep) :
    s.Followed q d := by
  rcases h with ⟨h1, h2⟩ | ⟨st, h⟩
  · exact .inl ⟨h1.trans hs, h2.trans hl⟩
  · exact .inr ⟨st, h.congr hs hl⟩

theorem State.Followed.after (h : s.Followed q d) (hs : t.slots = q.slots) (hl : (t.door d).sweep = (q.door d).sweep) :
    s.Followed t d := by
  rcases h with ⟨h1, h2⟩ | ⟨st, h1, h2⟩
  · exact .inl ⟨hs.trans h1, hl.trans h2⟩
  · exact .inr ⟨st, hs.trans h1, hl.trans h2⟩

theorem State.Followed.changeState (s : State) (d : DoorNo) (st : DoorState) : s.Followed (s.changeState d st) d := by
  by_cases h : (s.door d).state = st
  · rw [State.changeState_same h]
    exact .of_same rfl rfl
  · exact .inr ⟨st, State.changeState_follows h⟩

/-- Grants move no count. -/
theorem State.Followed.consider (h : s.Followed q d) (u : Trunk) : s.Followed (q.consider u) d :=
  h.after (State.slots_congr fun j => (State.HandsTo.consider (K := fun _ => False) (s := q) u).slots j id)
    (Moves.marks_outside (A := Touch.nothing) (d := d) (.consider u) id).2.2.1

/-- A door without a link keeps the Sweep Table. -/
theorem State.Followed.unlinked (h : s.Followed q d) (hl : (s.door d).sweep = none) :
    q.slots = s.slots ∧ (q.door d).sweep = none := by
  rcases h with ⟨h1, h2⟩ | ⟨st, h1, h2⟩
  · exact ⟨h1, h2.trans hl⟩
  · rw [State.countedAs_unlinked hl] at h1 h2
    exact ⟨h1, h2.trans hl⟩

/-- A linked door has its count, or the one a table of R68 or R69 moves it to. -/
theorem State.Followed.linked (h : s.Followed q d) {l : SweepLink} {w : Sweep} (hl : (s.door d).sweep = some l)
    (hw : s.slot l.slot = some w) : ∃ c, (c = l.count ∨ ∃ st, c = countTable w.direction l.count st) ∧
      (q.door d).sweep = some ⟨l.slot, c⟩ ∧ q.slot l.slot = some { w with counts := w.counts.move l.count c } := by
  rcases h with ⟨h1, h2⟩ | ⟨st, h1, h2⟩
  · have hmove : w.counts.move l.count l.count = w.counts := if_pos rfl
    exact ⟨l.count, .inl rfl, h2.trans hl, by rw [hmove]; exact (congrArg (·[l.slot.val]) h1).trans hw⟩
  · obtain ⟨hlink, hslot⟩ := State.countedAs_linked hl hw st
    exact ⟨_, .inr ⟨st, rfl⟩, h2.trans hlink, (congrArg (·[l.slot.val]) h1).trans hslot⟩

/-! ### A change of state in the fields that no sweep writes -/

theorem State.unlinked_changeState (s : State) (d : DoorNo) (st : DoorState) : ((s.changeState d st).door d).unlinked =
    (if (s.door d).state = st then s.door d else Door.enter st (s.door d)).unlinked := by
  obtain ⟨o, ho⟩ := State.door_changeState_self d s st
  rw [ho]
  split <;> rfl

theorem State.unreached_changeState (s : State) (d : DoorNo) (st : DoorState) :
    ((s.changeState d st).door d).unreached = (s.door d).unreached := by
  obtain ⟨o, ho⟩ := State.door_changeState_self d s st
  rw [ho]
  split <;> rfl

theorem State.unreached_consider (s : State) (d : DoorNo) (u : Trunk) :
    ((s.consider u).door d).unreached = (s.door d).unreached :=
  (Moves.marks_outside (A := Touch.nothing) (d := d) (.consider u) id).2.2.2

theorem State.spared_consider (h : s.WorkAt d) (u : Trunk) : s.Spared (s.consider u) d :=
  Moves.spared (A := Touch.nothing) (.consider u) id h

end

/-! ### A withdrawn entry (R78, R125) -/

section
variable {s : State} {d : DoorNo}

/-- The door whose entry is withdrawn, before the arbiter is considered. -/
def State.withdrawn (s : State) (d : DoorNo) : State := ((s.dropEntry d).restate d).updDoor d Door.noIntent

theorem State.withdrawEntry_eq (s : State) (d : DoorNo) :
    s.withdrawEntry d = (s.withdrawn d).consider ((s.withdrawn d).door d).trunk := rfl

theorem State.door_withdrawn (s : State) (d : DoorNo) : ((s.withdrawn d).door d).unlinked =
    (if (s.door d).state = restatedState (s.door d).bolt (s.door d).position then s.door d
      else Door.enter (restatedState (s.door d).bolt (s.door d).position) (s.door d)).clearTimers.noIntent.unlinked := by
  obtain ⟨o, ho⟩ := State.door_changeState_self d (s.dropEntry d)
    (restatedState ((s.dropEntry d).door d).bolt ((s.dropEntry d).door d).position)
  have hdrop : (s.dropEntry d).door d = s.door d := rfl
  rw [State.withdrawn, State.door_updDoor, if_pos rfl, State.restate, State.door_updDoor, if_pos rfl, ho, hdrop]
  split <;> rfl

theorem State.followed_withdrawEntry (s : State) (d : DoorNo) : s.Followed (s.withdrawEntry d) d := by
  have hchange := State.Followed.changeState (s.dropEntry d) d
    (restatedState ((s.dropEntry d).door d).bolt ((s.dropEntry d).door d).position)
  have hfollowed : (s.dropEntry d).Followed (s.withdrawn d) d := hchange.after rfl (by
    rw [State.withdrawn, State.door_updDoor, if_pos rfl, State.restate, State.door_updDoor, if_pos rfl]
    rfl)
  exact (State.Followed.before (s := s) hfollowed rfl rfl).consider _

theorem State.unreached_withdrawEntry (s : State) (d : DoorNo) :
    ((s.withdrawEntry d).door d).unreached = (s.door d).unreached := by
  rw [State.withdrawEntry_eq, State.unreached_consider, State.withdrawn, State.door_updDoor, if_pos rfl, State.restate,
    State.door_updDoor, if_pos rfl]
  exact State.unreached_changeState (s.dropEntry d) d _

/-- A withdrawn door stands as it is re-stated, without intent and timers, and has no entry. -/
theorem State.withdrawEntry_spec (hw : s.WorkAt d) (hs : (s.door d).state = .waiting) :
    ((s.withdrawEntry d).door d).unlinked = { s.door d with
      state := restatedState (s.door d).bolt (s.door d).position, intent := .none, keepOpen := false
      passage := none, allowance := none, reminder := none }.unlinked ∧ (s.withdrawEntry d).entry d = none := by
  have hdoor := s.door_withdrawn d
  rw [if_neg (by rw [hs]; exact (restatedState_ne_waiting _ _).symm)] at hdoor
  have hmoves : Moves Touch.all s (s.withdrawn d) :=
    ((Moves.leave trivial hs (restatedState_plain _ _)).trans
      (Moves.clearRestated trivial (s.dropEntry d) _ (restatedState_plain _ _))).trans (.door trivial (by intros; rfl))
  have hstate : ((s.withdrawn d).door d).state = restatedState (s.door d).bolt (s.door d).position := by
    have := congrArg Door.state hdoor
    exact this
  have hne : ((s.withdrawn d).door d).state ≠ .waiting := hstate ▸ restatedState_ne_waiting _ _
  have hwork := hmoves.workAt hw
  obtain ⟨hstands, he, -⟩ := (State.spared_consider hwork ((s.withdrawn d).door d).trunk).butLink.stands_of_ne hne
  rw [State.withdrawEntry_eq]
  exact ⟨hstands.trans hdoor, he.trans (hwork.no_entry hne)⟩

/-! ### The beginning of a DEFER hold on a door (R125) -/

theorem State.noIntent_spec (s : State) (d : DoorNo) : (s.updDoor d Door.noIntent).door d = (s.door d).noIntent := by
  rw [State.door_updDoor, if_pos rfl]

/-- What a DEFER hold makes of a door AJAR or FORCED. -/
def State.deferOpen (s : State) (d : DoorNo) : State :=
  let q := s.updDoor d Door.noIntent
  if (q.door d).bolt = .withdrawn then q.changeState d .released else q.updDoor d (fun x => { x with reminder := none })

theorem State.deferOpen_spec (hs : (s.door d).state ≠ .released) : ((s.deferOpen d).door d).unlinked =
      (if (s.door d).bolt = Bolt.withdrawn then (Door.enter .released (s.door d).noIntent).unlinked
        else { (s.door d).noIntent with reminder := none }.unlinked) ∧
    s.Followed (s.deferOpen d) d ∧ ((s.deferOpen d).door d).unreached = (s.door d).unreached := by
  have hq := s.noIntent_spec d
  have hbolt : ((s.updDoor d Door.noIntent).door d).bolt = (s.door d).bolt := by rw [hq]; rfl
  have hlink : ((s.updDoor d Door.noIntent).door d).sweep = (s.door d).sweep := by rw [hq]; rfl
  unfold State.deferOpen
  dsimp only
  rw [hbolt]
  by_cases hb : (s.door d).bolt = .withdrawn
  · have hdoor := State.unlinked_changeState (s.updDoor d Door.noIntent) d .released
    have hreach := State.unreached_changeState (s.updDoor d Door.noIntent) d .released
    have hne : (s.door d).noIntent.state ≠ .released := hs
    rw [hq, if_neg hne] at hdoor
    rw [hq] at hreach
    rw [if_pos hb, if_pos hb]
    exact ⟨hdoor, State.Followed.before (s := s) (.changeState _ _ _) rfl hlink, hreach⟩
  · have hdoor : ((s.updDoor d Door.noIntent).updDoor d fun x => { x with reminder := none }).door d =
        { (s.door d).noIntent with reminder := none } := by rw [State.door_updDoor, if_pos rfl, hq]
    rw [if_neg hb, if_neg hb]
    exact ⟨by rw [hdoor], .of_same rfl (by rw [hdoor]; rfl), by rw [hdoor]; rfl⟩

/-- What the beginning of a DEFER hold makes of a door, its link aside (R125). -/
def State.Deferred (s q : State) (d : DoorNo) : Prop :=
  let x := s.door d
  let y := q.door d
  match x.state with
  | .waiting =>
    if (s.entry d).any (fun e => decide (e.direction = .lock)) = true then
      y.unlinked = { x with
        state := restatedState x.bolt x.position, intent := .none, keepOpen := false
        passage := none, allowance := none, reminder := none }.unlinked ∧ q.entry d = none
    else y.unlinked = x.unlinked
  | .acting =>
    y.unlinked = (if (s.record d).any (fun r => decide (r.direction = .lock)) = true ∧ x.intent = .lock then
      x.noIntent.unlinked else x.unlinked) ∧ q.record d = s.record d
  | .ajar | .forced => y.unlinked = (if x.bolt = .withdrawn then (Door.enter .released x.noIntent).unlinked
      else { x.noIntent with reminder := none }.unlinked)
  | .secured | .passage | .released | .jammed | .unknown => y.unlinked = x.unlinked

theorem State.deferOn_spec (hw : s.WorkAt d) : s.Deferred (s.deferOn d) d ∧ s.Followed (s.deferOn d) d ∧
    ((s.deferOn d).door d).unreached = (s.door d).unreached := by
  have hsame : s.Followed s d := .of_same rfl rfl
  have hopen : (s.door d).state = .ajar ∨ (s.door d).state = .forced → s.deferOn d = s.deferOpen d := fun h => by
    unfold State.deferOn
    rcases h with h | h <;> rw [h] <;> rfl
  unfold State.Deferred
  dsimp only
  cases hs : (s.door d).state with
  | waiting =>
    have heq : s.deferOn d = if (s.entry d).any (fun e => decide (e.direction = .lock)) = true then s.withdrawEntry d else s := by
      unfold State.deferOn
      rw [hs]
      cases he : s.entry d with
      | none => rfl
      | some e => simp
    by_cases h : (s.entry d).any (fun e => decide (e.direction = .lock)) = true
    · rw [heq.trans (if_pos h)]
      exact ⟨(if_pos h).mpr (State.withdrawEntry_spec hw hs), State.followed_withdrawEntry s d, State.unreached_withdrawEntry s d⟩
    · rw [heq.trans (if_neg h)]
      exact ⟨(if_neg h).mpr rfl, hsame, rfl⟩
  | acting =>
    have heq : s.deferOn d = if (s.record d).any (fun r => decide (r.direction = .lock)) = true ∧ (s.door d).intent = .lock then
        s.updDoor d Door.noIntent else s := by
      unfold State.deferOn
      rw [hs]
      cases he : s.record d with
      | none => simp
      | some e => simp
    by_cases h : (s.record d).any (fun r => decide (r.direction = .lock)) = true ∧ (s.door d).intent = .lock
    · rw [heq.trans (if_pos h)]
      have hq := s.noIntent_spec d
      refine ⟨⟨by rw [if_pos h, hq], ?_⟩, .of_same rfl (by rw [hq]; rfl), by rw [hq]; rfl⟩
      rw [State.record, hq]
      rfl
    · rw [heq.trans (if_neg h)]
      exact ⟨⟨by rw [if_neg h], rfl⟩, hsame, rfl⟩
  | ajar =>
    rw [hopen (.inl hs)]
    exact State.deferOpen_spec (by rw [hs]; decide)
  | forced =>
    rw [hopen (.inr hs)]
    exact State.deferOpen_spec (by rw [hs]; decide)
  | _ =>
    have heq : s.deferOn d = s := by
      unfold State.deferOn
      rw [hs]
    rw [heq]
    exact ⟨rfl, hsame, rfl⟩

end

end Sys2Proof.Machine




namespace Sys2Proof.Machine

/-! ### A RELEASE placement on a door (R5, R31, R32) -/

/-- What a RELEASE placement of a class makes of a door: a drive runs on with its record raised by an URGENT one, a WAITING
door has its entry turned, and any other has a new entry, or its grant. -/
def State.PlacedRelease (s q : State) (d : DoorNo) (c : QueueClass) : Prop :=
  match (s.door d).state with
  | .acting => (q.door d).state = .acting ∧ q.record d = (s.record d).map (fun r =>
      if c = .urgent ∧ r.direction = .release then { r with cls := .urgent } else r)
  | .waiting => (q.door d).attempts = 0 ∧ q.hasWork d .release
      (if c = .urgent ∨ (s.entry d).any (fun e => decide (e.cls = .urgent)) = true then .urgent else .routine)
  | _ => (q.door d).attempts = 0 ∧ q.hasWork d .release c

/-- What work on a door keeps while it hands the door's count on: the marks and the sweep's following of it. -/
structure State.Kept (s q : State) (d : DoorNo) : Prop where
  intent : (q.door d).intent = (s.door d).intent
  keepOpen : (q.door d).keepOpen = (s.door d).keepOpen
  unreached : (q.door d).unreached = (s.door d).unreached
  followed : s.Followed q d

section
variable {s p q : State} {d : DoorNo} {c : QueueClass}

theorem State.Kept.considered (h : s.Kept p d) (u : Trunk) : s.Kept (p.consider u) d := by
  obtain ⟨hi, hk, hr, hf⟩ := h
  obtain ⟨h1, h2, -, h3⟩ := Moves.marks_outside (A := Touch.nothing) (d := d) (.consider (s := p) u) id
  exact ⟨h1.trans hi, h2.trans hk, h3.trans hr, hf.consider u⟩

theorem State.Kept.changeState (s : State) (d : DoorNo) (st : DoorState) : s.Kept (s.changeState d st) d := by
  obtain ⟨o, ho⟩ := State.door_changeState_self d s st
  refine ⟨?_, ?_, s.unreached_changeState d st, .changeState s d st⟩
  all_goals
    rw [ho]
    split <;> rfl

theorem State.Kept.before (h : p.Kept q d) (hs : p.slots = s.slots) (hi : (p.door d).intent = (s.door d).intent)
    (hk : (p.door d).keepOpen = (s.door d).keepOpen) (hl : (p.door d).sweep = (s.door d).sweep)
    (hr : (p.door d).unreached = (s.door d).unreached) : s.Kept q d :=
  ⟨h.intent.trans hi, h.keepOpen.trans hk, h.unreached.trans hr, h.followed.before hs hl⟩

/-- The entry of a WAITING door that its class makes URGENT. -/
theorem raised_class {c : QueueClass} {e : Entry} :
    (if c = .urgent then QueueClass.urgent else e.cls) =
      if c = .urgent ∨ (some e).any (fun e => decide (e.cls = .urgent)) = true then .urgent else .routine := by
  cases c <;> cases h : e.cls <;> simp [h]

/-- The door as its new entry joins its queue. -/
def State.joined (s : State) (d : DoorNo) (dir : Direction) (c : QueueClass) : State :=
  (s.updTrunk (s.door d).trunk (fun x => { x with queue := joinTail ⟨d, dir, c⟩ x.queue })).updDoor d
    (fun x => { x.clearTimers with attempts := 0 })

theorem State.addEntry_eq (s : State) (d : DoorNo) (dir : Direction) (c : QueueClass) :
    s.addEntry d dir c = (s.joined d dir c).changeState d .waiting := rfl

theorem State.door_joined (s : State) (d : DoorNo) (dir : Direction) (c : QueueClass) :
    (s.joined d dir c).door d = { (s.door d).clearTimers with attempts := 0 } := by
  rw [State.joined, State.door_updDoor, if_pos rfl]
  rfl

theorem State.kept_addEntry (s : State) (d : DoorNo) (dir : Direction) (c : QueueClass) : s.Kept (s.addEntry d dir c) d := by
  have h := State.Kept.changeState (s.joined d dir c) d .waiting
  have hd := s.door_joined d dir c
  rw [State.addEntry_eq]
  exact h.before rfl (by rw [hd]; rfl) (by rw [hd]; rfl) (by rw [hd]; rfl) (by rw [hd]; rfl)

theorem State.entry_addEntry (h : s.entriesOf (s.door d).trunk d = 0) (dir : Direction) :
    (s.addEntry d dir c).entry d = some ⟨d, dir, c⟩ := by
  have htrunk : ((s.addEntry d dir c).door d).trunk = (s.door d).trunk := (Work.addEntry d dir c).doorTrunk_eq d
  have hq : ((s.addEntry d dir c).trunk (s.door d).trunk).queue = joinTail ⟨d, dir, c⟩ (s.trunk (s.door d).trunk).queue := by
    rw [State.addEntry_eq, State.trunk_changeState, State.joined, State.trunk_updDoor, State.trunk_updTrunk, if_pos rfl]
  rw [State.entry, htrunk, hq]
  exact entryOf_joinTail_self (d := d) rfl h

theorem State.place_acting (hs : (s.door d).state = .acting) : s.place false d .release c = s.raiseRecord d .release c := by
  have hb : s.placementBlocked d .release = false := rfl
  unfold State.place
  rw [hb, hs]
  rfl

theorem State.place_waiting (hs : (s.door d).state = .waiting) :
    s.place false d .release c = (s.replacePlacement d .release c).consider (s.door d).trunk := by
  have hb : s.placementBlocked d .release = false := rfl
  unfold State.place
  rw [hb, hs]
  rfl

theorem State.place_busy (hs : (s.door d).state.busy = false) :
    s.place false d .release c = (s.addEntry d .release c).consider (s.door d).trunk := by
  have hb : s.placementBlocked d .release = false := rfl
  unfold State.place
  rw [hb]
  cases h : (s.door d).state with
  | waiting => rw [h] at hs; cases hs
  | acting => rw [h] at hs; cases hs
  | _ => rfl

/-- A drive runs on, its record raised by an URGENT placement of its direction (R32). -/
theorem State.raiseRecord_spec (s : State) (d : DoorNo) (c : QueueClass) : (s.raiseRecord d .release c).door d = s.door d ∧
    (s.raiseRecord d .release c).record d = (s.record d).map (fun r =>
      if c = .urgent ∧ r.direction = .release then { r with cls := .urgent } else r) := by
  have htrunk : (s.raiseRecord d .release c).trunk (s.door d).trunk =
      (s.trunk (s.door d).trunk).placed d .release c .acting := by
    rw [State.raiseRecord, State.trunk_updTrunk, if_pos rfl]
    rfl
  refine ⟨rfl, ?_⟩
  show recordOf d ((s.raiseRecord d .release c).trunk (s.door d).trunk).inFlight = _
  rw [htrunk]
  exact recordOf_placed_acting _

/-- A WAITING door keeps its place in the work, with its entry turned (R31). -/
theorem State.replacePlacement_spec (s : State) (d : DoorNo) (c : QueueClass) :
    (s.replacePlacement d .release c).door d = { s.door d with attempts := 0 } ∧
    ∀ e, s.entry d = some e → (s.replacePlacement d .release c).entry d =
      some ⟨d, .release, if c = .urgent then .urgent else e.cls⟩ := by
  have hdoor : (s.replacePlacement d .release c).door d = { s.door d with attempts := 0 } := by
    rw [State.replacePlacement, State.door_updDoor, if_pos rfl]
    rfl
  refine ⟨hdoor, fun e he => ?_⟩
  rw [State.entry, hdoor, State.queue_replacePlacement, if_pos rfl]
  exact entryOf_replaceEntry_self he

theorem State.WorkAt.has_entry (hw : s.WorkAt d) (hs : (s.door d).state = .waiting) : ∃ e, s.entry d = some e := by
  rw [← Option.ne_none_iff_exists']
  intro h
  have hnone : s.entriesOf (s.door d).trunk d = 0 := entryOf_eq_none.mp h
  rw [(hw.waiting hs _).1, if_pos rfl] at hnone
  cases hnone

/-- A RELEASE placement, by the state of its door. -/
theorem State.place_release (hw : s.WorkAt d) (c : QueueClass) : s.PlacedRelease (s.place false d .release c) d c ∧
    s.Kept (s.place false d .release c) d := by
  have hidle : (s.door d).state.busy = false → (((s.place false d .release c).door d).attempts = 0 ∧
      (s.place false d .release c).hasWork d .release c) ∧ s.Kept (s.place false d .release c) d := fun hb => by
    have hadd : (s.addEntry d .release c).WorkAt d := (Moves.addEntry (A := Touch.all) (dir := .release) trivial c nofun hb).workAt hw
    have hstate : ((s.addEntry d .release c).door d).state = .waiting := State.state_changeState _ _ _
    have hatt : ((s.addEntry d .release c).door d).attempts = 0 := by
      rw [State.addEntry_eq, State.attempts_changeState, State.door_joined]
    have hspared := (State.spared_consider hadd (s.door d).trunk).butLink
    rw [State.place_busy hb]
    exact ⟨⟨hspared.attempts.trans hatt, hspared.hasWork hstate (State.entry_addEntry (hw.idle hb _).1 .release)⟩,
      (s.kept_addEntry d .release c).considered _⟩
  unfold State.PlacedRelease
  cases hs : (s.door d).state with
  | waiting =>
    obtain ⟨hdoor, hentry⟩ := s.replacePlacement_spec d c
    obtain ⟨e, he⟩ := hw.has_entry hs
    have hturned : (s.replacePlacement d .release c).WorkAt d := hw.turn d .release c
    have hspared := (State.spared_consider hturned (s.door d).trunk).butLink
    have hkept : s.Kept (s.replacePlacement d .release c) d :=
      ⟨by rw [hdoor], by rw [hdoor], by rw [hdoor], .of_same rfl (by rw [hdoor])⟩
    have hwork := hspared.hasWork (by rw [hdoor]; exact hs) (hentry e he)
    rw [raised_class] at hwork
    rw [State.place_waiting hs, he]
    exact ⟨⟨hspared.attempts.trans (by rw [hdoor]), hwork⟩, hkept.considered _⟩
  | acting =>
    obtain ⟨hdoor, hrecord⟩ := s.raiseRecord_spec d c
    rw [State.place_acting hs]
    exact ⟨⟨by rw [hdoor]; exact hs, hrecord⟩, by rw [hdoor], by rw [hdoor], by rw [hdoor], .of_same rfl (by rw [hdoor])⟩
  | _ => exact hidle (by rw [hs]; rfl)

/-! ### The beginning of a KEEP_OPEN hold on a door (R126) -/

/-- The door wanted open by a hold. -/
def State.wantOpen (s : State) (d : DoorNo) : State := s.updDoor d (fun x => { x with intent := .release, keepOpen := true })

theorem State.door_wantOpen (s : State) (d : DoorNo) :
    (s.wantOpen d).door d = { s.door d with intent := .release, keepOpen := true } := by
  rw [State.wantOpen, State.door_updDoor, if_pos rfl]

/-- What the beginning of a KEEP_OPEN hold makes of a door, its link aside (R126). -/
def State.KeptOpen (s q : State) (d : DoorNo) (c : QueueClass) : Prop :=
  let x := s.door d
  let y := q.door d
  if x.state = .released ∨ (x.state = .unknown ∧ x.health ≠ .heard) then
    y.unlinked = { x with intent := .release, keepOpen := true }.unlinked
  else if x.state = .ajar ∧ x.bolt = .withdrawn then y.state = .released ∧ y.reminder = none
  else s.PlacedRelease q d c

theorem State.turnToRelease_eq (p : State) (d : DoorNo) : p.turnToRelease d =
    if (p.door d).state = .released ∨ ((p.door d).state = .unknown ∧ (p.door d).health ≠ .heard) then p
    else if (p.door d).state = .ajar ∧ (p.door d).bolt = .withdrawn then p.changeState d .released
    else p.place false d .release (p.releaseClass d) := by
  unfold State.turnToRelease State.placeRelease
  cases hs : (p.door d).state with
  | ajar => by_cases hb : (p.door d).bolt = .withdrawn <;> simp [hb]
  | unknown => by_cases hh : (p.door d).health = .heard <;> simp [hh]
  | _ => simp

theorem State.keepOpenOn_spec (hw : s.WorkAt d) : s.KeptOpen (s.keepOpenOn d) d (s.releaseClass d) ∧
    ((s.keepOpenOn d).door d).intent = .release ∧ ((s.keepOpenOn d).door d).keepOpen = true ∧
    ((s.keepOpenOn d).door d).unreached = (s.door d).unreached ∧ s.Followed (s.keepOpenOn d) d := by
  have hp := s.door_wantOpen d
  have hclass : (s.wantOpen d).releaseClass d = s.releaseClass d := by
    unfold State.releaseClass State.fireLockedOut
    rw [hp]
    rfl
  have hwp : (s.wantOpen d).WorkAt d := (Moves.one (A := Touch.all) (.door trivial (by intros; rfl))).workAt hw
  have heq : s.keepOpenOn d = (s.wantOpen d).turnToRelease d := rfl
  have hkept : ∀ q : State, (s.wantOpen d).Kept q d → (q.door d).intent = .release ∧ (q.door d).keepOpen = true ∧
      (q.door d).unreached = (s.door d).unreached ∧ s.Followed q d := fun q h => by
    refine ⟨h.intent.trans (by rw [hp]), h.keepOpen.trans (by rw [hp]), h.unreached.trans (by rw [hp]),
      h.followed.before rfl (by rw [hp])⟩
  rw [heq, State.turnToRelease_eq, hclass]
  unfold State.KeptOpen
  dsimp only
  have hst : ((s.wantOpen d).door d).state = (s.door d).state := by rw [hp]
  have hhealth : ((s.wantOpen d).door d).health = (s.door d).health := by rw [hp]
  have hbolt : ((s.wantOpen d).door d).bolt = (s.door d).bolt := by rw [hp]
  rw [hst, hhealth, hbolt]
  by_cases h1 : (s.door d).state = .released ∨ ((s.door d).state = .unknown ∧ (s.door d).health ≠ .heard)
  · rw [if_pos h1, if_pos h1]
    exact ⟨by rw [hp], hkept _ ⟨rfl, rfl, rfl, .of_same rfl rfl⟩⟩
  rw [if_neg h1, if_neg h1]
  by_cases h2 : (s.door d).state = .ajar ∧ (s.door d).bolt = .withdrawn
  · rw [if_pos h2, if_pos h2]
    have hne : ((s.wantOpen d).door d).state ≠ .released := by rw [hst, h2.1]; decide
    have hdoor := State.unlinked_changeState (s.wantOpen d) d .released
    rw [if_neg hne] at hdoor
    have hrem := congrArg Door.reminder hdoor
    exact ⟨⟨State.state_changeState _ _ _, hrem⟩, hkept _ (.changeState _ d _)⟩
  · rw [if_neg h2, if_neg h2]
    obtain ⟨hplaced, hk⟩ := State.place_release hwp (s.releaseClass d)
    refine ⟨?_, hkept _ hk⟩
    have hentry : (s.wantOpen d).entry d = s.entry d := by rw [State.entry, hp]; rfl
    have hrecord : (s.wantOpen d).record d = s.record d := by rw [State.record, hp]; rfl
    unfold State.PlacedRelease at hplaced ⊢
    rwa [hst, hentry, hrecord] at hplaced

end

end Sys2Proof.Machine




namespace Sys2Proof.Machine

/-! ### A hold that covers one door (R122 to R124) -/

section
variable {s q t : State} {d : DoorNo}

/-- The state with a hold at the end of its list. -/
def State.withHold (s : State) (h : Hold) : State := { s with holds := s.holds ++ [h], lastHoldId := h.id }

/-- A hold on one configured door begins on that door alone. -/
theorem State.addHold_door {h : Hold} (hs : h.scope = .door d) (hc : (s.door d).configured = true) :
    s.addHold h = (s.withHold h).beginOn h.kind d := by
  have hcovers : ∀ e, h.covers e (s.door e) = true ↔ (s.door e).configured = true ∧ e = d := fun e => by
    rw [Hold.covers, hs, Bool.and_eq_true, beq_iff_eq]
    exact and_congr_right fun _ => eq_comm
  have hdoors : (s.withHold h).coveredDoors h = [d] := by
    refine List.perm_singleton.mp ((List.perm_ext_iff_of_nodup ?_ (List.nodup_singleton d)).mpr fun e => ?_)
    · rw [State.coveredDoors, State.doorsWhere_eq]
      exact (List.nodup_finRange 256).filter _
    · rw [State.coveredDoors, State.mem_doorsWhere, List.mem_singleton]
      have hdoor : (s.withHold h).door e = s.door e := rfl
      rw [hdoor, hcovers]
      exact ⟨fun g => g.2.2, fun g => ⟨g ▸ hc, g ▸ hc, g⟩⟩
  show forEach ((s.withHold h).coveredDoors h) (State.beginOn h.kind) (s.withHold h) = _
  rw [hdoors]
  rfl

/-- HOLD_ADD on one configured door. -/
theorem exec_holdAdd_door {kind : HoldKind} {minutes : Word16} (hm : minutes.toNat ≤ 1439) (hn : s.holds.length < 16)
    (hc : (s.door d).configured = true) : ∃ h a, h.kind = kind ∧
      exec (.holdAdd (match kind with | .keepOpen => 0 | .defer => 1) 1 (BitVec.ofNat 32 d.val) minutes) s =
        .next (((s.later.withHold h).beginOn kind d).withResult a) := by
  have hkind : holdKindOfByte (match kind with | .keepOpen => 0 | .defer => 1) = some kind := by cases kind <;> rfl
  have hval : (BitVec.ofNat 32 d.val).toNat = d.val := by
    rw [BitVec.toNat_ofNat]
    exact Nat.mod_eq_of_lt (by have := d.isLt; omega)
  have hscope : s.later.scopeOf 1 (BitVec.ofNat 32 d.val) = some (.door d) := by
    have hlt : (BitVec.ofNat 32 d.val).toNat < 256 := by rw [hval]; exact d.isLt
    have hd : (⟨(BitVec.ofNat 32 d.val).toNat, hlt⟩ : DoorNo) = d := Fin.ext hval
    show (if h : (BitVec.ofNat 32 d.val).toNat < 256 then
      if (s.door ⟨(BitVec.ofNat 32 d.val).toNat, h⟩).configured then some (Scope.door ⟨(BitVec.ofNat 32 d.val).toNat, h⟩) else none
      else none) = _
    rw [dif_pos hlt, hd, if_pos hc]
  have hfull : s.later.holdsFull = false := decide_eq_false (Nat.not_le.mpr hn)
  let h := s.later.newHold kind (.door d) .link (if minutes = 0 then none else some (.start minutes.toNat))
  refine ⟨h, some (okWith [byte h.id]), rfl, ?_⟩
  have hexec : ∀ k, exec (.holdAdd k 1 (BitVec.ofNat 32 d.val) minutes) s =
      answered (takeHoldAdd k 1 (BitVec.ofNat 32 d.val) minutes) s := fun _ => rfl
  refine (hexec _).trans (answered_taken ?_)
  unfold takeHoldAdd
  rw [hkind, hscope]
  dsimp only
  rw [if_pos hm, hfull]
  have hadd : s.later.addHold h = (s.later.withHold h).beginOn kind d := State.addHold_door rfl hc
  exact congrArg (·, okWith [byte h.id]) hadd

/-! ### The count of a door that a hold begins on (R72, R124) -/

/-- A hold moves no more than the door's count. -/
theorem State.moveToHeld_or (s : State) (d : DoorNo) : s.moveToHeld d = s ∨ s.moveToHeld d = s.moveCount d .held := by
  unfold State.moveToHeld
  split
  · exact .inl rfl
  · split
    · exact .inr rfl
    · exact .inl rfl

theorem State.moveToHeld_rest (s : State) (d : DoorNo) :
    (s.moveToHeld d).door d = { s.door d with sweep := ((s.moveToHeld d).door d).sweep } ∧
    (s.moveToHeld d).trunks = s.trunks := by
  rcases s.moveToHeld_or d with h | h <;> rw [h]
  · exact ⟨rfl, rfl⟩
  · refine ⟨by rw [State.door_moveCount, if_pos rfl], ?_⟩
    unfold State.moveCount
    split <;> rfl

theorem State.linkedSweep_eq {l : SweepLink} {w : Sweep} (hl : (s.door d).sweep = some l) (hw : s.slot l.slot = some w) :
    s.linkedSweep d = some (l, w) := by
  rw [State.linkedSweep, hl]
  dsimp only
  rw [hw]
  rfl

theorem State.moveToHeld_unlinked (hl : (s.door d).sweep = none) : s.moveToHeld d = s := by
  rw [State.moveToHeld, State.linkedSweep, hl]

theorem State.moveToHeld_release {l : SweepLink} {w : Sweep} (hl : (s.door d).sweep = some l) (hw : s.slot l.slot = some w)
    (hd : w.direction = .release) : s.moveToHeld d = s := by
  rw [State.moveToHeld, State.linkedSweep_eq hl hw]
  exact if_neg fun h => by rw [Sweep.isActiveLock, hd] at h; exact Bool.false_ne_true h.1

/-- A door linked to an ACTIVE LOCK sweep is counted held. -/
theorem State.moveToHeld_lock {l : SweepLink} {w : Sweep} (hl : (s.door d).sweep = some l) (hw : s.slot l.slot = some w)
    (hd : w.direction = .lock) (ha : w.phase = .active) : ((s.moveToHeld d).door d).sweep = some ⟨l.slot, .held⟩ ∧
      (s.moveToHeld d).slot l.slot = some { w with counts := w.counts.move l.count .held } := by
  have hact : w.isActiveLock = true := by rw [Sweep.isActiveLock, hd, ha]; rfl
  rw [State.moveToHeld, State.linkedSweep_eq hl hw]
  dsimp only
  by_cases hh : l.count = .held
  · have hmove : w.counts.move l.count .held = w.counts := if_pos hh
    rw [if_neg fun h => h.2 hh, hmove, hl, ← hh]
    exact ⟨rfl, hw⟩
  · rw [if_pos ⟨hact, hh⟩, State.door_moveCount, if_pos rfl, State.slot_moveCount, hl]
    dsimp only
    rw [if_pos rfl, hw]
    exact ⟨rfl, rfl⟩

/-! ### The test of a door's sweep, with no zone waiting (R73, R74) -/

theorem State.finishOf_unlinked (hl : (q.door d).sweep = none) : q.finishOf d = q := by
  rw [State.finishOf, hl]

theorem State.finishOf_linked (hm : ∀ y, (q.zone y).marker = none) {l : SweepLink} {v : Sweep} (hl : (q.door d).sweep = some l)
    (hv : q.slot l.slot = some v) (ha : v.phase = .active) : q.finishOf d =
      if v.counts.pending = 0 then State.loadUnder .afterSweep v.zone (q.closed l.slot v) else q := by
  have hof : q.finishOf d = q.finishIfDone l.slot := by rw [State.finishOf, hl]
  rw [hof, State.finishIfDone, State.isFinished_of hv ha]
  by_cases hp : v.counts.pending = 0
  · rw [decide_eq_true hp, if_pos rfl, if_pos hp, State.finish_unmarked hv hm]
  · rw [decide_eq_false hp, if_neg (by decide), if_neg hp]

/-- A finish takes from its doors their links alone. -/
theorem State.finished_rest (q : State) (k : SlotNo) (v : Sweep) (r : LoadRule) (d : DoorNo) :
    ((State.loadUnder r v.zone (q.closed k v)).door d).unlinked = (q.door d).unlinked ∧
    (State.loadUnder r v.zone (q.closed k v)).entry d = q.entry d ∧
    (State.loadUnder r v.zone (q.closed k v)).record d = q.record d := by
  have hdoor := State.door_loadClosed r v.zone k v q d
  have hleave : (Door.leaveSweep k (q.door d)).unlinked = (q.door d).unlinked := by
    unfold Door.leaveSweep
    split <;> rfl
  have htrunk : ((State.loadUnder r v.zone (q.closed k v)).door d).trunk = (q.door d).trunk := by
    have := congrArg Door.trunk hleave
    rw [hdoor]
    exact this
  have htrunks : (State.loadUnder r v.zone (q.closed k v)).trunks = q.trunks := by
    rw [State.trunks_loadUnder]
    rfl
  refine ⟨by rw [hdoor]; exact hleave, ?_, ?_⟩
  · rw [State.entry, State.entry, htrunk, State.trunk, State.trunk, htrunks]
  · rw [State.record, State.record, htrunk, State.trunk, State.trunk, htrunks]

/-- The door and its work as the test of its sweep leaves them. -/
theorem State.finishOf_rest (hm : ∀ y, (q.zone y).marker = none) (hc : ∀ l, (q.door d).sweep = some l → ∃ v, q.slot l.slot = some v ∧
    v.phase = .active) : ((q.finishOf d).door d).unlinked = (q.door d).unlinked ∧ (q.finishOf d).entry d = q.entry d ∧
      (q.finishOf d).record d = q.record d := by
  cases hl : (q.door d).sweep with
  | none =>
    rw [State.finishOf_unlinked hl]
    exact ⟨rfl, rfl, rfl⟩
  | some l =>
    obtain ⟨v, hv, ha⟩ := hc l hl
    rw [State.finishOf_linked hm hl hv ha]
    split
    · exact q.finished_rest l.slot v _ d
    · exact ⟨rfl, rfl, rfl⟩

end

end Sys2Proof.Machine




namespace Sys2Proof.Machine

/-! ### The sweep of a door that a hold begins on (R72 to R74, R124) -/

section
variable {s q : State} {d : DoorNo}

/-- The tables of R68 and R69 name no change of a door counted held. -/
theorem countTable_held (dir : Direction) (st : DoorState) : countTable dir .held st = .held := by
  cases dir <;> cases st <;> rfl

/-- No table of R69 brings a door to unreachable by a change of its state. -/
theorem countTable_release_unreachable {c : Count} {st : DoorState} (h : countTable .release c st = .unreachable) :
    c = .unreachable := by
  cases c <;> cases st <;> first | rfl | cases h

/-- What follows for the door's sweep when its count has been followed from a count in which it had been moved. -/
theorem State.Followed.active (h : s.Followed q d) (hs : ∀ l, (s.door d).sweep = some l → ∃ v, s.slot l.slot = some v ∧
    v.phase = .active) (l : SweepLink) (hl : (q.door d).sweep = some l) : ∃ v, q.slot l.slot = some v ∧ v.phase = .active := by
  cases hsl : (s.door d).sweep with
  | none =>
    rw [(h.unlinked hsl).2] at hl
    cases hl
  | some m =>
    obtain ⟨v, hv, ha⟩ := hs m hsl
    obtain ⟨c, -, hlink, hslot⟩ := h.linked hsl hv
    rw [hlink] at hl
    cases hl
    exact ⟨_, hslot, ha⟩

/-- A RELEASE sweep with a pending door leaves the door's unreached mark (R75). -/
theorem State.unreached_release (hm : ∀ y, (q.zone y).marker = none) (h : s.Followed q d) {l : SweepLink} {w : Sweep}
    (hl : (s.door d).sweep = some l) (hw : s.slot l.slot = some w) (ha : w.phase = .active) (hd : w.direction = .release)
    (hp : 0 < w.counts.pending) (hu : (s.door d).unreached = false) (hq : (q.door d).unreached = (s.door d).unreached) :
    ((q.finishOf d).door d).unreached = (s.door d).unreached := by
  obtain ⟨c, hc, hlink, hslot⟩ := h.linked hl hw
  rw [State.finishOf_linked hm hlink hslot ha]
  split
  · next hnone =>
    have hne : c ≠ .unreachable := by
      rintro rfl
      have hcount : l.count = .unreachable := by
        rcases hc with hc | ⟨st, hc⟩
        · exact hc.symm
        · rw [hd] at hc
          exact countTable_release_unreachable hc.symm
      have hmove : w.counts.move l.count .unreachable = w.counts := if_pos hcount
      rw [hmove] at hnone
      exact absurd hnone hp.ne'
    rw [State.door_loadClosed, Door.leaveSweep_linked hlink, hu]
    simpa using hne
  · exact hq

/-- A LOCK sweep, its door counted held, goes on or finishes (R72, R73). -/
theorem State.lock_held (hm : ∀ y, (q.zone y).marker = none) (h : s.Followed q d) {k : SlotNo} {v : Sweep}
    (hl : (s.door d).sweep = some ⟨k, .held⟩) (hv : s.slot k = some v) (ha : v.phase = .active) (hu : (q.door d).unreached = false) :
    ((q.finishOf d).door d).unreached = false ∧
    if v.counts.pending = 0 then
      ((q.finishOf d).door d).sweep = none ∧ (q.finishOf d).slot k = none ∧
      ((q.finishOf d).zone v.zone).last = some v.direction ∧ (q.finishOf d).noticeSet.Tells q.clock.stamp .sweepDone (.zone v.zone)
        (.sweepDone v.direction v.origin false v.total v.counts)
    else ((q.finishOf d).door d).sweep = some ⟨k, .held⟩ ∧ (q.finishOf d).slot k = some v := by
  obtain ⟨c, hc, hlink, hslot⟩ := h.linked hl hv
  obtain rfl : c = .held := by
    rcases hc with hc | ⟨st, hc⟩
    · exact hc
    · exact hc.trans (countTable_held _ _)
  have hslot : q.slot k = some v := hslot.trans (by rw [show v.counts.move .held .held = v.counts from rfl])
  rw [State.finishOf_linked hm hlink hslot ha]
  split
  · refine ⟨?_, ?_, ?_, ?_, ?_⟩
    · rw [State.door_loadClosed, Door.leaveSweep_linked hlink]
      rfl
    · rw [State.door_loadClosed, Door.leaveSweep_linked hlink]
    · rw [State.slot_loadUnder, State.slot_closed, if_pos rfl]
    · rw [(State.marker_loadUnder _ _ _ _).2]
      exact State.last_closeSweep k v false (q.leaveDoors k)
    · rw [State.noticeSet_loadUnder, State.noticeSet_closed]
      exact .raised _ _ _ _ _
  · exact ⟨hu, hlink, hslot⟩

/-- The links of doors by the law of counts. -/
theorem State.CountLaw.linked (hc : s.CountLaw) {l : SweepLink} (hl : (s.door d).sweep = some l) :
    (s.door d).unreached = false ∧ ∃ w, s.slot l.slot = some w ∧ w.phase = .active ∧ w.zone = (s.door d).zone :=
  (hc.1 d l hl).2

/-- What becomes of the sweep of a door that a hold begins on, when the door's count follows its change (R72, R73, R124). -/
theorem State.heldSweep (hc : s.CountLaw) (hf : (s.moveToHeld d).Followed q d) (hu : (q.door d).unreached = (s.door d).unreached)
    (hm : ∀ y, (q.zone y).marker = none) :
    let x := s.door d
    let t := q.finishOf d
    let y := t.door d
    (x.sweep = none → y.sweep = none ∧ y.unreached = x.unreached ∧ t.slots = s.slots) ∧
    (∀ l, x.sweep = some l → ∀ w, s.slot l.slot = some w → w.direction = .release → 0 < w.counts.pending →
      y.unreached = x.unreached) ∧
    (∀ l, x.sweep = some l → ∀ w, s.slot l.slot = some w → w.direction = .lock →
      let counts := w.counts.move l.count .held
      y.unreached = false ∧
      if counts.pending = 0 then
        y.sweep = none ∧ t.slot l.slot = none ∧ (t.zone x.zone).last = some .lock ∧
        t.noticeSet.Tells q.clock.stamp .sweepDone (.zone x.zone) (.sweepDone .lock w.origin false w.total counts)
      else y.sweep = some ⟨l.slot, .held⟩ ∧ t.slot l.slot = some { w with counts := counts }) := by
  refine ⟨fun hl => ?_, fun l hl w hw hd hp => ?_, fun l hl w hw hd => ?_⟩
  · rw [State.moveToHeld_unlinked hl] at hf
    obtain ⟨hslots, hsweep⟩ := hf.unlinked hl
    rw [State.finishOf_unlinked hsweep]
    exact ⟨hsweep, hu, hslots⟩
  · obtain ⟨hreach, v, hv, ha, -⟩ := hc.linked hl
    obtain rfl : w = v := Option.some.inj (hw.symm.trans hv)
    rw [State.moveToHeld_release hl hw hd] at hf
    exact State.unreached_release hm hf hl hw ha hd hp hreach hu
  · obtain ⟨hreach, v, hv, ha, hz⟩ := hc.linked hl
    obtain rfl : w = v := Option.some.inj (hw.symm.trans hv)
    obtain ⟨hlink, hslot⟩ := State.moveToHeld_lock hl hw hd ha
    have := State.lock_held hm hf hlink hslot ha (hu.trans hreach)
    dsimp only at this ⊢
    rw [hz, hd] at this ⊢
    exact this

end

/-! ### The door of a hold and its work (R125, R126) -/

section
variable {s p q t : State} {d : DoorNo} {c : QueueClass}

/-- A door and its work as they were but for the door's link. -/
def State.SameButLink (s t : State) (d : DoorNo) : Prop :=
  (t.door d).unlinked = (s.door d).unlinked ∧ t.entry d = s.entry d ∧ t.record d = s.record d

theorem State.SameButLink.field {α : Type} (h : s.SameButLink t d) (f : Door → α) (hf : ∀ x : Door, f x = f x.unlinked) :
    f (t.door d) = f (s.door d) := by
  rw [hf, h.1, ← hf]

theorem State.SameButLink.hasWork_iff (h : s.SameButLink t d) {dir : Direction} : t.hasWork d dir c ↔ s.hasWork d dir c := by
  have hs := h.field Door.state fun _ => rfl
  unfold State.hasWork
  rw [hs, h.2.1, h.2.2]

/-- What a DEFER hold makes of a door does not read its link. -/
theorem State.Deferred.congr (h : p.Deferred q d) (hp : s.SameButLink p d) (ht : q.SameButLink t d) : s.Deferred t d := by
  obtain ⟨hx, he, hr⟩ := hp
  obtain ⟨hy, he', hr'⟩ := ht
  have hdoor := Door.eq_of_unlinked hx
  unfold State.Deferred at h ⊢
  dsimp only at h ⊢
  rw [hdoor, he, hr] at h
  simp only [hy, he', hr']
  exact h

theorem State.PlacedRelease.congr (h : p.PlacedRelease q d c) (hp : s.SameButLink p d) (ht : q.SameButLink t d) :
    s.PlacedRelease t d c := by
  unfold State.PlacedRelease at h ⊢
  rw [hp.field Door.state fun _ => rfl, hp.2.1, hp.2.2] at h
  simp only [ht.hasWork_iff, ht.field Door.state fun _ => rfl, ht.field Door.attempts fun _ => rfl, ht.2.2]
  exact h

theorem State.KeptOpen.congr (h : p.KeptOpen q d c) (hp : s.SameButLink p d) (ht : q.SameButLink t d) : s.KeptOpen t d c := by
  have hdoor := Door.eq_of_unlinked hp.1
  unfold State.KeptOpen at h ⊢
  dsimp only at h ⊢
  rw [hp.field Door.state fun _ => rfl, hp.field Door.bolt fun _ => rfl, hp.field Door.health fun _ => rfl] at h
  by_cases h1 : (s.door d).state = .released ∨ ((s.door d).state = .unknown ∧ (s.door d).health ≠ .heard)
  · rw [if_pos h1] at h ⊢
    rw [ht.1, h, hdoor]
    rfl
  rw [if_neg h1] at h ⊢
  by_cases h2 : (s.door d).state = .ajar ∧ (s.door d).bolt = .withdrawn
  · rw [if_pos h2] at h ⊢
    rw [ht.field Door.state fun _ => rfl, ht.field Door.reminder fun _ => rfl]
    exact h
  · rw [if_neg h2] at h ⊢
    exact h.congr hp ht

/-- The move of a door's count leaves the door and its work. -/
theorem State.sameButLink_moveToHeld (s : State) (d : DoorNo) : s.SameButLink (s.moveToHeld d) d := by
  obtain ⟨hdoor, htrunks⟩ := s.moveToHeld_rest d
  refine ⟨by rw [hdoor]; rfl, ?_, ?_⟩
  · rw [State.entry, State.entry, hdoor, State.trunk, htrunks]
    rfl
  · rw [State.record, State.record, hdoor, State.trunk, htrunks]
    rfl

theorem State.workAt_moveToHeld (hw : s.WorkAt d) : (s.moveToHeld d).WorkAt d := by
  obtain ⟨hdoor, htrunks⟩ := s.moveToHeld_rest d
  refine hw.congr (by rw [hdoor]) (by rw [hdoor]) (fun u => ?_) fun u => ?_
  · rw [State.entriesOf_eq, State.entriesOf_eq, State.trunk, htrunks]
    rfl
  · rw [State.recordsOf_eq, State.recordsOf_eq, State.trunk, htrunks]
    rfl

/-- What the work that begins a hold gives for the door, its work and its sweep, when no zone waits. -/
theorem State.heldDoor (hc : s.CountLaw) (hz : ∀ y, (s.zone y).marker = none) (hands : Hands (Eq d) (s.moveToHeld d) q)
    (hf : (s.moveToHeld d).Followed q d) :
    (∀ y, (q.zone y).marker = none) ∧ q.SameButLink (q.finishOf d) d := by
  have hmove : Hands (Eq d) s (s.moveToHeld d) := .moveToHeld rfl
  have hm : ∀ y, (q.zone y).marker = none := fun y => (hmove.trans hands).noNewWaits y (hz y)
  refine ⟨hm, State.finishOf_rest hm (hf.active fun l hl => ?_)⟩
  cases hsl : (s.door d).sweep with
  | none =>
    rw [State.moveToHeld_unlinked hsl] at hl
    rw [hsl] at hl
    cases hl
  | some m =>
    obtain ⟨-, w, hw, ha, -⟩ := hc.linked hsl
    cases hd : w.direction with
    | release =>
      rw [State.moveToHeld_release hsl hw hd] at hl ⊢
      rw [hsl] at hl
      cases hl
      exact ⟨w, hw, ha⟩
    | lock =>
      obtain ⟨hlink, hslot⟩ := State.moveToHeld_lock hsl hw hd ha
      rw [hlink] at hl
      cases hl
      exact ⟨_, hslot, ha⟩

end

end Sys2Proof.Machine




namespace Sys2Proof.Machine

section
variable {s t : State} {d : DoorNo}

/-- What a DEFER hold makes of its door, in full (R125). -/
theorem State.Deferred.door (h : s.Deferred t d) :
    let x := s.door d
    let y := t.door d
    let stands : Door := { x with sweep := y.sweep, unreached := y.unreached }
    match x.state with
    | .waiting =>
      if (s.entry d).any (fun e => decide (e.direction = .lock)) = true then
        y = { stands with
          state := restatedState x.bolt x.position, intent := .none, keepOpen := false
          passage := none, allowance := none, reminder := none } ∧ t.entry d = none
      else y = stands
    | .acting =>
      y = (if (s.record d).any (fun r => decide (r.direction = .lock)) = true ∧ x.intent = .lock then
        { stands with intent := .none, keepOpen := false } else stands) ∧ t.record d = s.record d
    | .ajar | .forced => y = { stands with
        intent := .none, keepOpen := false, state := if x.bolt = .withdrawn then .released else x.state
        passage := y.passage, allowance := y.allowance, reminder := none }
    | _ => y = stands := by
  have hopen : (t.door d).unlinked = (if (s.door d).bolt = .withdrawn then (Door.enter .released (s.door d).noIntent).unlinked
      else { (s.door d).noIntent with reminder := none }.unlinked) → t.door d = { s.door d with
        sweep := (t.door d).sweep, unreached := (t.door d).unreached, intent := .none, keepOpen := false
        state := if (s.door d).bolt = .withdrawn then .released else (s.door d).state
        passage := (t.door d).passage, allowance := (t.door d).allowance, reminder := none } := fun h => by
    by_cases hb : (s.door d).bolt = .withdrawn
    · rw [if_pos hb] at h
      have hp : (t.door d).passage = none := by have := congrArg Door.passage h; exact this
      have ha : (t.door d).allowance = none := by have := congrArg Door.allowance h; exact this
      rw [if_pos hb, hp, ha]
      exact Door.eq_of_unlinked h
    · rw [if_neg hb] at h
      have hp : (t.door d).passage = (s.door d).passage := by have := congrArg Door.passage h; exact this
      have ha : (t.door d).allowance = (s.door d).allowance := by have := congrArg Door.allowance h; exact this
      rw [if_neg hb, hp, ha]
      exact Door.eq_of_unlinked h
  unfold State.Deferred at h
  dsimp only at h ⊢
  cases hs : (s.door d).state with
  | waiting =>
    rw [hs] at h
    by_cases he : (s.entry d).any (fun e => decide (e.direction = .lock)) = true
    · obtain ⟨hdoor, hentry⟩ := (if_pos he).mp h
      exact (if_pos he).mpr ⟨Door.eq_of_unlinked hdoor, hentry⟩
    · exact (if_neg he).mpr (Door.eq_of_unlinked ((if_neg he).mp h) |>.trans (by rw [hs]))
  | acting =>
    rw [hs] at h
    obtain ⟨hdoor, hrecord⟩ := h
    refine ⟨?_, hrecord⟩
    by_cases hr : (s.record d).any (fun r => decide (r.direction = .lock)) = true ∧ (s.door d).intent = .lock
    · rw [if_pos hr] at hdoor ⊢
      exact (Door.eq_of_unlinked hdoor).trans (by rw [← hs]; rfl)
    · rw [if_neg hr] at hdoor ⊢
      exact (Door.eq_of_unlinked hdoor).trans (by rw [hs])
  | ajar =>
    rw [hs] at h
    exact (hopen h).trans (by rw [hs])
  | forced =>
    rw [hs] at h
    exact (hopen h).trans (by rw [hs])
  | _ =>
    rw [hs] at h
    exact (Door.eq_of_unlinked h).trans (by rw [hs])

/-- A door is fire-locked-out as the statements say it. -/
theorem State.fireLockedOut_eq (s : State) (d : DoorNo) :
    s.fireLockedOut d = decide ((s.door d).fire = true ∧ s.fire ≠ .normal) := by
  unfold State.fireLockedOut
  cases (s.door d).fire <;> cases s.fire <;> rfl

theorem State.releaseClass_urgent (s : State) (d : DoorNo) : s.releaseClass d = .urgent ↔ s.fireLockedOut d = true := by
  unfold State.releaseClass
  cases s.fireLockedOut d <;> simp

/-- What a KEEP_OPEN hold makes of its door, in full (R126). -/
theorem State.KeptOpen.door (h : s.KeptOpen t d (s.releaseClass d)) :
    let x := s.door d
    let y := t.door d
    let lockedOut := decide (x.fire = true ∧ s.fire ≠ .normal)
    if x.state = .released ∨ (x.state = .unknown ∧ x.health ≠ .heard) then
      y = { x with sweep := y.sweep, unreached := y.unreached, intent := .release, keepOpen := true }
    else if x.state = .ajar ∧ x.bolt = .withdrawn then y.state = .released ∧ y.reminder = none
    else if x.state = .acting then
      y.state = .acting ∧ t.record d = (s.record d).map (fun r =>
        if lockedOut = true ∧ r.direction = .release then { r with cls := .urgent } else r)
    else y.attempts = 0 ∧ t.hasWork d .release
      (if lockedOut = true ∨ (x.state = .waiting ∧ (s.entry d).any (fun e => decide (e.cls = .urgent)) = true) then
        .urgent else .routine) := by
  unfold State.KeptOpen at h
  dsimp only at h ⊢
  rw [← State.fireLockedOut_eq]
  by_cases h1 : (s.door d).state = .released ∨ ((s.door d).state = .unknown ∧ (s.door d).health ≠ .heard)
  · rw [if_pos h1] at h ⊢
    exact Door.eq_of_unlinked h
  rw [if_neg h1] at h ⊢
  by_cases h2 : (s.door d).state = .ajar ∧ (s.door d).bolt = .withdrawn
  · rw [if_pos h2] at h ⊢
    exact h
  rw [if_neg h2] at h ⊢
  have hclass : s.releaseClass d = if s.fireLockedOut d = true then .urgent else .routine := rfl
  unfold State.PlacedRelease at h
  cases hs : (s.door d).state with
  | acting =>
    rw [hs] at h
    simp only [State.releaseClass_urgent] at h
    rw [if_pos rfl]
    exact h
  | waiting =>
    rw [hs] at h
    simp only [State.releaseClass_urgent] at h
    rw [if_neg (by decide)]
    simpa only [true_and] using h
  | _ =>
    rw [hs, hclass] at h
    rw [if_neg (by decide)]
    simpa only [reduceCtorEq, false_and, or_false] using h

end

/-- What a hold's kind does to a door it covers (R125, R126). -/
def State.holdActs (kind : HoldKind) (d : DoorNo) (s : State) : State :=
  match kind with
  | .defer => s.deferOn d
  | .keepOpen => s.keepOpenOn d

theorem State.beginOn_eq (kind : HoldKind) (d : DoorNo) (s : State) :
    s.beginOn kind d = ((s.moveToHeld d).holdActs kind d).finishOf d := by
  cases kind <;> rfl

section
variable {s : State} {d : DoorNo} {kind : HoldKind}

/-- What a hold's kind does to a door is work on that door alone, and the sweep follows it. -/
theorem State.holdActs_spec (hw : s.WorkAt d) : Hands (Eq d) s (s.holdActs kind d) ∧ s.Followed (s.holdActs kind d) d ∧
    ((s.holdActs kind d).door d).unreached = (s.door d).unreached := by
  cases kind with
  | defer =>
    obtain ⟨-, hf, hu⟩ := State.deferOn_spec hw
    exact ⟨.deferOn rfl, hf, hu⟩
  | keepOpen =>
    obtain ⟨-, -, -, hu, hf⟩ := State.keepOpenOn_spec hw
    exact ⟨.keepOpenOn rfl, hf, hu⟩

end

/-- Settles O33: the door's count and its sweep, and the door and its work by the hold's kind; a finish takes the link alone
from its doors. -/
theorem holdBeginsOnItsDoor : Obligations.HoldBeginsOnItsDoor := by
  intro s d kind minutes hmin hn hw _ hc hz hconf
  obtain ⟨h, a, -, hexec⟩ := exec_holdAdd_door (kind := kind) hmin hn hconf
  have hw0 : (s.later.withHold h).WorkAt d := hw d
  have hc0 : (s.later.withHold h).CountLaw := hc
  have hz0 : ∀ y, ((s.later.withHold h).zone y).marker = none := hz
  have hrelease : (s.later.withHold h).releaseClass d = s.releaseClass d := rfl
  obtain ⟨hands, hfol, hreach⟩ := State.holdActs_spec (kind := kind) (State.workAt_moveToHeld hw0)
  obtain ⟨hmarks, hsame⟩ := State.heldDoor hc0 hz0 hands hfol
  have hmoved := (s.later.withHold h).sameButLink_moveToHeld d
  have hunreached : (((s.later.withHold h).moveToHeld d).door d).unreached = (s.door d).unreached := by
    rw [((s.later.withHold h).moveToHeld_rest d).1]
    rfl
  obtain ⟨hfree, hrel, hlock⟩ := State.heldSweep hc0 hfol (hreach.trans hunreached) hmarks
  have hwork : Work (s.later.withHold h) (((s.later.withHold h).moveToHeld d).holdActs kind d) := by
    refine (Work.moveToHeld d).trans ?_
    cases kind
    · exact .keepOpenOn d
    · exact .deferOn d
  rw [hwork.clock_eq] at hlock
  rw [State.beginOn_eq] at hexec
  have hbefore : s.SameButLink (s.later.withHold h) d := ⟨rfl, rfl, rfl⟩
  have hanswer : ∀ t : State, t.SameButLink (t.withResult a) d := fun _ => ⟨rfl, rfl, rfl⟩
  refine ⟨_, hexec, hfree, hrel, hlock, ?_⟩
  cases kind with
  | defer =>
    have hdef := (State.deferOn_spec (State.workAt_moveToHeld hw0)).1.congr hmoved hsame
    exact (hdef.congr hbefore (hanswer _)).door
  | keepOpen =>
    obtain ⟨hopen, hi, hk, -⟩ := State.keepOpenOn_spec (State.workAt_moveToHeld hw0)
    have hclass : ((s.later.withHold h).moveToHeld d).releaseClass d = (s.later.withHold h).releaseClass d := by
      unfold State.releaseClass
      rw [State.fireLockedOut_congr (Work.moveToHeld d).fire_eq ((Work.moveToHeld d).doorFire_eq d)]
    have hintent := hsame.field Door.intent fun _ => rfl
    have hkeep := hsame.field Door.keepOpen fun _ => rfl
    rw [hclass] at hopen
    rw [hrelease] at hopen
    have hdoor := ((hopen.congr hmoved hsame).congr hbefore (hanswer _)).door
    exact ⟨hintent.trans hi, hkeep.trans hk, hdoor⟩

end Sys2Proof.Machine




namespace Sys2Proof.Machine

/-! ### Where a zone stands while others are given their markers, with no law of links (R55, R59) -/

/-- The slot of a zone's sweep, if it has one, and the marker it then lacks. -/
structure State.Sole (p : State) (z : ZoneNo) (o : Option SlotNo) : Prop where
  slots : ∀ k w, p.slot k = some w → (w.zone = z ↔ o = some k)
  held : ∀ k, o = some k → p.slot k ≠ none
  marker : o ≠ none → (p.zone z).marker = none

/-- What leaves a zone and the slot of its sweep alone, and touches the doors of `D`. -/
def Touch.apart (D : DoorNo → Prop) (z : ZoneNo) (o : Option SlotNo) : Touch := ⟨D, (· ≠ z), fun k => o ≠ some k⟩

/-- What leaves a zone and its slot alone, but may touch its doors. -/
def Touch.spare (z : ZoneNo) (o : Option SlotNo) : Touch := Touch.apart (fun _ => True) z o

section
variable {s p q : State} {z : ZoneNo} {o : Option SlotNo} {D : DoorNo → Prop}

theorem Touch.not_zone_apart : ¬ (Touch.apart D z o).zone z := fun h => h rfl

theorem Touch.not_slot_apart {k : SlotNo} (h : o = some k) : ¬ (Touch.apart D z o).slot k := fun g => g h

theorem State.SweepLaw.sole (hs : s.SweepLaw) (z : ZoneNo) : ∃ o, s.Sole z o := by
  by_cases h : ∃ k w, s.slot k = some w ∧ w.zone = z
  · obtain ⟨k, w, hw, rfl⟩ := h
    refine ⟨some k, fun j v hv => ⟨fun hz => congrArg some (hs.1 j k v hv w hw hz).symm, fun hj => ?_⟩, fun j hj => ?_,
      fun _ => hs.2 k w hw⟩
    · cases hj
      rw [Option.some.inj (hv.symm.trans hw)]
    · cases hj
      rw [hw]
      exact nofun
  · exact ⟨none, fun j v hv => iff_of_false (fun hz => h ⟨j, v, hv, hz⟩) nofun, nofun, fun h => absurd rfl h⟩

theorem State.Sole.tended (h : p.Sole z o) (ht : State.Tended (Touch.apart D z o) p q) : q.Sole z o := by
  refine ⟨fun k w hk => ?_, fun k hk => ?_, fun ho => (ht.moves.zone_outside Touch.not_zone_apart).1.trans (h.marker ho)⟩
  · by_cases hok : o = some k
    · rw [ht.slots k (Touch.not_slot_apart hok)] at hk
      exact h.slots k w hk
    · refine iff_of_false (fun hz => ?_) hok
      rcases ht.moves.slot_zone hk with hne | ⟨v, hv, hvw⟩
      · exact hne hz
      · exact hok ((h.slots k v hv).mp (hvw.trans hz))
  · rw [ht.slots k (Touch.not_slot_apart hk)]
    exact h.held k hk

theorem State.Sole.not_hasSweep (h : p.Sole z none) : ¬ p.HasSweep z := by
  rintro ⟨k, hk⟩
  obtain ⟨w, hw, hz⟩ := Option.map_eq_some_iff.mp hk
  exact nomatch (h.slots k w hw).mp hz

theorem State.sole_none (h : ¬ p.HasSweep z) : p.Sole z none :=
  ⟨fun k w hw => iff_of_false (fun hz => h ⟨k, by rw [hw, ← hz]; rfl⟩) nofun, nofun, fun h => absurd rfl h⟩

theorem State.Sole.sweepOf {k : SlotNo} {w : Sweep} (h : p.Sole z (some k)) (hw : p.slot k = some w) :
    p.sweepOf z = some (k, w) := by
  have hz : w.zone = z := (h.slots k w hw).mpr rfl
  rw [← hz]
  exact State.sweepOf_of_only hw fun j v hj hv he => hj (Option.some.inj ((h.slots j v hv).mp (he.trans hz))).symm

theorem State.Sole.cancelSweep {k : SlotNo} (h : p.Sole z (some k)) : (p.cancelSweep k).Sole z none := by
  refine State.sole_none ?_
  rintro ⟨j, hj⟩
  obtain ⟨v, hv, hz⟩ := Option.map_eq_some_iff.mp hj
  by_cases hjk : j = k
  · rw [hjk, State.slot_cancelSweep] at hv
    cases hv
  · rw [State.slot_cancelSweep_ne p hjk] at hv
    exact hjk (Option.some.inj ((h.slots j v hv).mp hz)).symm

/-! ### The giving of another zone's marker -/

/-- An offer of another slot than the zone's, while the zone does not wait and its doors outside `D` have no sweep. -/
theorem State.Sole.offers (h : p.Sole z o) (hw : Work s p) (hm : (p.zone z).marker = none)
    (hD : ∀ d, ¬ D d → s.IsDoorOf z d ∧ (p.door d).sweep = none) {k : SlotNo} (hk : o ≠ some k) :
    (Touch.apart D z o).Offers k p := by
  refine ⟨hk, fun w hs hz => hk ((h.slots k w hs).mp hz), fun y hy hyz => ?_, fun y hy d hd => ?_, fun d hd => ?_⟩
  · rw [hyz, hm] at hy
    cases hy
  · by_contra hn
    exact hy (hd.2.symm.trans ((hw.isDoorOf z d).mpr (hD d hn).1).2)
  · by_contra hn
    rw [Door.linkedTo, (hD d hn).2] at hd
    cases hd

/-- A zone that does not wait is left alone by the giving of another zone's marker. -/
theorem State.Tended.giveApart (hw : Work s p) (hl : p.Sole z o) (hm : (p.zone z).marker = none)
    (hD : ∀ d, ¬ D d → s.IsDoorOf z d ∧ (p.door d).sweep = none) {y : ZoneNo} (hyz : y ≠ z) (dir : Direction) (org : Origin) :
    State.Tended (Touch.apart D z o) p (p.give y dir org).1 := by
  by_cases hby : dir = .lock ∧ p.Barred y
  · rw [State.give_declined hby.1 hby.2]
    exact .refl p
  rw [State.give_eq fun h g => hby ⟨h, g⟩]
  split
  · next k w hs =>
    have hk : p.slot k = some w := State.mem_sweeps.mp (List.mem_of_find?_eq_some hs)
    have hwy : w.zone = y := by simpa using List.find?_some hs
    have hok : o ≠ some k := fun h => hyz (hwy.symm.trans ((hl.slots k w hk).mpr h))
    split
    · exact .refl p
    · have hoff := hl.offers hw hm hD hok
      have hc : State.Tended (Touch.apart D z o) p (p.cancelSweep k) := .cancelSweep hoff
      exact hc.trans (.startSweep (hoff.moves hc.moves) hyz _ _)
  · split
    · next k hk =>
      have hfree : p.slot k = none := Option.isNone_iff_eq_none.mp (List.find?_some (p := fun k => (p.slot k).isNone) hk)
      exact .startSweep (hl.offers hw hm hD fun h => hl.held k h hfree) hyz _ _
    · exact .recordMarker hyz _ _

end

end Sys2Proof.Machine




namespace Sys2Proof.Machine

/-! ### A zone that has been swept, or is being swept (R62, R65, R73, R74) -/

/-- A zone was swept: its doors are unlinked and have the intent, the direction is its last, and the finish has been told. -/
structure State.Swept (s t : State) (z : ZoneNo) (dir : Direction) (org : Origin) : Prop where
  last : (t.zone z).last = some dir
  unlinked : ∀ d, s.IsDoorOf z d → (t.door d).sweep = none
  intent : ∀ d, s.IsDoorOf z d → (dir = .release ∨ s.held d = false) → (t.door d).intent = dir.intent
  told : ∃ total counts, counts.pending = 0 ∧
    t.noticeSet.Tells s.clock.stamp .sweepDone (.zone z) (.sweepDone dir org false total counts)

/-- A sweep of the zone was begun: it stands in its slot, or the zone was swept. -/
structure State.TakenUp (s t : State) (z : ZoneNo) (o : Option SlotNo) (dir : Direction) (org : Origin) : Prop where
  sole : t.Sole z o
  marker : (t.zone z).marker = none
  going : ∀ k, o = some k → ∃ w, t.slot k = some w ∧ w.direction = dir ∧ w.origin = org
  done : o = none → s.Swept t z dir org

section
variable {s p q t : State} {z : ZoneNo} {o : Option SlotNo} {k : SlotNo} {dir : Direction} {org : Origin}

/-- The doors of a zone that was swept are left alone; those of one that is being swept are not. -/
def State.FreeDoors (s : State) (z : ZoneNo) (o : Option SlotNo) (d : DoorNo) : Prop := o = none → ¬ s.IsDoorOf z d

theorem State.Swept.tended (h : s.Swept p z dir org) (ht : State.Tended (Touch.apart (s.FreeDoors z none) z none) p q) :
    s.Swept q z dir org := by
  obtain ⟨hlast, hlink, hint, total, counts, hp, htold⟩ := h
  have hmarks := fun d (hd : s.IsDoorOf z d) =>
    ht.moves.marks_outside (d := d) fun g : s.FreeDoors z none d => g rfl hd
  exact ⟨(ht.moves.zone_outside Touch.not_zone_apart).2.trans hlast, fun d hd => (hmarks d hd).2.2.1.trans (hlink d hd),
    fun d hd hh => (hmarks d hd).1.trans (hint d hd hh), total, counts, hp, ht.notices.tells Touch.not_zone_apart htold⟩

theorem State.TakenUp.tended (h : s.TakenUp p z o dir org) (ht : State.Tended (Touch.apart (s.FreeDoors z o) z o) p q) :
    s.TakenUp q z o dir org := by
  refine ⟨h.sole.tended ht, (ht.moves.zone_outside Touch.not_zone_apart).1.trans h.marker, fun k hk => ?_, fun ho => ?_⟩
  · rw [ht.slots k (Touch.not_slot_apart hk)]
    exact h.going k hk
  · subst ho
    exact (h.done rfl).tended ht

/-- The giving of another zone's marker leaves the sweep as it is. -/
theorem State.TakenUp.other (h : s.TakenUp p z o dir org) (hw : Work s p) {y : ZoneNo} (hyz : y ≠ z) (dir' : Direction)
    (org' : Origin) : s.TakenUp (p.give y dir' org').1 z o dir org := by
  refine h.tended (.giveApart hw h.sole h.marker (fun d hd => ?_) hyz _ _)
  obtain ⟨ho, hd⟩ := Classical.not_imp.mp hd
  exact ⟨not_not.mp hd, (h.done ho).unlinked d (not_not.mp hd)⟩

/-! ### The start of a zone's sweep -/

theorem State.Sole.started (hl : p.Sole z none) (hm : (t.zone z).marker = none) (hk : ∃ w, t.slot k = some w ∧ w.zone = z)
    (hj : ∀ j, j ≠ k → t.slot j = p.slot j) : t.Sole z (some k) := by
  obtain ⟨v, hv, hz⟩ := hk
  refine ⟨fun j w hs => ?_, fun j h => ?_, fun _ => hm⟩
  · by_cases hjk : j = k
    · subst hjk
      exact iff_of_true (Option.some.inj (hv.symm.trans hs) ▸ hz) rfl
    · rw [hj j hjk] at hs
      exact iff_of_false (fun hz => nomatch (hl.slots j w hs).mp hz) fun h => hjk (Option.some.inj h).symm
  · cases h
    rw [hv]
    exact nofun

theorem State.TakenUp.standing (hl : p.Sole z none) (hm : (t.zone z).marker = none) {w : Sweep} (hk : t.slot k = some w)
    (hz : w.zone = z) (hd : w.direction = dir) (ho : w.origin = org) (hj : ∀ j, j ≠ k → t.slot j = p.slot j) :
    s.TakenUp t z (some k) dir org :=
  ⟨hl.started hm ⟨w, hk, hz⟩ hj, hm, fun j h => by cases h; exact ⟨w, hk, hd, ho⟩, nofun⟩

/-- What a walk comes to for its zone (R65, R73, R74). -/
theorem State.TakenUp.of_walkedTo (hw : Work s p) (hl : p.Sole z none) (ht : p.WalkedTo t z dir org k)
    (hm : (t.zone z).marker = none) (hj : ∀ j, j ≠ k → t.slot j = p.slot j) : ∃ o, s.TakenUp t z o dir org := by
  obtain ⟨hint, -, hrest⟩ := ht
  by_cases hp : (p.walkCounts z dir).pending = 0
  · rw [if_pos hp] at hrest
    obtain ⟨hlink, hlast, hfree, htells⟩ := hrest
    rw [hw.clock_eq] at htells
    refine ⟨none, State.sole_none hfree, hm, nofun, fun _ => ⟨hlast, fun d hd => (hlink d ((hw.isDoorOf z d).mpr hd)).1,
      fun d hd hh => ?_, _, _, hp, htells⟩⟩
    have hi := hint d ((hw.isDoorOf z d).mpr hd)
    cases dir with
    | release => exact hi.1
    | lock =>
      rw [hw.held_eq, hh.resolve_left nofun] at hi
      exact hi.1
  · rw [if_neg hp] at hrest
    exact ⟨some k, .standing hl hm hrest.1 rfl rfl rfl hj⟩

/-- A sweep begins in a slot (R62). -/
theorem State.takenUp_start (hw : Work s p) (hl : p.Sole z none) (hb : dir = .lock → ¬ s.Barred z) (n : Nat) :
    ∃ o, s.TakenUp ((p.startIn k z dir org).finishBy n k) z o dir org := by
  cases hwarn : p.isWarned z dir org with
  | true =>
    have hslot := State.slot_startIn_warned (k := k) hwarn
    rw [State.finishBy_going (State.isFinished_warning hslot rfl)]
    exact ⟨some k, .standing hl (by rw [State.marker_startIn, if_pos rfl]) hslot rfl rfl rfl
      fun j hj => p.slot_startIn_ne hj z dir org⟩
  | false =>
    have hr : p.Ready ((p.taken k ⟨z, dir, org, .active, 0, Counts.zero⟩).rederive z) k ⟨z, dir, org, .active, 0, Counts.zero⟩ :=
      State.ready_taken (fun j v _ hv hz => nomatch (hl.slots j v hv).mp hz) fun h g => hb h ((hw.barred z).mp g)
    obtain ⟨hwalk, hmark⟩ := hr.walkedTo_loop n (t := (p.startIn k z dir org).finishBy n k)
      (by rw [State.startIn_active hwarn]; rfl)
    exact State.TakenUp.of_walkedTo hw hl hwalk hmark fun j hj => State.slot_started_ne p k z dir org n hj

theorem State.takenUp_startSweep (hw : Work s p) (hl : p.Sole z none) (hb : dir = .lock → ¬ s.Barred z) (k : SlotNo)
    (org : Origin) : ∃ o, s.TakenUp (p.startSweep k z dir org) z o dir org := by
  rw [State.startSweep_eq]
  exact State.takenUp_start hw hl hb 33

/-- What a giving does to its zone: its sweep runs on, a sweep has begun, or the zone waits (R55, R56, R58). -/
theorem State.give_cases (hw : Work s p) (hb : dir = .lock → ¬ s.Barred z) (hl : p.Sole z o) (org : Origin) :
    ((∃ k w, o = some k ∧ p.slot k = some w ∧ w.direction = dir) ∧ (p.give z dir org).1 = p) ∨
    ((∀ k w, o = some k → p.slot k = some w → w.direction ≠ dir) ∧ ∃ o', s.TakenUp (p.give z dir org).1 z o' dir org) ∨
    (o = none ∧ (p.give z dir org).1 = p.recordMarker z dir org) := by
  have hbz : dir = .lock → ¬ p.Barred z := fun h g => hb h ((hw.barred z).mp g)
  cases o with
  | some k =>
    obtain ⟨w, hk⟩ := Option.ne_none_iff_exists'.mp (hl.held k rfl)
    by_cases hd : w.direction = dir
    · exact .inl ⟨⟨k, w, rfl, hk, hd⟩, by rw [State.give_ignored hbz (hl.sweepOf hk) hd]⟩
    · refine .inr (.inl ⟨fun j v hj hv => ?_, ?_⟩)
      · cases hj
        rw [hk] at hv
        cases hv
        exact hd
      · rw [State.give_eq hbz, hl.sweepOf hk]
        dsimp only
        rw [if_neg hd]
        exact State.takenUp_startSweep (hw.trans (State.cancelled hk).work) hl.cancelSweep hb k _
  | none =>
    rw [State.give_eq hbz, State.sweepOf_eq_none.mpr hl.not_hasSweep]
    dsimp only
    cases hf : p.freeSlot with
    | some k => exact .inr (.inl ⟨nofun, State.takenUp_startSweep hw hl hb k _⟩)
    | none => exact .inr (.inr ⟨rfl, rfl⟩)

end

end Sys2Proof.Machine




namespace Sys2Proof.Machine

/-! ### A waiting zone while the slots of other zones are filled and offered, some of them barred (R59) -/

section
variable {s p q t : State} {z : ZoneNo} {m : Marker} {k : SlotNo}

/-- A walk over the waiting zones leaves a waiting one, or drops its LOCK marker when it is barred. -/
theorem State.takeWaiting_spare (hm : (p.zone z).marker = some m) (l : List ZoneNo) :
    State.Tended (Touch.spare z none) p (State.takeWaiting l p).1 ∨
    ((m.direction = .lock ∧ p.Barred z) ∧ (State.takeWaiting l p).1.slots = p.slots ∧
      ((State.takeWaiting l p).1.zone z).marker = none) := by
  induction l generalizing p with
  | nil => exact .inl (.refl p)
  | cons y l ih =>
    unfold State.takeWaiting
    split
    · exact ih hm
    · next my hy =>
      split
      · next hb =>
        have hwork : Work p (p.updZone y fun x => { x with marker := none }) := .updZone y
        by_cases hyz : y = z
        · subst hyz
          obtain rfl : my = m := Option.some.inj (hy.symm.trans hm)
          have hnone : ((p.updZone y fun x => { x with marker := none }).zone y).marker = none := by
            rw [State.zone_updZone, if_pos rfl]
          obtain ⟨-, hslots, -⟩ := State.takeWaiting_spec l (p.updZone y fun x => { x with marker := none })
          have ht := (State.Tended.takeWaiting (A := Touch.spare y none) (s := p.updZone y fun x => { x with marker := none })
            (fun a ha hay => by rw [hay, hnone] at ha; cases ha) l).1
          exact .inr ⟨⟨hb.1, State.fireBarred_iff.mp hb.2⟩, hslots,
            (ht.moves.zone_outside Touch.not_zone_apart).1.trans hnone⟩
        · have hdrop : State.Tended (Touch.spare z none) p (p.updZone y fun x => { x with marker := none }) := .dropMarker hyz
          rcases ih (p := p.updZone y fun x => { x with marker := none })
            (by rw [State.zone_updZone, if_neg (Ne.symm hyz)]; exact hm) with h | ⟨⟨h1, h2⟩, h3, h4⟩
          · exact .inl (hdrop.trans h)
          · exact .inr ⟨⟨h1, (hwork.barred z).mp h2⟩, h3, h4⟩
      · exact .inl (.refl p)

/-- One round of a loop of offers. -/
theorem State.offerLoop_round (n : Nat) (k : SlotNo) (p : State) :
    State.offerLoop (n + 1) k p = match State.takeWaiting (p.zonesInRankOrder p.waitingZones) p with
      | (q, none) => q
      | (q, some (y, my)) => (q.startIn k y my.direction my.origin).finishBy n k := by
  conv_lhs => unfold State.offerLoop
  generalize State.takeWaiting (p.zonesInRankOrder p.waitingZones) p = r
  obtain ⟨q, _ | ⟨y, my⟩⟩ := r <;> rfl

/-- What becomes of a waiting zone: it still waits, its marker was taken up, or it was dropped as barred. -/
inductive State.FromMarker (s p t : State) (z : ZoneNo) (m : Marker) : Prop where
  | waits (h : State.Tended (Touch.spare z none) p t)
  | taken (o : Option SlotNo) (h : s.TakenUp t z o m.direction m.origin)
  | dropped (hb : m.direction = .lock ∧ s.Barred z) (h : t.Sole z none) (hm : (t.zone z).marker = none)

theorem State.FromMarker.before (hpq : State.Tended (Touch.spare z none) p q) (h : s.FromMarker q t z m) :
    s.FromMarker p t z m := by
  cases h with
  | waits h => exact .waits (hpq.trans h)
  | taken o h => exact .taken o h
  | dropped hb h hm => exact .dropped hb h hm

theorem State.FromMarker.loadUnder (h : s.FromMarker p q z m) (y : ZoneNo) :
    s.FromMarker p (q.loadUnder .afterSweep y) z m := by
  cases h with
  | waits h => exact .waits (h.trans (.loadUnder y))
  | taken o h => exact .taken o (h.tended (.loadUnder y))
  | dropped hb h hm =>
    have ht : State.Tended (Touch.spare z none) q (q.loadUnder .afterSweep y) := .loadUnder y
    exact .dropped hb (h.tended ht) ((ht.moves.zone_outside Touch.not_zone_apart).1.trans hm)

/-- A finish of another zone's sweep, by what the offer of its slot makes of the zone. -/
theorem State.FromMarker.finishBy {n : Nat} (hw : Work s p) (hl : p.Sole z none) (hm : (p.zone z).marker = some m)
    (hloop : ∀ q, Work s q → q.Sole z none → (q.zone z).marker = some m → s.FromMarker q (State.offerLoop n k q) z m) :
    s.FromMarker p (p.finishBy n k) z m := by
  cases hf : p.isFinished k with
  | false =>
    rw [State.finishBy_going hf]
    exact .waits (.refl p)
  | true =>
    obtain ⟨w, hs⟩ := State.isFinished_slot hf
    have hwz : w.zone ≠ z := fun h => nomatch (hl.slots k w hs).mp h
    have hc : State.Tended (Touch.spare z none) p (p.closed k w) :=
      (State.Tended.leaveDoors fun _ _ => trivial).trans (.closeSweep (fun h => nomatch h) hwz false)
    rw [State.finishBy_done hf hs]
    exact .before hc ((hloop (p.closed k w) (hw.trans hc.moves.work) (hl.tended hc)
      ((hc.moves.zone_outside Touch.not_zone_apart).1.trans hm)).loadUnder w.zone)

/-- The start of another zone's sweep, with its finish. -/
theorem State.FromMarker.start {n : Nat} (hw : Work s p) (hl : p.Sole z none) (hm : (p.zone z).marker = some m)
    {y : ZoneNo} (hyz : y ≠ z) (dir : Direction) (org : Origin)
    (hloop : ∀ q, Work s q → q.Sole z none → (q.zone z).marker = some m → s.FromMarker q (State.offerLoop n k q) z m) :
    s.FromMarker p ((p.startIn k y dir org).finishBy n k) z m := by
  have hs : State.Tended (Touch.spare z none) p (p.startIn k y dir org) := .startIn (fun h => nomatch h) hyz (fun _ _ => trivial) _ _
  exact .before hs (.finishBy (hw.trans hs.moves.work) (hl.tended hs) ((hs.moves.zone_outside Touch.not_zone_apart).1.trans hm)
    hloop)

/-- After its marker was dropped, a zone is left alone by the rest of the round. -/
theorem State.Sole.finishStarted (hl : p.Sole z none) (hm : (p.zone z).marker = none) {y : ZoneNo} (hyz : y ≠ z) (dir : Direction)
    (org : Origin) (n : Nat) : State.Tended (Touch.spare z none) p ((p.startIn k y dir org).finishBy n k) := by
  have hoff : (Touch.spare z none).Offers k p := hl.offers (.refl p) hm (fun _ h => absurd trivial h) nofun
  have hs : State.Tended (Touch.spare z none) p (p.startIn k y dir org) := .startIn (fun h => nomatch h) hyz (fun _ _ => trivial) _ _
  exact hs.trans (.finishBy (hoff.moves hs.moves) n)

/-- A loop of offers of a slot. -/
theorem State.FromMarker.offerLoop (n : Nat) (hw : Work s p) (hl : p.Sole z none) (hm : (p.zone z).marker = some m) :
    s.FromMarker p (State.offerLoop n k p) z m := by
  induction n generalizing p with
  | zero => exact .waits (.refl p)
  | succ n ih =>
    have hspare := State.takeWaiting_spare hm (p.zonesInRankOrder p.waitingZones)
    obtain ⟨-, -, hspec⟩ := State.takeWaiting_spec (p.zonesInRankOrder p.waitingZones) p
    rw [State.offerLoop_round]
    generalize State.takeWaiting (p.zonesInRankOrder p.waitingZones) p = r at hspare hspec
    obtain ⟨q, next⟩ := r
    rcases hspare with ht | ⟨⟨hd, hb⟩, hslots, hnone⟩
    · have hq : Work s q := hw.trans ht.moves.work
      have hlq : q.Sole z none := hl.tended ht
      have hmq : (q.zone z).marker = some m := (ht.moves.zone_outside Touch.not_zone_apart).1.trans hm
      cases next with
      | none => exact .waits ht
      | some e =>
        obtain ⟨y, my⟩ := e
        obtain ⟨hy, hfree⟩ := hspec
        dsimp only at hy hfree ⊢
        by_cases hyz : y = z
        · subst hyz
          obtain rfl : my = m := Option.some.inj (hy.symm.trans hmq)
          obtain ⟨o, h⟩ := State.takenUp_start (org := my.origin) (k := k) hq hlq (fun h g => hfree h ((hq.barred y).mpr g)) n
          exact .taken o h
        · exact .before ht (.start hq hlq hmq hyz _ _ fun q' hw' hl' hm' => ih hw' hl' hm')
    · have hlq : q.Sole z none := by
        refine State.sole_none fun ⟨j, hj⟩ => hl.not_hasSweep ⟨j, ?_⟩
        exact (congrArg (fun v => v[j.val].map Sweep.zone) hslots).symm.trans hj
      have hbs : m.direction = .lock ∧ s.Barred z := ⟨hd, (hw.barred z).mp hb⟩
      cases next with
      | none => exact .dropped hbs hlq hnone
      | some e =>
        obtain ⟨y, my⟩ := e
        have hyz : y ≠ z := by
          rintro rfl
          exact nomatch hnone.symm.trans hspec.1
        have ht := hlq.finishStarted (k := k) hnone hyz my.direction my.origin n
        exact .dropped hbs (hlq.tended ht) ((ht.moves.zone_outside Touch.not_zone_apart).1.trans hnone)

theorem State.FromMarker.startSweep (hw : Work s p) (hl : p.Sole z none) (hm : (p.zone z).marker = some m) {y : ZoneNo}
    (hyz : y ≠ z) (dir : Direction) (org : Origin) : s.FromMarker p (p.startSweep k y dir org) z m := by
  rw [State.startSweep_eq]
  exact .start hw hl hm hyz dir org fun q hq hlq hmq => .offerLoop 33 hq hlq hmq

/-- What the giving of another zone's marker makes of a waiting zone. -/
theorem State.FromMarker.give (hw : Work s p) (hl : p.Sole z none) (hm : (p.zone z).marker = some m) {y : ZoneNo}
    (hyz : y ≠ z) (dir : Direction) (org : Origin) : s.FromMarker p (p.give y dir org).1 z m := by
  by_cases hby : dir = .lock ∧ p.Barred y
  · rw [State.give_declined hby.1 hby.2]
    exact .waits (.refl p)
  rw [State.give_eq fun h g => hby ⟨h, g⟩]
  split
  · next k w hs =>
    have hk : p.slot k = some w := State.mem_sweeps.mp (List.mem_of_find?_eq_some hs)
    split
    · exact .waits (.refl p)
    · have hwz : w.zone ≠ z := fun h => nomatch (hl.slots k w hk).mp h
      have hc : State.Tended (Touch.spare z none) p (p.cancelSweep k) := .cancelOf hk (fun h => nomatch h) hwz fun _ _ => trivial
      exact .before hc (.startSweep (hw.trans hc.moves.work) (hl.tended hc)
        ((hc.moves.zone_outside Touch.not_zone_apart).1.trans hm) hyz _ _)
  · split
    · exact .startSweep hw hl hm hyz _ _
    · exact .waits (.recordMarker hyz _ _)

end

end Sys2Proof.Machine




namespace Sys2Proof.Machine

/-! ### A zone of a set of givings, before and after its own (R55 to R58) -/

/-- A zone before its own giving: as it was, or its marker was taken up or dropped. -/
structure State.Awaits (s p : State) (z : ZoneNo) (o : Option SlotNo) : Prop where
  sole : p.Sole z o
  marker : (p.zone z).marker = none ∨ (p.zone z).marker = (s.zone z).marker
  sweep : ∀ k w, o = some k → p.slot k = some w → s.slot k = some w ∨ (s.zone z).marker = some ⟨w.direction, w.origin⟩
  stays : ∀ k w, s.slot k = some w → w.zone = z → p.slot k = some w

/-- The zone has a sweep of the direction. -/
def State.Sweeps (s : State) (z : ZoneNo) (dir : Direction) : Prop := ∃ k w, s.slot k = some w ∧ w.zone = z ∧ w.direction = dir

/-- A zone after its own giving of a marker: its sweep ran on, it was taken up, or it waits. -/
inductive State.Settled (s t : State) (z : ZoneNo) (dir : Direction) (org : Origin) : Prop where
  | kept (k : SlotNo) (w : Sweep) (hs : s.slot k = some w) (hd : w.direction = dir) (h : t.Sole z (some k)) (ht : t.slot k = some w)
  | taken (o : Option SlotNo) (org' : Origin) (hn : ¬ s.Sweeps z dir) (h : s.TakenUp t z o dir org')
      (horg : org' = org ∨ (o ≠ none ∧ (s.zone z).marker = some ⟨dir, org'⟩))
  | waits (hn : ¬ s.Sweeps z dir) (h : t.Sole z none) (hm : (t.zone z).marker = some ⟨dir, org⟩)

section
variable {s p q t : State} {z y : ZoneNo} {o : Option SlotNo} {dir : Direction} {org : Origin}

theorem State.Awaits.tended (h : s.Awaits p z o) (ht : State.Tended (Touch.spare z o) p q) : s.Awaits q z o := by
  obtain ⟨hl, hm, hs, hk⟩ := h
  refine ⟨hl.tended ht, ?_, fun k w ho hw => ?_, fun k w hw hz => ?_⟩
  · rwa [(ht.moves.zone_outside Touch.not_zone_apart).1]
  · rw [ht.slots k (Touch.not_slot_apart ho)] at hw
    exact hs k w ho hw
  · have hp := hk k w hw hz
    rwa [ht.slots k (Touch.not_slot_apart ((hl.slots k w hp).mp hz))]

/-- The giving of another zone's marker. -/
theorem State.Awaits.other (hw : Work s p) (h : s.Awaits p z o) (hyz : y ≠ z) (dir : Direction) (org : Origin) :
    ∃ o', s.Awaits (p.give y dir org).1 z o' := by
  cases hm : (p.zone z).marker with
  | none => exact ⟨o, h.tended (.giveApart hw h.sole hm (fun _ g => absurd trivial g) hyz dir org)⟩
  | some m =>
    obtain rfl : o = none := by
      by_contra ho
      exact nomatch hm.symm.trans (h.sole.marker ho)
    have hms : (s.zone z).marker = some m := (h.marker.resolve_left (by rw [hm]; nofun)).symm.trans hm
    have hno : ∀ k w, s.slot k = some w → w.zone ≠ z := fun k w hw hz =>
      nomatch (h.sole.slots k w (h.stays k w hw hz)).mp hz
    rcases State.FromMarker.give hw h.sole hm hyz dir org with ht | ⟨o', ht⟩ | ⟨-, hl, hnone⟩
    · exact ⟨none, h.tended ht⟩
    · refine ⟨o', ht.sole, .inl ht.marker, fun k w ho hk => .inr ?_, fun k w hw hz => absurd hz (hno k w hw)⟩
      obtain ⟨v, hv, hd, hg⟩ := ht.going k ho
      obtain rfl : v = w := Option.some.inj (hv.symm.trans hk)
      rw [hms, hd, hg]
    · exact ⟨none, hl, .inl hnone, nofun, fun k w hw hz => absurd hz (hno k w hw)⟩

theorem State.Settled.other (hb : dir = .lock → ¬ s.Barred z) (hw : Work s p) (h : s.Settled p z dir org) (hyz : y ≠ z)
    (dir' : Direction) (org' : Origin) : s.Settled (p.give y dir' org').1 z dir org := by
  cases h with
  | kept k w hs hd h hp =>
    have ht := State.Tended.giveApart hw h (h.marker nofun) (D := fun _ => True) (fun _ g => absurd trivial g) hyz dir' org'
    exact .kept k w hs hd (h.tended ht) ((ht.slots k (Touch.not_slot_apart rfl)).trans hp)
  | taken o og hn h horg => exact .taken o og hn (h.other hw hyz dir' org') horg
  | waits hn h hm =>
    rcases State.FromMarker.give hw h hm hyz dir' org' with ht | ⟨o', ht⟩ | ⟨⟨hd, hbz⟩, -⟩
    · exact .waits hn (h.tended ht) ((ht.moves.zone_outside Touch.not_zone_apart).1.trans hm)
    · exact .taken o' org hn ht (.inl rfl)
    · exact absurd hbz (hb hd)

theorem State.Awaits.not_sweeps (h : s.Awaits p z o) (hno : ∀ k w, o = some k → p.slot k = some w → w.direction ≠ dir) :
    ¬ s.Sweeps z dir := by
  rintro ⟨k, w, hw, hz, hd⟩
  have hp := h.stays k w hw hz
  exact hno k w ((h.sole.slots k w hp).mp hz) hp hd

/-- The giving of the zone's own marker. -/
theorem State.Awaits.given (hs : s.SweepLaw) (hb : dir = .lock → ¬ s.Barred z) (hw : Work s p) (h : s.Awaits p z o) (org : Origin) :
    s.Settled (p.give z dir org).1 z dir org := by
  rcases State.give_cases hw hb h.sole org with ⟨⟨k, w, ho, hp, hd⟩, hgive⟩ | ⟨hno, o', ht⟩ | ⟨ho, hgive⟩
  · subst ho
    rw [hgive]
    rcases h.sweep k w rfl hp with hsk | hm
    · exact .kept k w hsk hd h.sole hp
    · subst hd
      refine .taken (some k) w.origin ?_ ⟨h.sole, h.sole.marker nofun, fun j hj => ?_, nofun⟩ (.inr ⟨nofun, hm⟩)
      · rintro ⟨j, v, hv, hz, -⟩
        have := hs.2 j v hv
        rw [hz, hm] at this
        cases this
      · cases hj
        exact ⟨w, hp, rfl, rfl⟩
  · exact .taken o' org (h.not_sweeps hno) ht (.inl rfl)
  · subst ho
    rw [hgive]
    have hslot : ∀ k, (p.recordMarker z dir org).slot k = p.slot k := fun _ => rfl
    refine .waits (h.not_sweeps nofun) (State.sole_none fun ⟨k, hk⟩ => h.sole.not_hasSweep ⟨k, by rwa [← hslot k]⟩) ?_
    rw [State.zone_of_set (congrArg State.zones (State.recordMarker_eq p z dir org))]

/-! ### One after another (R57) -/

variable {l : List (ZoneNo × Direction)}

theorem State.Settled.others (hb : dir = .lock → ¬ s.Barred z) (hz : ∀ e ∈ l, e.1 ≠ z) (hw : Work s p) (h : s.Settled p z dir org)
    (org' : Origin) : s.Settled (State.giveList org' l p).1 z dir org := by
  induction l generalizing p with
  | nil => exact h
  | cons e l ih =>
    obtain ⟨y, d⟩ := e
    rw [State.giveList_cons]
    exact ih (fun e he => hz e (List.mem_cons_of_mem _ he)) (hw.trans (.give y d org'))
      (h.other hb hw (hz _ List.mem_cons_self) d org')

theorem State.Awaits.inTurn (hs : s.SweepLaw) (hb : dir = .lock → ¬ s.Barred z) (hn : (l.map Prod.fst).Nodup) (hz : (z, dir) ∈ l)
    (hw : Work s p) (h : s.Awaits p z o) : s.Settled (State.giveList org l p).1 z dir org := by
  induction l generalizing p o with
  | nil => exact absurd hz List.not_mem_nil
  | cons e l ih =>
    obtain ⟨y, d⟩ := e
    obtain ⟨hy, hn⟩ := List.nodup_cons.mp hn
    have hw' : Work s (p.give y d org).1 := hw.trans (.give y d org)
    rw [State.giveList_cons]
    by_cases hyz : y = z
    · subst hyz
      have hyl : ∀ e ∈ l, e.1 ≠ y := fun e he hne => hy (List.mem_map.mpr ⟨e, he, hne⟩)
      obtain rfl : dir = d := by
        rcases List.mem_cons.mp hz with he | he
        · exact congrArg Prod.snd he
        · exact absurd rfl (hyl _ he)
      exact (h.given hs hb hw org).others hb hyl hw' org
    · obtain ⟨o', h⟩ := h.other hw hyz d org
      refine ih hn ((List.mem_cons.mp hz).resolve_left fun he => hyz ?_) hw' h
      exact (congrArg Prod.fst he).symm

/-- A set of givings settles each of its zones that is not barred. -/
theorem State.SweepLaw.settled (hs : s.SweepLaw) (hb : dir = .lock → ¬ s.Barred z) (hn : (l.map Prod.fst).Nodup)
    (hz : (z, dir) ∈ l) (org : Origin) : s.Settled (s.giveSet org l).1 z dir org := by
  obtain ⟨o, ho⟩ := hs.sole z
  have h : s.Awaits s z o := ⟨ho, .inr rfl, fun _ _ _ h => .inl h, fun _ _ h _ => h⟩
  have hperm := sortByKey_perm (fun e : ZoneNo × Direction => (s.zone e.1).rank) l
  exact h.inTurn hs hb ((hperm.map Prod.fst).nodup_iff.mpr hn) (hperm.mem_iff.mpr hz) (.refl s)

end

end Sys2Proof.Machine




namespace Sys2Proof.Machine

/-! ### The givings of an input (R136) -/

/-- The state with other inputs. -/
def State.withInputs (s : State) (v : Vector Input 8) : State := { s with inputs := v }

section
variable {s t : State} {z : ZoneNo} {dir : Direction} {k : SlotNo} {v : Vector Input 8} {o : Origin}

/-- A walk does not read the inputs. -/
theorem State.WalkedTo.ofInputs (h : (s.withInputs v).WalkedTo t z dir o k) : s.WalkedTo t z dir o k := by
  obtain ⟨hint, hwork, hrest⟩ := h
  refine ⟨hint, hwork, ?_⟩
  by_cases hp : (s.walkCounts z dir).pending = 0
  · exact (if_pos (c := (s.walkCounts z dir).pending = 0) hp).mpr ((if_pos (c := (s.walkCounts z dir).pending = 0) hp).mp hrest)
  · obtain ⟨hslot, hlink, hload, hother, htrunk⟩ := (if_neg (c := (s.walkCounts z dir).pending = 0) hp).mp hrest
    refine (if_neg (c := (s.walkCounts z dir).pending = 0) hp).mpr ⟨hslot, hlink, hload, hother, fun hw hs => ?_⟩
    obtain ⟨order, h1, h2, h3⟩ := htrunk hw hs
    have harbiter : ∀ u, State.SameArbiter (s.setTrunk u (s.walkTrunk z dir order u))
        (State.setTrunk (s.withInputs v) u (s.walkTrunk z dir order u)) u := fun _ => ⟨rfl, fun _ => rfl⟩
    exact ⟨order, h1, h2, fun u => (h3 u).trans (harbiter u).consider⟩

theorem State.Settled.ofInputs (h : (s.withInputs v).Settled t z dir o) : s.Settled t z dir o := by
  cases h with
  | kept k w hw hd hl ht => exact .kept k w hw hd hl ht
  | taken x og hn hl horg =>
    refine .taken x og hn ⟨hl.sole, hl.marker, hl.going, fun hx => ?_⟩ horg
    obtain ⟨hlast, hlink, hint, htold⟩ := hl.done hx
    exact ⟨hlast, hlink, hint, htold⟩
  | waits hn hl hm => exact .waits hn hl hm

/-- What an input's set of givings comes to for a zone that is not barred. -/
theorem State.Settled.outcome (hs : s.SweepLaw) (h : s.Settled t z dir .input) :
    if ∃ k, (s.slot k).map (fun w => (w.zone, w.direction)) = some (z, dir) then
      ∀ k, (s.slot k).map Sweep.zone = some z → t.slot k = s.slot k
    else
      (∃ k, (t.slot k).any (fun w => decide (w.zone = z ∧ w.direction = dir ∧
        (w.origin = .input ∨ some ⟨dir, w.origin⟩ = (s.zone z).marker))) = true) ∨
      (t.zone z).marker = some ⟨dir, .input⟩ ∨
      ((t.zone z).last = some dir ∧ ¬ t.HasSweep z ∧
        (∀ d, s.IsDoorOf z d → (t.door d).sweep = none ∧ ((dir = .release ∨ s.held d = false) → (t.door d).intent = dir.intent)) ∧
        ∃ total counts, counts.pending = 0 ∧
          t.noticeSet.Tells s.clock.stamp .sweepDone (.zone z) (.sweepDone dir .input false total counts)) := by
  have hsweeps : s.Sweeps z dir ↔ ∃ k, (s.slot k).map (fun w => (w.zone, w.direction)) = some (z, dir) := by
    simp only [State.Sweeps, Option.map_eq_some_iff, Prod.mk.injEq]
  cases h with
  | kept k w hw hd h ht =>
    have hz : w.zone = z := (h.slots k w ht).mpr rfl
    rw [if_pos (hsweeps.mp ⟨k, w, hw, hz, hd⟩)]
    intro j hj
    obtain ⟨x, hx, hxz⟩ := Option.map_eq_some_iff.mp hj
    obtain rfl : j = k := hs.1 j k x hx w hw (hxz.trans hz.symm)
    exact ht.trans hw.symm
  | taken o og hn h horg =>
    rw [if_neg fun g => hn (hsweeps.mpr g)]
    cases o with
    | some k =>
      obtain ⟨w, hw, hd, ho⟩ := h.going k rfl
      refine .inl ⟨k, ?_⟩
      rw [hw, Option.any_some, decide_eq_true_iff]
      refine ⟨(h.sole.slots k w hw).mpr rfl, hd, horg.imp ho.trans fun hm => ?_⟩
      rw [hm.2, ho]
    | none =>
      obtain rfl : og = .input := horg.resolve_right fun g => g.1 rfl
      obtain ⟨hlast, hlink, hint, htold⟩ := h.done rfl
      exact .inr (.inr ⟨hlast, h.sole.not_hasSweep, fun d hd => ⟨hlink d hd, hint d hd⟩, htold⟩)
  | waits hn _ hm =>
    rw [if_neg fun g => hn (hsweeps.mpr g)]
    exact .inr (.inl hm)

/-- An input's giving that starts a sweep of its zone with a warning, or walks it. -/
theorem State.giveInput_started (hb : dir = .lock → ¬ s.Barred z) (hno : ¬ s.HasSweep z) (hk : s.slot k = none)
    (hlow : ∀ j, j < k → s.slot j ≠ none) :
    let t := ((s.withInputs v).give z dir .input).1
    if dir = .lock ∧ (s.zone z).lead ≠ 0 then
      t = { s.withInputs v with
        slots := s.slots.set k.val (some ⟨z, .lock, .input, .warning ⟨(s.zone z).lead, false⟩, 0, ⟨0, 0, 0, 0, 0, 0⟩⟩)
        zones := s.zones.set z.val { s.zone z with marker := none, state := .warning }
        trunks := t.trunks } ∧
      (∀ u, t.trunk u = { s.trunk u with warnList := (t.trunk u).warnList }) ∧
      (∀ d, s.IsDoorOf z d → (s.door d).chime = true → s.held d = false →
        ⟨d, (s.zone z).chime, (s.zone z).lead⟩ ∈ (t.trunk (s.door d).trunk).warnList)
    else s.WalkedTo t z dir .input k := by
  have hgive : ((s.withInputs v).give z dir .input).1 = (s.withInputs v).startSweep k z dir .input := by
    rw [State.give_started (s := s.withInputs v) hb hno hk hlow]
  have hiff := State.isWarned_iff (s.withInputs v) z dir .input
  dsimp only
  rw [hgive]
  split
  · next h =>
    obtain ⟨rfl, hlead⟩ := h
    have hw : (s.withInputs v).isWarned z .lock .input = true := hiff.mpr ⟨rfl, hlead, nofun, nofun⟩
    have htrunk := fun u => State.startIn_warned_trunk (k := k) hw u
    have hmem := fun d (hd : (s.withInputs v).IsDoorOf z d) => State.startIn_warned_mem (k := k) hw hd
    rw [← State.startSweep_warned hw] at htrunk hmem
    exact ⟨State.startSweep_warned_rest hw (hb rfl) hno, htrunk, hmem⟩
  · next h =>
    have hw : (s.withInputs v).isWarned z dir .input = false :=
      Bool.eq_false_iff.mpr fun g => h ⟨(hiff.mp g).1, (hiff.mp g).2.1⟩
    exact (State.walkedTo_startSweep (s := s.withInputs v) hw (fun j w _ hj hz => hno ⟨j, by
      rw [show s.slot j = some w from hj, ← hz]; rfl⟩) hb).ofInputs

theorem State.giveInput_waiting (hb : dir = .lock → ¬ s.Barred z) (hno : ¬ s.HasSweep z) (hk : ∀ k, s.slot k ≠ none) :
    ((s.withInputs v).give z dir .input).1 = { s.withInputs v with
      zones := s.zones.set z.val { s.zone z with marker := some ⟨dir, .input⟩ }
      noticeSet := s.noticeSet.raise s.clock.stamp .sweepWaiting (.zone z) (.sweepWaiting dir .input
        ((List.finRange 32).filter (fun y => decide (y = z) || (s.zone y).marker.isSome)).length) } := by
  rw [State.give_waiting (s := s.withInputs v) hb hno hk]
  exact State.recordMarker_eq (s.withInputs v) z dir .input

theorem State.giveInput_ignored (hs : s.SweepLaw) (hb : dir = .lock → ¬ s.Barred z)
    (h : ∃ k, (s.slot k).map (fun w => (w.zone, w.direction)) = some (z, dir)) :
    ((s.withInputs v).give z dir .input).1 = s.withInputs v := by
  obtain ⟨k, hk⟩ := h
  obtain ⟨w, hw, he⟩ := Option.map_eq_some_iff.mp hk
  obtain ⟨hz, hd⟩ := Prod.mk.inj he
  have hsweep : (s.withInputs v).sweepOf z = some (k, w) := hz ▸ State.sweepOf_eq_some (s := s.withInputs v) hs hw
  rw [State.give_ignored (s := s.withInputs v) hb hsweep hd]

end

end Sys2Proof.Machine




namespace Sys2Proof.Machine

/-! ### What an input's function does (R136, R138) -/

section
variable {s t : State} {i : InputNo}

/-- Of the inputs no more changes than which hold each owns. -/
def State.OwnersAside (s t : State) : Prop := ∀ j, t.input j = { s.input j with owned := (t.input j).owned }

theorem State.OwnersAside.of_inputs (h : t.inputs = s.inputs) : s.OwnersAside t := fun j => by
  have : t.input j = s.input j := congrArg (·[j.val]) h
  rw [this]

theorem State.OwnersAside.trans {q : State} (h : s.OwnersAside t) (g : t.OwnersAside q) : s.OwnersAside q := fun j => by
  have hj := g j
  rw [h j] at hj
  exact hj

theorem State.ownersAside_updInput (s : State) (i : InputNo) {f : Input → Input} (hf : ∀ x, f x = { x with owned := (f x).owned }) :
    s.OwnersAside (s.updInput i f) := fun j => by
  rw [State.input_updInput]
  split
  · next h => rw [h]; exact hf _
  · rfl

/-! #### Fire -/

/-- The fire state after OV0 has become active or inactive. -/
def fireAfter (active : Bool) (f : FireState) : FireState := if active = true then .active else if f = .active then .cleared else f

theorem State.work_fireOnset (s : State) : Work { s with fire := .active } s.fireOnset := by
  unfold State.fireOnset
  dsimp only
  exact ((((Work.forEach _ fun z _ => .withdrawLock z).trans (.forEach _ fun d _ => .releaseFireDoor d)).trans .rederiveAll).trans
    (.offerSlots _)).trans (.raise _ _ _)

theorem State.work_fireCleared (s : State) : Work { s with fire := .cleared } s.fireCleared :=
  Work.trans (.raise _ _ _) .rederiveAll

/-- A change of OV0 moves the fire state, and the rest of it is work (R138 to R141). -/
theorem State.work_fireChange (b : Bool) (s : State) : Work { s with fire := fireAfter b s.fire } (s.fireChange b) := by
  have hstay : ∀ f, s.fire = f → Work { s with fire := f } s := by
    rintro _ rfl
    exact .refl s
  unfold State.fireChange
  cases b <;> cases hf : s.fire
  case true.active => exact hstay _ hf
  case false.normal => exact hstay _ hf
  case false.cleared => exact hstay _ hf
  case false.active => exact s.work_fireCleared
  case true.normal => exact s.work_fireOnset
  case true.cleared => exact s.work_fireOnset

/-! #### Holds -/

theorem find_fresh (L : Nat) {ids : List Nat} (h : ids.length < 255) :
    ∃ n, ((List.range 255).map (fun i => (L + i) % 255 + 1)).find? (fun n => !ids.any (fun x => x == n)) = some n := by
  rw [← Option.isSome_iff_exists, List.find?_isSome]
  by_contra hno
  have hnodup : ((List.range 255).map (fun i => (L + i) % 255 + 1)).Nodup :=
    List.Nodup.map_on (fun a ha b hb hab => by
      rw [List.mem_range] at ha hb
      omega) List.nodup_range
  have hsub : (List.range 255).map (fun i => (L + i) % 255 + 1) ⊆ ids := fun n hn => by
    by_contra hni
    refine hno ⟨n, hn, ?_⟩
    rw [Bool.not_eq_true', List.any_eq_false]
    exact fun x hx hxn => hni (eq_of_beq hxn ▸ hx)
  have hle := (hnodup.subperm hsub).length_le
  rw [List.length_map, List.length_range] at hle
  omega

/-- The id of a new hold is not in use (R121). -/
theorem State.nextHoldId_fresh (h : s.holds.length < 255) : ∀ g ∈ s.holds, g.id ≠ s.nextHoldId := by
  obtain ⟨n, hn⟩ := find_fresh s.lastHoldId (ids := s.holds.map Hold.id) (by rwa [List.length_map])
  have hid : s.nextHoldId = n := by
    unfold State.nextHoldId
    simp only [List.any_map] at hn
    exact congrArg (fun x => Option.getD x 1) hn
  have hfree := List.find?_some hn
  intro g hg he
  rw [hid] at he
  simp only [Bool.not_eq_true', List.any_eq_false] at hfree
  exact hfree g.id (List.mem_map_of_mem hg) (by simp [he])

theorem State.work_addHold (s : State) (h : Hold) : Work (s.withHold h) (s.addHold h) := .beginHold h

/-- A HOLD input that has become active, with room in the list. -/
theorem State.makeInputHold_made (hn : s.holds.length < 16) : ∃ h ∈ (s.makeInputHold i).holds,
    (s.makeInputHold i).holds = s.holds ++ [h] ∧ h.kind = (s.input i).kind ∧ h.scope = .zones (s.input i).zones ∧
    h.origin = .input i ∧ h.remaining = none ∧ ((s.makeInputHold i).input i).owned = some h.id ∧
    (s.makeInputHold i).lastHoldId = h.id ∧ ∀ g ∈ s.holds, g.id ≠ h.id := by
  let h := s.newHold (s.input i).kind (.zones (s.input i).zones) (.input i) none
  have hmake : s.makeInputHold i = (s.addHold h).updInput i (fun x => { x with owned := some h.id }) :=
    if_neg (by rw [State.holdsFull, decide_eq_true_iff]; exact Nat.not_le.mpr hn)
  have hholds : (s.makeInputHold i).holds = s.holds ++ [h] := by
    rw [hmake]
    exact (s.work_addHold h).holds_eq
  refine ⟨h, hholds ▸ List.mem_append_right _ List.mem_cons_self, hholds, rfl, rfl, rfl, rfl, ?_, ?_,
    State.nextHoldId_fresh (by omega)⟩
  · rw [hmake, State.input_updInput, if_pos rfl]
  · rw [hmake]
    exact (s.work_addHold h).lastHoldId_eq

theorem State.makeInputHold_full (hn : 16 ≤ s.holds.length) : s.makeInputHold i = s.raiseInput i true :=
  if_pos (decide_eq_true hn)

/-- The end of a hold after its record has left the list. -/
theorem State.work_endHold (s : State) (h : Hold) (cause : HoldCause) : Work (s.removeHold h) (s.endHold h cause) := by
  unfold State.endHold
  dsimp only
  exact ((Work.forEach _ fun d _ => .freeDoor d).trans (.giveTrailing _)).trans (.raise _ _ _)

theorem State.ownersAside_removeHold (s : State) (h : Hold) : s.OwnersAside (s.removeHold h) := by
  unfold State.removeHold
  cases h.origin with
  | link => exact .of_inputs rfl
  | input i =>
    exact .trans (t := { s with holds := s.holds.filter (fun x => !(x.id == h.id)) }) (.of_inputs rfl)
      (State.ownersAside_updInput _ i fun x => by split <;> rfl)

theorem State.ownersAside_endOwned (s : State) (i : InputNo) (cause : HoldCause) : s.OwnersAside (s.endOwned i cause) := by
  unfold State.endOwned
  split
  · exact .of_inputs rfl
  · split
    · exact .of_inputs rfl
    · next h _ => exact (s.ownersAside_removeHold h).trans (.of_inputs (s.work_endHold h cause).inputs_eq)

/-- The hold that an input owns, and that is its own, ends (R128, R136). -/
theorem State.endOwned_ended (hn : (s.holds.map Hold.id).Nodup) {h : Hold} (hh : h ∈ s.holds) (ho : (s.input i).owned = some h.id)
    (hi : h.origin = .input i) (cause : HoldCause) :
    (s.endOwned i cause).holds = s.holds.filter (fun g => decide (g.id ≠ h.id)) ∧
    ((s.endOwned i cause).input i).owned = none := by
  have hfind : s.findHold h.id = some h := by
    obtain ⟨g, hg⟩ : ∃ g, s.findHold h.id = some g :=
      Option.isSome_iff_exists.mp (List.find?_isSome.mpr ⟨h, hh, beq_self_eq_true h.id⟩)
    have hid : g.id = h.id := by simpa using List.find?_some hg
    obtain rfl : g = h := List.inj_on_of_nodup_map hn (List.mem_of_find?_eq_some hg) hh hid
    exact hg
  have hend : s.endOwned i cause = s.endHold h cause := by
    unfold State.endOwned
    rw [ho]
    dsimp only
    rw [hfind]
  have hwork := s.work_endHold h cause
  have hrem : s.removeHold h = State.updInput { s with holds := s.holds.filter (fun x => !(x.id == h.id)) } i
      (fun x => if x.owned = some h.id then { x with owned := none } else x) := by
    unfold State.removeHold
    rw [hi]
  rw [hend]
  refine ⟨hwork.holds_eq.trans ?_, ?_⟩
  · rw [hrem]
    exact List.filter_congr fun g _ => by by_cases hg : g.id = h.id <;> simp [hg]
  · rw [hwork.input_eq, hrem, State.input_updInput, if_pos rfl]
    exact congrArg Input.owned (if_pos (c := (s.input i).owned = some h.id) ho)

theorem State.ownersAside_makeInputHold (s : State) (i : InputNo) : s.OwnersAside (s.makeInputHold i) := by
  unfold State.makeInputHold
  split
  · exact .of_inputs rfl
  · exact .trans (t := s.addHold _) (.of_inputs (s.work_addHold _).inputs_eq) (State.ownersAside_updInput _ i fun _ => rfl)

theorem State.ownersAside_fireChange (s : State) (b : Bool) : s.OwnersAside (s.fireChange b) :=
  .of_inputs (s.work_fireChange b).inputs_eq

/-- What an input's function does to the inputs. -/
theorem State.ownersAside_takeActivity (s : State) (i : InputNo) (was : Bool) : s.OwnersAside (s.takeActivity i was) := by
  have hsame : s.OwnersAside s := .of_inputs rfl
  unfold State.takeActivity
  split
  · unfold State.becameActive
    split
    · exact s.ownersAside_makeInputHold i
    · exact .of_inputs (Work.giveInput i .lock).inputs_eq
    · exact .of_inputs (Work.giveInput i .release).inputs_eq
    · exact s.ownersAside_fireChange true
    all_goals exact hsame
  · unfold State.becameInactive
    split
    · exact s.ownersAside_endOwned i .input
    · exact s.ownersAside_fireChange false
    all_goals exact hsame
  all_goals exact hsame

end

end Sys2Proof.Machine




namespace Sys2Proof.Machine

/-! ### A level is accepted (R133, R134, R136) -/

section
variable {s : State} {i : InputNo} {c : Candidate}

/-- The state with a candidate's level as the debounced one. -/
def State.accepted (s : State) (i : InputNo) (c : Candidate) : State := s.updInput i (Input.accept c)

theorem State.accepted_eq (s : State) (i : InputNo) (c : Candidate) : s.accepted i c =
    s.withInputs (s.inputs.set i.val { s.input i with level := some c.level, candidate := none }) := rfl

theorem State.input_accepted (s : State) (i : InputNo) (c : Candidate) (j : InputNo) : (s.accepted i c).input j =
    if j = i then { s.input i with level := some c.level, candidate := none } else s.input j :=
  State.input_updInput s i j (Input.accept c)

theorem State.input_accepted_self (s : State) (i : InputNo) (c : Candidate) : (s.accepted i c).input i =
    { s.input i with level := some c.level, candidate := none } := by
  rw [State.input_accepted, if_pos rfl]

theorem State.active_accepted (s : State) (i : InputNo) (c : Candidate) :
    ((s.accepted i c).input i).active = decide (c.level = (s.input i).activeLevel) := by
  rw [State.input_accepted_self, Input.active, beq_eq_decide]
  exact decide_eq_decide.mpr (Option.some_inj (a := c.level))

/-- The notice of an input that has been accepted. -/
theorem State.raiseInput_accepted (s : State) (i : InputNo) (c : Candidate) (refused : Bool) : (s.accepted i c).raiseInput i refused =
    { s.accepted i c with
      noticeSet := s.noticeSet.raise s.clock.stamp .input (.input i)
        (.input c.level (decide (c.level = (s.input i).activeLevel)) refused) } := by
  unfold State.raiseInput
  dsimp only
  rw [State.active_accepted, State.input_accepted_self]
  rfl

theorem State.takeActivity_eq (s : State) (i : InputNo) (was : Bool) : s.takeActivity i was =
    if (s.input i).active = was then s else if was = true then s.becameInactive i else s.becameActive i := by
  unfold State.takeActivity
  cases was <;> cases (s.input i).active <;> rfl

theorem State.acceptLevel_none (hc : (s.input i).candidate = none) : s.acceptLevel i = s := by
  unfold State.acceptLevel
  rw [hc]

theorem State.acceptLevel_short (hc : (s.input i).candidate = some c) (h : c.held < 50) : s.acceptLevel i = s := by
  unfold State.acceptLevel
  rw [hc]
  exact if_pos h

section
variable (hc : (s.input i).candidate = some c) (h : ¬ c.held < 50)
include hc h

theorem State.acceptLevel_eq : s.acceptLevel i = State.takeActivity i (decide ((s.input i).level = some (s.input i).activeLevel))
    (if (s.input i).function = .report then (s.accepted i c).raiseInput i false else s.accepted i c) := by
  have hfun : ((s.accepted i c).input i).function = (s.input i).function := by rw [State.input_accepted_self]
  rw [← hfun, ← beq_eq_decide]
  unfold State.acceptLevel
  rw [hc]
  exact if_neg h

/-- A REPORT input tells of every level (R136). -/
theorem State.acceptLevel_report (hf : (s.input i).function = .report) : s.acceptLevel i = (s.accepted i c).raiseInput i false := by
  have hfun : (((s.accepted i c).raiseInput i false).input i).function = .report :=
    (congrArg Input.function (s.input_accepted_self i c)).trans hf
  rw [State.acceptLevel_eq hc h, if_pos hf, State.takeActivity_eq, State.becameActive, State.becameInactive, hfun]
  simp only [ite_self]

/-- Any other takes a change of its activity. -/
theorem State.acceptLevel_other (hf : (s.input i).function ≠ .report) : s.acceptLevel i =
    if decide (c.level = (s.input i).activeLevel) = decide ((s.input i).level = some (s.input i).activeLevel) then s.accepted i c
    else if decide ((s.input i).level = some (s.input i).activeLevel) = true then (s.accepted i c).becameInactive i
    else (s.accepted i c).becameActive i := by
  rw [State.acceptLevel_eq hc h, if_neg hf, State.takeActivity_eq, State.active_accepted]

theorem State.ownersAside_acceptLevel : (s.accepted i c).OwnersAside (s.acceptLevel i) := by
  rw [State.acceptLevel_eq hc h]
  refine .trans (.of_inputs ?_) (State.ownersAside_takeActivity _ i _)
  split <;> rfl

end

theorem State.function_accepted (s : State) (i : InputNo) (c : Candidate) :
    ((s.accepted i c).input i).function = (s.input i).function := by rw [State.input_accepted_self]

/-- The givings of an input that has been accepted. -/
theorem State.giveInput_accepted (s : State) (i : InputNo) (c : Candidate) (dir : Direction) : (s.accepted i c).giveInput i dir =
    ((s.accepted i c).giveSet .input ((zonesOf (s.input i).zones).map (fun z => (z, dir)))).1 := by
  unfold State.giveInput
  rw [State.input_accepted_self]

theorem State.giveInput_oneZone {z : ZoneNo} (hz : (s.input i).zones = oneZone z) (dir : Direction) :
    (s.accepted i c).giveInput i dir = ((s.accepted i c).give z dir .input).1 := by
  rw [State.giveInput_accepted, hz, zonesOf_oneZone]
  rfl

theorem State.giveInput_settled (hs : s.SweepLaw) {z : ZoneNo} (hz : (s.input i).zones.getLsbD z.val = true) {dir : Direction}
    (hb : dir = .lock → ¬ s.Barred z) : s.Settled ((s.accepted i c).giveInput i dir) z dir .input := by
  rw [State.giveInput_accepted]
  have h := State.SweepLaw.settled (s := s.accepted i c) (l := (zonesOf (s.input i).zones).map (fun z => (z, dir))) hs hb
    (by rw [List.map_map]; exact (List.map_id (zonesOf (s.input i).zones)).symm ▸ zonesOf_nodup _)
    (List.mem_map_of_mem (mem_zonesOf.mpr hz)) .input
  exact h.ofInputs

end

end Sys2Proof.Machine




namespace Sys2Proof.Machine

/-! ### The debounce and the functions of the inputs (R133 to R138) -/

/-- A sampled level writes the candidate alone (R134). -/
theorem Input.sample_eq (l : Level) (x : Input) : x.sample l = { x with
    candidate :=
      if x.level = some l then none
      else if x.candidate.map Candidate.level = some l then x.candidate
      else some ⟨l, 0⟩ } := by
  obtain ⟨activeLevel, function, zones, kind, level, candidate, owned⟩ := x
  unfold Input.sample
  dsimp only
  by_cases hl : level = some l
  · rw [if_pos hl, if_pos hl]
  · rw [if_neg hl, if_neg hl]
    cases candidate with
    | none => rfl
    | some c =>
      by_cases hcl : c.level = l
      · exact (if_pos hcl).trans (by rw [Option.map_some, if_pos (congrArg some hcl)])
      · exact (if_neg hcl).trans (by rw [Option.map_some, if_neg fun h => hcl (Option.some.inj h)])

theorem exec_inputLevelChange (s : State) (i : InputNo) (l : Level) :
    exec (.inputLevelChange i l) s = .next { s with inputs := s.inputs.set i.val { s.input i with
      candidate :=
        if (s.input i).level = some l then none
        else if (s.input i).candidate.map Candidate.level = some l then (s.input i).candidate
        else some ⟨l, 0⟩ } } := by
  rw [← Input.sample_eq]
  rfl

section
variable {s : State} {i : InputNo} {c : Candidate} (hc : (s.input i).candidate = some c) (h : ¬ c.held < 50)
include hc h

theorem State.acceptLevel_active (hf : (s.input i).function ≠ .report) (hnow : decide (c.level = (s.input i).activeLevel) = true)
    (hwas : decide ((s.input i).level = some (s.input i).activeLevel) = false) :
    s.acceptLevel i = (s.accepted i c).becameActive i := by
  rw [State.acceptLevel_other hc h hf, hnow, hwas]
  rfl

theorem State.acceptLevel_inactive (hf : (s.input i).function ≠ .report) (hnow : decide (c.level = (s.input i).activeLevel) = false)
    (hwas : decide ((s.input i).level = some (s.input i).activeLevel) = true) :
    s.acceptLevel i = (s.accepted i c).becameInactive i := by
  rw [State.acceptLevel_other hc h hf, hnow, hwas]
  rfl

/-- NONE, or no change of the activity. -/
theorem State.acceptLevel_unmoved (hf : (s.input i).function = .none ∨
      (decide (c.level = (s.input i).activeLevel) = decide ((s.input i).level = some (s.input i).activeLevel) ∧
        (s.input i).function ≠ .report)) : s.acceptLevel i = s.accepted i c := by
  rcases hf with hf | ⟨hsame, hf⟩
  · have hfun := (s.function_accepted i c).trans hf
    rw [State.acceptLevel_other hc h (by rw [hf]; nofun), State.becameActive, State.becameInactive, hfun]
    simp only [ite_self]
  · rw [State.acceptLevel_other hc h hf, if_pos hsame]

/-- A LOCK or RELEASE input that becomes active gives its zones their markers. -/
theorem State.acceptLevel_gives (hf : (s.input i).function = .lock ∨ (s.input i).function = .release)
    (hnow : decide (c.level = (s.input i).activeLevel) = true)
    (hwas : decide ((s.input i).level = some (s.input i).activeLevel) = false) :
    s.acceptLevel i = (s.accepted i c).giveInput i (if (s.input i).function = .lock then .lock else .release) := by
  have hr : (s.input i).function ≠ .report := by rcases hf with hf | hf <;> rw [hf] <;> nofun
  rw [State.acceptLevel_active hc h hr hnow hwas, State.becameActive, State.function_accepted]
  rcases hf with hf | hf <;> rw [hf] <;> rfl

/-- One that becomes inactive has no effect. -/
theorem State.acceptLevel_released (hf : (s.input i).function = .lock ∨ (s.input i).function = .release)
    (hnow : decide (c.level = (s.input i).activeLevel) = false)
    (hwas : decide ((s.input i).level = some (s.input i).activeLevel) = true) : s.acceptLevel i = s.accepted i c := by
  have hr : (s.input i).function ≠ .report := by rcases hf with hf | hf <;> rw [hf] <;> nofun
  rw [State.acceptLevel_inactive hc h hr hnow hwas, State.becameInactive, State.function_accepted]
  rcases hf with hf | hf <;> rw [hf]

/-- The fire state follows OV0 (R138). -/
theorem State.fire_acceptLevel (hf : (s.input i).function = .fire) : (s.acceptLevel i).fire =
    if decide (c.level = (s.input i).activeLevel) = decide ((s.input i).level = some (s.input i).activeLevel) then s.fire
    else fireAfter (decide (c.level = (s.input i).activeLevel)) s.fire := by
  have hfun := (s.function_accepted i c).trans hf
  have hfire := fun b => ((s.accepted i c).work_fireChange b).fire_eq
  rw [State.acceptLevel_other hc h (by rw [hf]; nofun), State.becameActive, State.becameInactive, hfun]
  cases decide (c.level = (s.input i).activeLevel) <;> cases decide ((s.input i).level = some (s.input i).activeLevel)
  · rfl
  · exact hfire false
  · exact hfire true
  · rfl

end

/-- Settles O36: the candidate of a sampled level, and what each function makes of an accepted one; a zone of a set of
givings is followed through the givings of the others, before and after its own. -/
theorem inputLevelsAreDebouncedAndTaken : Obligations.InputLevelsAreDebouncedAndTaken := by
  refine ⟨exec_inputLevelChange, fun s i => ⟨s.acceptLevel i, rfl, ?_⟩⟩
  cases hc : (s.input i).candidate with
  | none => exact State.acceptLevel_none hc
  | some c =>
    by_cases hh : c.held < 50
    · exact (if_pos (c := c.held < 50) hh).mpr (State.acceptLevel_short hc hh)
    refine (if_neg (c := c.held < 50) hh).mpr ?_
    have howner := State.ownersAside_acceptLevel hc hh
    refine ⟨fun j hj => ?others, ?self, fun hf => ?report, fun hf => ?unmoved, fun hf hnow hwas => ?held,
      fun hf hnow hwas hn h hmem ho hi => ?ended, fun hf hnow hwas hs => ?gives, fun hf hnow hwas => ?released, fun hf => ?fire⟩
    case others => exact (howner j).trans (by rw [State.input_accepted, if_neg hj])
    case self => exact (howner i).trans (by rw [State.input_accepted_self])
    case report => exact (State.acceptLevel_report hc hh hf).trans (s.raiseInput_accepted i c false)
    case unmoved => exact State.acceptLevel_unmoved hc hh hf
    case held =>
      have heq : s.acceptLevel i = (s.accepted i c).makeInputHold i := by
        rw [State.acceptLevel_active hc hh (by rw [hf]; nofun) hnow hwas, State.becameActive, State.function_accepted, hf]
      rw [heq]
      by_cases hfull : 16 ≤ s.holds.length
      · refine (if_pos (c := 16 ≤ s.holds.length) hfull).mpr ?_
        exact (State.makeInputHold_full (s := s.accepted i c) hfull).trans (s.raiseInput_accepted i c true)
      · refine (if_neg (c := 16 ≤ s.holds.length) hfull).mpr ?_
        obtain ⟨h, hmem, hholds, hkind, hscope, hrest⟩ :=
          State.makeInputHold_made (s := s.accepted i c) (i := i) (Nat.not_le.mp hfull)
        rw [State.input_accepted_self] at hkind hscope
        exact ⟨h, hmem, hholds, hkind, hscope, hrest⟩
    case ended =>
      have heq : s.acceptLevel i = (s.accepted i c).endOwned i .input := by
        rw [State.acceptLevel_inactive hc hh (by rw [hf]; nofun) hnow hwas, State.becameInactive, State.function_accepted, hf]
      rw [heq]
      exact State.endOwned_ended (s := s.accepted i c) hn hmem (by rw [State.input_accepted_self]; exact ho) hi .input
    case gives =>
      have heq := State.acceptLevel_gives hc hh hf hnow hwas
      rw [heq]
      refine ⟨fun z hz hb => (State.giveInput_settled hs hz hb).outcome hs, fun z hz => ?_⟩
      rw [State.giveInput_oneZone hz]
      refine ⟨fun hd hb => ?_, fun hb => ⟨State.giveInput_ignored hs hb, State.giveInput_waiting hb,
        fun k hno hk hlow => State.giveInput_started hb hno hk hlow⟩⟩
      rw [State.give_declined (s := s.accepted i c) hd hb]
      rfl
    case released => exact State.acceptLevel_released hc hh hf hnow hwas
    case fire =>
      rw [State.fire_acceptLevel hc hh hf]
      cases decide (c.level = (s.input i).activeLevel) <;> cases decide ((s.input i).level = some (s.input i).activeLevel) <;>
        cases s.fire <;> rfl

end Sys2Proof.Machine
